-- ==== Sys2Proof/Word.lean ====
section
/-! DEFINITION. Bytes of frames and the plainest arithmetic of the part: tallies that saturate and counters that wrap. -/

namespace Sys2Proof

/-- One byte of a frame (R174). -/
abbrev Byte := BitVec 8

/-- A tally raised by one that stays at its limit once there (R11, R49, R79, R119). -/
def satInc (limit n : Nat) : Nat := if n < limit then n + 1 else limit

/-- A serial or sequence counter of 1 to 65,535 advanced by one; after 65,535 it returns to 1 (R99, R126, R147). -/
def nextSerial (n : Nat) : Nat := if n < 65535 then n + 1 else 1

/-- The place of a number in a list of named values, counted from 1, as a choice is coded (R185). -/
def choiceCode {α : Type} [DecidableEq α] (names : List α) (a : α) : Nat := names.idxOf a + 1

end Sys2Proof
end

