-- ==== Sys2Proof/Config.lean ====
section
/-! DEFINITION. What the part fixes: the sizes of its stores and the periods of its time base (in units of 0.1 ms), and the values that the spec leaves open. -/

namespace Sys2Proof.Config

/-- A value the spec does not state; nothing constrains it. Log 12. -/
opaque freeNat : Nat → Nat

/-- Limit of a 16-bit tally (R11, R49, R98, R119, R186). -/
def tallyMax : Nat := 65535
/-- Limit of the lookup tallies (R79) and of the session clock (R162). -/
def longMax : Nat := 4294967295
/-- The greatest tag (00_scope.md, Terms). -/
def tagMax : Nat := 999999999
/-- The greatest cabin (R61). -/
def cabinMax : Nat := 9999
/-- Buckets of the manifest, and ways of one bucket (R62). -/
def buckets : Nat := 1021
def ways : Nat := 8
/-- Counters of the presence filter, and the value at which one is sticky (R63). -/
def cells : Nat := 4093
def counterMax : Nat := 15
/-- Orders of one chute queue (R100). -/
def queueMax : Nat := 8
/-- Confirmations of one awaiting list (R129). -/
def awaitingMax : Nat := 4
/-- Reports of the report queue (R133), and entries of one CART frame (R134). -/
def reportsMax : Nat := 8
def cartPage : Nat := 20
/-- Slots of cart memory (R123). -/
def cartSlots : Nat := 4096
/-- Records of the stray list (R147). -/
def straysMax : Nat := 512
/-- Frames of the timing queue (R180) and of one forward queue (R178). -/
def timingMax : Nat := 16
def forwardMax : Nat := 8
/-- Requests of the request queue (R187), replies of the reply list (R188), notices of the notice queue (R197). -/
def requestsMax : Nat := 4
def repliesMax : Nat := 8
def noticesMax : Nat := 64
/-- Trays considered by one allocation search (R33). -/
def candidatesMax : Nat := 16
/-- Payload bytes of one frame (R174, section 10.7). -/
def payloadMax : Nat := 240

/-- One unit of the model's time base is 0.1 ms (R74); the other periods in that unit. -/
def perMs : Nat := 10
/-- 10 ms: speed window (R11), training frames (R175), idle measure (R176). -/
def tenMs : Nat := 100
/-- 50 ms without a valid frame (R175). -/
def linkLoss : Nat := 500
/-- 100 ms in DOWN (R175). -/
def holdOff : Nat := 1000
/-- One second of the session clock (R162). -/
def second : Nat := 10000

end Sys2Proof.Config
end

