-- ==== Sys2Proof/Syntax.lean ====
section
/-! DEFINITION. The commands of the part, one constructor of Instr for each row of spec/opcode_table.json, with the operands that each event or request carries. Numbers that a payload may carry out of range stay plain numbers here: the part itself checks them. -/

namespace Sys2Proof

/-- The two ports of the line link: UP faces the sort host, DOWN faces the field nodes (chapter 10). -/
inductive PortId where
  | up
  | down
  deriving DecidableEq, Repr

/-- The two phases of the chain encoder (section 1.2). -/
inductive EncPhase where
  | a
  | b
  deriving DecidableEq, Repr

/-- A field frame's payload as its owner reads it: all fields of the layout, or a payload too short to hold them (R179). -/
inductive Body (α : Type) where
  | full (fields : α)
  | short (bytes : List Byte)
  deriving DecidableEq, Repr

/-- BRDY's payload (section 10.7). -/
structure BrdyBody where
  line : Nat
  tag1 : Nat
  tag2 : Nat
  deriving DecidableEq, Repr

/-- LDON's payload; outcome 1 is OK, 2 is FAILED (section 10.7). -/
structure LdonBody where
  line : Nat
  tray : Nat
  outcome : Nat
  deriving DecidableEq, Repr

/-- TSCN's payload; occupancy 1 is OCCUPIED, 2 is EMPTY (section 10.7). -/
structure TscnBody where
  tray : Nat
  occupancy : Nat
  tag1 : Nat
  tag2 : Nat
  deriving DecidableEq, Repr

/-- Where a request came from: the source station and the sequence that its reply carries (R187, R188). -/
structure ReqHdr where
  src : Nat
  seq : Nat
  deriving DecidableEq, Repr

/-- STAT's operands: the part's code (1 SESSION to 8 LINK, in the order of R191) and a first number. -/
structure StatArg where
  part : Nat
  first : Nat
  deriving DecidableEq, Repr

/-- What the MODE OPEN row carries: the voyage number; or a payload that ends before it; or an action code that names none of the six actions (R163; log 13). -/
inductive ModeOpenArg where
  | voyage (n : Nat)
  | short
  | badAction (code : Nat)
  deriving DecidableEq, Repr

/-- One induction line of an LCFG (section 11.4); enable 1 is set, 0 clear. -/
structure LineArg where
  loc : Nat
  delay : Nat
  gap : Nat
  station : Nat
  enable : Nat
  deriving DecidableEq, Repr

/-- LCFG's loop configuration (section 11.4). Codes: default action 1 RECIRCULATE, 2 STRAY; policy 1 KEEP_OLDEST, 2 DROP_OLDEST; an enable 1 set, 0 clear. -/
structure LoopArg where
  trays : Nat
  pitch : Nat
  driftTol : Nat
  archLoc : Nat
  archDelay : Nat
  archStation : Nat
  lines : List LineArg
  lapLimit : Nat
  dflt : Nat
  straySet : List Nat
  policy : Nat
  stopOut : Nat
  stopIn : Nat
  deriving DecidableEq, Repr

/-- One chute of a CCFG (R121); side 1 LEFT, 2 RIGHT; stop_on_fault 1 set, 0 clear. -/
structure ChuteArg where
  loc : Nat
  delay : Nat
  window : Nat
  side : Nat
  capacity : Nat
  watermark : Nat
  confirm : Nat
  station : Nat
  stopOnFault : Nat
  deriving DecidableEq, Repr

/-- One part of a chute table (R121). -/
structure CcfgArg where
  first : Nat
  count : Nat
  final : Nat
  chutes : List ChuteArg
  deriving DecidableEq, Repr

/-- One zone (R80). -/
structure Zone where
  ending : Nat
  deck : Nat
  sec : Nat
  deriving DecidableEq, Repr

/-- A rule's match as carried (R83); `other` is a code outside the list of match kinds. -/
inductive MatchArg where
  | zone (lo hi : Nat)
  | deck (lo hi : Nat) (sec : Option Nat)
  | group (value : Nat)
  | flag (code : Nat)
  | tag (lo hi : Nat)
  | reason (code : Nat)
  | any
  | other (code : Nat)
  deriving DecidableEq, Repr

/-- One rule as carried by RLOAD and RSET (R83); action 1 TO_CHUTE, 2 TO_SET, 3 RECIRCULATE, 4 STRAY. -/
structure RuleArg where
  enabled : Nat
  mtch : MatchArg
  action : Nat
  targets : List Nat
  deriving DecidableEq, Repr

/-- One part of a rule list (R94). -/
structure RloadArg where
  first : Nat
  count : Nat
  final : Nat
  rules : List RuleArg
  deriving DecidableEq, Repr

/-- RSET's operands (R96). -/
structure RsetArg where
  number : Nat
  rule : RuleArg
  deriving DecidableEq, Repr

/-- One entry of an MPUT (R67); a flag 1 is set, 0 clear. -/
structure PutArg where
  tag : Nat
  cabin : Nat
  group : Nat
  priority : Nat
  oversize : Nat
  deriving DecidableEq, Repr

/-- MPUT's operands (R67). -/
structure MputArg where
  count : Nat
  entries : List PutArg
  deriving DecidableEq, Repr

/-- MDEL's operands (R68). -/
structure MdelArg where
  count : Nat
  tags : List Nat
  deriving DecidableEq, Repr

/-- What the first row of a command family carries: the number the action is carried out on, or a payload too short, or an action code that names no action of the family (log 13). -/
inductive ActionArg where
  | of (number : Nat)
  | short
  | badAction (code : Nat)
  deriving DecidableEq, Repr

/-- CRD's operands (R144). -/
structure CrdArg where
  chute : Nat
  first : Nat
  deriving DecidableEq, Repr

/-- SRD's operands (R155). -/
structure SrdArg where
  serial : Nat
  count : Nat
  deriving DecidableEq, Repr

/-- SRES's operands (R156). -/
structure SresArg where
  serial : Nat
  tag : Nat
  cabin : Nat
  deriving DecidableEq, Repr

/-- A management request with its payload decoded. An operand of `none` stands for a payload too short to hold what the request requires (R179, R185). -/
inductive Request where
  | stat (arg : Option StatArg)
  | modeOpen (arg : ModeOpenArg)
  | modeShadow
  | modeSetup
  | modeSort
  | modeDrain
  | modeClose
  | lcfg (arg : Option LoopArg)
  | ccfg (arg : Option CcfgArg)
  | zload (arg : Option (List Zone))
  | rload (arg : Option RloadArg)
  | rset (arg : Option RsetArg)
  | mput (arg : Option MputArg)
  | mdel (arg : Option MdelArg)
  | mget (arg : Option Nat)
  | hold (arg : Option Nat)
  | rlse (arg : Option Nat)
  | fbld
  | ccmdOpen (arg : ActionArg)
  | ccmdClose (chute : Nat)
  | ccmdForceClose (chute : Nat)
  | ccmdClearFault (chute : Nat)
  | tcmdDisable (arg : ActionArg)
  | tcmdEnable (tray : Nat)
  | crd (arg : Option CrdArg)
  | srd (arg : Option SrdArg)
  | sres (arg : Option SresArg)
  | sdel (arg : Option Nat)
  | sstp
  | clrs
  | lrst
  deriving DecidableEq, Repr

/-- The commands: one constructor for each row of spec/opcode_table.json. A request's row is the execution of that request (R187). -/
inductive Instr where
  | encoderStep (phase : EncPhase)
  | homePulse
  | stopLevelChange (held : Bool)
  | powerOnReset (straps : Nat)
  | speedSample
  | sessionClockTick
  | confirmationExpiry (chute : Nat)
  | bucketScan
  | frameReceived (port : PortId) (broken : Bool) (bytes : List Byte)
  | trainingFrame (port : PortId)
  | idleFrame (port : PortId)
  | linkTimeout (port : PortId)
  | linkHoldoffEnd (port : PortId)
  | trainingSend (port : PortId)
  | idleSend (port : PortId)
  | downFrameTransmitted
  | upFrameTransmitted
  | brdy (src : Nat) (body : Body BrdyBody)
  | ldon (src : Nat) (body : Body LdonBody)
  | tscn (src : Nat) (body : Body TscnBody)
  | ceye (src : Nat) (chute : Body Nat)
  | cout (src : Nat) (chute : Body Nat)
  | cin (src : Nat) (chute : Body Nat)
  | cflt (src : Nat) (chute : Body Nat)
  | cclr (src : Nat) (chute : Body Nat)
  | requestIntake (hdr : ReqHdr) (request : Request)
  | stat (hdr : ReqHdr) (arg : Option StatArg)
  | modeOpen (hdr : ReqHdr) (arg : ModeOpenArg)
  | modeShadow (hdr : ReqHdr)
  | modeSetup (hdr : ReqHdr)
  | modeSort (hdr : ReqHdr)
  | modeDrain (hdr : ReqHdr)
  | modeClose (hdr : ReqHdr)
  | lcfg (hdr : ReqHdr) (arg : Option LoopArg)
  | ccfg (hdr : ReqHdr) (arg : Option CcfgArg)
  | zload (hdr : ReqHdr) (arg : Option (List Zone))
  | rload (hdr : ReqHdr) (arg : Option RloadArg)
  | rset (hdr : ReqHdr) (arg : Option RsetArg)
  | mput (hdr : ReqHdr) (arg : Option MputArg)
  | mdel (hdr : ReqHdr) (arg : Option MdelArg)
  | mget (hdr : ReqHdr) (arg : Option Nat)
  | hold (hdr : ReqHdr) (arg : Option Nat)
  | rlse (hdr : ReqHdr) (arg : Option Nat)
  | fbld (hdr : ReqHdr)
  | ccmdOpen (hdr : ReqHdr) (arg : ActionArg)
  | ccmdClose (hdr : ReqHdr) (chute : Nat)
  | ccmdForceClose (hdr : ReqHdr) (chute : Nat)
  | ccmdClearFault (hdr : ReqHdr) (chute : Nat)
  | tcmdDisable (hdr : ReqHdr) (arg : ActionArg)
  | tcmdEnable (hdr : ReqHdr) (tray : Nat)
  | crd (hdr : ReqHdr) (arg : Option CrdArg)
  | srd (hdr : ReqHdr) (arg : Option SrdArg)
  | sres (hdr : ReqHdr) (arg : Option SresArg)
  | sdel (hdr : ReqHdr) (arg : Option Nat)
  | sstp (hdr : ReqHdr)
  | clrs (hdr : ReqHdr)
  | lrst (hdr : ReqHdr)
  | bothPhasesChangeTogether
  deriving DecidableEq, Repr

end Sys2Proof
end

