-- ==== Sys2Proof/Decode.lean ====
section
/-! DEFINITION. Commands from words of the opcode table: the table gives no row any bits, so no word spells a command. The frames that carry commands as bytes are read in Machine/Operands.lean (R174, R185). -/

namespace Sys2Proof

/-- The command that a word spells by the bits of spec/opcode_table.json: none, since no row has bits. -/
def decodeTableWord (_nbits _w : Nat) : Option Instr := none

end Sys2Proof
end

