-- ==== Sys2Proof/Machine/State.lean ====
section
/-! DEFINITION. The state of the part as plain data, block by block, and State.reset, the state right after power-on reset. -/

namespace Sys2Proof.Machine

/-! ## Chain Tracker (chapter 1) -/

/-- Tracking states (section 1.3). -/
inductive TrackState where
  | unconfigured
  | unsynced
  | tracking
  | lost
  deriving DecidableEq, Repr

/-- Causes of the STOP latch, in the order of R16's table. -/
inductive StopCause where
  | encoder
  | drift (e : Int)
  | linkDown
  | chuteFault (chute : Nat)
  | sstp
  deriving DecidableEq, Repr

/-- An ARMED approach monitor: the tray it watches and its current lead (R14). Its owner is where it stands; its location, delay and window are the owner's station values. A DISARMED monitor is none. -/
structure Monitor where
  tray : Nat
  lead : Nat
  deriving DecidableEq, Repr

/-- The loop geometry and the arch's station values of an accepted LCFG (R1, R2, R6). -/
structure Geometry where
  trays : Nat
  pitch : Nat
  driftTol : Nat
  archLoc : Nat
  archDelay : Nat
  archStation : Nat
  deriving DecidableEq, Repr

/-- What the Chain Tracker holds (R10); `latch` is none while the STOP latch is released. -/
structure Tracker where
  state : TrackState
  geo : Option Geometry
  disp : Nat
  speed : Nat
  net : Int
  windowStart : Nat
  homeCorrection : Int
  latch : Option StopCause
  stopOut : Bool
  stopIn : Bool
  speedClamps : Nat
  archClamped : Nat
  deriving DecidableEq, Repr

/-- The levels of the lines that others drive: the encoder phases (true is high) and whether another party holds STOP asserted. -/
structure Pins where
  encA : Bool
  encB : Bool
  stopHeld : Bool
  deriving DecidableEq, Repr

/-! ## Tray Table and Induction Merge Unit (chapter 2) -/

/-- The nine tray states (R21). -/
inductive TrayState where
  | empty
  | reserved
  | launching
  | loaded
  | routed
  | recirculate
  | dropping
  | doubt
  | disabled
  deriving DecidableEq, Repr

/-- The eight stray reasons, in the order of R83's REASON row. -/
inductive StrayReason where
  | noRead
  | tagConflict
  | notOnManifest
  | cabinUnassigned
  | outOfPlan
  | screeningHold
  | lapLimit
  | noRoute
  deriving DecidableEq, Repr

/-- One tray record (R21). -/
structure Tray where
  state : TrayState
  tag : Nat
  tag2 : Nat
  cabin : Nat
  zone : Option Nat
  lap : Nat
  source : Option Nat
  target : Option Nat
  seq : Option Nat
  serial : Option Nat
  reason : Option StrayReason
  deriving DecidableEq, Repr

/-- An induction line's configuration (R28). -/
structure LineCfg where
  loc : Nat
  delay : Nat
  gap : Nat
  station : Nat
  enable : Bool
  deriving DecidableEq, Repr

/-- The four line states with the record that goes with each (R29). -/
inductive LineState where
  | free
  | held (tag1 tag2 : Nat)
  | reserved (tray tag1 tag2 : Nat)
  | launched (tray tag1 tag2 : Nat)
  deriving DecidableEq, Repr

/-- One induction line: its configuration (none while not configured), line state, yield bar, launch monitor and LEAD_CLAMPED tally. -/
structure Line where
  cfg : Option LineCfg
  state : LineState
  bar : List Nat
  mon : Option Monitor
  clamped : Nat
  deriving DecidableEq, Repr

/-- Reasons of IREF (R31). -/
inductive IrefReason where
  | mode
  | lineOff
  | busy
  deriving DecidableEq, Repr

/-- One unsent IREF; `begun` while its frame is in transmission (R31, R181). -/
structure Iref where
  line : Nat
  tag1 : Nat
  tag2 : Nat
  reason : IrefReason
  begun : Bool
  deriving DecidableEq, Repr

/-! ## Scan Reconciler (chapter 3) -/

/-- What the Scan Reconciler holds (R49). -/
structure Arch where
  mon : Option Monitor
  outstanding : Option Nat
  lapLimit : Option Nat
  sent : Nat
  missed : Nat
  replaced : Nat
  stale : Nat
  rejected : Nat
  skipped : Nat
  deriving DecidableEq, Repr

/-! ## Manifest Store (chapter 4) -/

/-- One manifest entry (R61). -/
structure Entry where
  tag : Nat
  cabin : Nat
  group : Nat
  hold : Bool
  priority : Bool
  oversize : Bool
  deriving DecidableEq, Repr

/-- A running filter rebuild: the scan point and the fresh filter (R73). -/
structure Rebuild where
  scanPoint : Nat
  fresh : List (Nat × Nat)
  deriving DecidableEq, Repr

/-- What the Manifest Store holds. `entries` lists the used ways, keyed by bucket * 8 + way; `filter` lists the nonzero counters, keyed by cell; both with keys strictly rising (Ops.lean, Table). -/
structure Manifest where
  entries : List (Nat × Entry)
  filter : List (Nat × Nat)
  rebuild : Option Rebuild
  lookups : Nat
  filterAbsent : Nat
  filterFalse : Nat
  rebuildsDone : Nat
  rebuildsAbandoned : Nat
  deriving DecidableEq, Repr

/-! ## Route Resolver (chapter 5) -/

/-- The flags that FLAG rules match (R83). -/
inductive RuleFlag where
  | priority
  | oversize
  deriving DecidableEq, Repr

/-- A rule's match kind with its values (R83). -/
inductive Match where
  | zone (lo hi : Nat)
  | deck (lo hi : Nat) (sec : Option Nat)
  | group (value : Nat)
  | flag (f : RuleFlag)
  | tag (lo hi : Nat)
  | reason (r : StrayReason)
  | any
  deriving DecidableEq, Repr

/-- A rule's action with its targets (R83). -/
inductive Action where
  | toChute (chute : Nat)
  | toSet (chutes : List Nat)
  | recirculate
  | stray
  deriving DecidableEq, Repr

/-- One rule with its tallies (R83). -/
structure Rule where
  enabled : Bool
  mtch : Match
  action : Action
  taken : Nat
  passed : Nat
  deriving DecidableEq, Repr

/-- The default action (R97). -/
inductive DefaultAction where
  | recirculate
  | stray
  deriving DecidableEq, Repr

/-- What the Route Resolver holds (R98). The staging list is CLOSED when it holds no rule, OPEN with its length as staged count otherwise (R93). -/
structure Router where
  zones : List Zone
  zonesLoaded : Bool
  rules : List Rule
  rulesLoaded : Bool
  staging : List Rule
  dflt : DefaultAction
  straySet : List Nat
  defaults : Nat
  straySets : Nat
  blocked : Nat
  drainReplaced : Nat
  deriving DecidableEq, Repr

/-! ## Discharge Scheduler (chapter 6) and Chute and Cart Unit (chapter 7) -/

/-- Kinds of a route to a chute (R99). -/
inductive RouteKind where
  | deck
  | stray
  deriving DecidableEq, Repr

/-- One order (R99); the chute is the one whose queue holds it. -/
structure Order where
  tray : Nat
  seq : Nat
  kind : RouteKind
  reason : Option StrayReason
  tag : Nat
  deriving DecidableEq, Repr

/-- The Scheduler's own values (R99, R119). -/
structure Scheduler where
  nextSeq : Nat
  cancelled : Nat
  tooLate : Nat
  withdrawn : Nat
  queueFull : Nat
  deriving DecidableEq, Repr

/-- Status of a cart entry (R126). -/
inductive EntryStatus where
  | pending
  | confirmed
  | presumed
  deriving DecidableEq, Repr

/-- One cart list entry (R126). -/
structure CartEntry where
  tag : Nat
  cabin : Nat
  tray : Nat
  seq : Nat
  status : EntryStatus
  amended : Bool
  deriving DecidableEq, Repr

/-- One confirmation of an awaiting list; `expiry` on the time base (R129). -/
structure Confirmation where
  tray : Nat
  seq : Nat
  serial : Nat
  expiry : Nat
  deriving DecidableEq, Repr

/-- Sides of a chute (R120). -/
inductive Side where
  | left
  | right
  deriving DecidableEq, Repr

/-- Chute states (section 7.3). -/
inductive ChuteState where
  | closed
  | opened
  | full
  | swap
  | faulted
  deriving DecidableEq, Repr

/-- Report states of a chute (R120). -/
inductive ReportState where
  | none
  | waiting
  | queued
  deriving DecidableEq, Repr

/-- The values of a chute record set by CCFG (R120); `first` is the first slot of its region, whose number of slots is the capacity (R123). -/
structure ChuteCfg where
  loc : Nat
  delay : Nat
  window : Nat
  side : Side
  capacity : Nat
  watermark : Nat
  confirm : Nat
  station : Nat
  stopOnFault : Bool
  first : Nat
  deriving DecidableEq, Repr

/-- One configured chute's record (R120) with its order queue and the monitor of its head (R100, R103). The count is the length of `cart` (R126), the queued count the length of `queue` (R100). -/
structure Chute where
  cfg : ChuteCfg
  state : ChuteState
  prior : Option ChuteState
  serial : Option Nat
  cart : List CartEntry
  nearFull : Bool
  present : Bool
  report : ReportState
  awaiting : List Confirmation
  queue : List Order
  mon : Option Monitor
  fired : Nat
  missed : Nat
  shadow : Nat
  clamped : Nat
  unexpected : Nat
  timedOut : Nat
  deriving DecidableEq, Repr

/-- One cart report (R133). -/
structure Report where
  voyage : Nat
  chute : Nat
  serial : Nat
  entries : List CartEntry
  deriving DecidableEq, Repr

/-- What the Chute and Cart Unit holds. `chutes` lists the configured chutes 0 upward: CCFG configures a run from chute 0 (R122). The staging list is CLOSED when empty (R121). `cartPart` is how many frames of the head report have been transmitted (R134). -/
structure CartUnit where
  chutes : List Chute
  staging : List ChuteArg
  loaded : Bool
  reports : List Report
  waiting : List Report
  cartPart : Nat
  nextSerial : Nat
  rejected : Nat
  deriving DecidableEq, Repr

/-! ## Stray List (chapter 8) -/

/-- One stray record (R146); `resolved` is true in RESOLVED, false in OPEN. -/
structure StrayRec where
  serial : Nat
  tag : Nat
  tag2 : Nat
  reason : StrayReason
  tray : Nat
  lap : Nat
  chute : Nat
  second : Nat
  repeats : Nat
  resolved : Bool
  resolvedTag : Nat
  resolvedCabin : Nat
  deriving DecidableEq, Repr

/-- The full-list policy (R150). -/
inductive Policy where
  | keepOldest
  | dropOldest
  deriving DecidableEq, Repr

/-- What the Stray List holds (R159), oldest record first. -/
structure StrayList where
  recs : List StrayRec
  nextSerial : Nat
  lost : Nat
  policy : Policy
  deriving DecidableEq, Repr

/-! ## Session Control (chapter 9) -/

/-- The modes (section 9.1). -/
inductive Mode where
  | idle
  | setup
  | shadow
  | sorting
  | draining
  | drained
  deriving DecidableEq, Repr

/-- What Session Control holds (R161); `watch` is true while the drain watch is ARMED. -/
structure Session where
  mode : Mode
  voyage : Nat
  clock : Nat
  secondStart : Nat
  watch : Bool
  deriving DecidableEq, Repr

/-! ## Line link (chapter 10) -/

/-- One frame without its check bytes, which the other bytes give (R174). -/
structure Frame where
  dst : Nat
  src : Nat
  kind : Nat
  seq : Nat
  payload : List Byte
  deriving DecidableEq, Repr

/-- The frames that the timing queue carries (R180). A DROP keeps the sequence, cart serial and tag of its fire, by which its withdrawal finds the drop (R111). -/
inductive TimedBody where
  | lnch (line tray : Nat)
  | scan (tray : Nat)
  | drop (chute tray : Nat) (side : Side) (seq serial tag : Nat)
  deriving DecidableEq, Repr

/-- One entry of the timing queue; `begun` while its frame is in transmission. -/
structure TimedFrame where
  dst : Nat
  body : TimedBody
  begun : Bool
  deriving DecidableEq, Repr

/-- Where the frame in transmission was taken from (R181, R182); `training` is a frame of a port in TRAINING, `idle` an IDLE frame. -/
inductive TxClass where
  | training
  | idle
  | answer
  | timing
  | forward
  | iref (line : Nat)
  | reply
  | cart
  | note
  deriving DecidableEq, Repr

/-- The frame in transmission. -/
structure Tx where
  cls : TxClass
  frame : Frame
  deriving DecidableEq, Repr

/-- Link states of a port, in the order of section 10.3. -/
inductive LinkState where
  | down
  | training
  | up
  deriving DecidableEq, Repr

/-- One port. Times are on the time base: entry into the state, end of the last valid frame received (R176), end of the last transmission (R176), start of the current 10 ms of TRAINING (R175). `forward` is the forward queue that leads to this port (R178). -/
structure Port where
  state : LinkState
  since : Nat
  lastValid : Nat
  lastSent : Nat
  trainFrom : Nat
  seq : Nat
  answer : Bool
  trainDue : Bool
  tx : Option Tx
  forward : List Frame
  formatErrors : Nat
  checkErrors : Nat
  forwardDropped : Nat
  deriving DecidableEq, Repr

/-- What the Link Interface holds (R186), with the Induction Merge Unit's unsent IREF frames, oldest first (R31). -/
structure Link where
  own : Nat
  host : Option Nat
  up : Port
  down : Port
  timing : List TimedFrame
  irefs : List Iref
  selfCount : Nat
  kindRejected : Nat
  wrongPort : Nat
  foreign : Nat
  timingDiscarded : Nat
  deriving DecidableEq, Repr

/-! ## Management Unit (chapter 11) -/

/-- Reply statuses, in the order of their codes 00h to 08h (RPLY, section 10.7). -/
inductive Status where
  | done
  | mode
  | range
  | notFound
  | full
  | busy
  | duplicate
  | notReady
  | linkDown
  deriving DecidableEq, Repr

/-- One value of a reply's results with the width it is coded in (R185): one, two or four bytes, or four bytes of two's complement. -/
inductive Datum where
  | u8 (n : Nat)
  | u16 (n : Nat)
  | u32 (n : Nat)
  | s32 (i : Int)
  deriving DecidableEq, Repr

/-- A request of the request queue (R187). -/
structure Queued where
  hdr : ReqHdr
  request : Request
  deriving DecidableEq, Repr

/-- A reply of the reply list: its request's source and sequence, the kind of the request answered, the status and the results (R188, R189). -/
structure Reply where
  hdr : ReqHdr
  kind : Nat
  status : Status
  results : List Datum
  deriving DecidableEq, Repr

/-- Reasons of INDUCT_PROTOCOL, in the order of R198's row. -/
inductive InductReason where
  | wrongNode
  | brdyBusy
  | ldonUnmatched
  | ldonAbsent
  deriving DecidableEq, Repr

/-- Kinds of a manifest change (R66). -/
inductive ChangeKind where
  | delete
  | hold
  | amend
  deriving DecidableEq, Repr

/-- The twenty notice kinds with their reason fields, in the order of R198's table. -/
inductive NoticeKind where
  | trackSync (left : TrackState)
  | trackLost (cause : StopCause)
  | stopSeen (asserted : Bool)
  | stopAsserted (cause : StopCause)
  | linkState
  | inductProtocol (reason : InductReason)
  | foundBag
  | lostBag (loop : Bool)
  | nearFull
  | unexpectedDrop
  | dropFailed
  | correction
  | holdTooLate
  | amendAfterDrop (kind : ChangeKind)
  | stray (reason : StrayReason)
  | strayBlocked (reason : StrayReason)
  | reinducted (reason : StrayReason)
  | drained
  | filterDone
  | modeChanged
  deriving DecidableEq, Repr

/-- One notice (R198); details not used are 0. -/
structure Notice where
  kind : NoticeKind
  second : Nat
  tray : Option Nat
  tag : Nat
  chute : Option Nat
  serial : Option Nat
  detail1 : Int
  detail2 : Int
  detail3 : Int
  deriving DecidableEq, Repr

/-- What the Management Unit holds (R199). -/
structure Mgmt where
  requests : List Queued
  replies : List Reply
  notices : List Notice
  dropped : Nat
  replyLost : Nat
  deriving DecidableEq, Repr

/-! ## The whole state -/

/-- The twelve blocks, the levels of the lines that others drive, and the model's own fields: the time base `now` (0.1 ms), the counter `free` of free values drawn, and the queue `pending` of commands that wait, first in first out. -/
structure State where
  tracker : Tracker
  pins : Pins
  trays : List Tray
  lines : List Line
  arch : Arch
  manifest : Manifest
  router : Router
  sched : Scheduler
  carts : CartUnit
  strays : StrayList
  session : Session
  link : Link
  mgmt : Mgmt
  now : Nat
  free : Nat
  pending : List Instr
  deriving DecidableEq, Repr

/-- The part has no fault that stops it: its encoder, drift, chute and link faults are effects on State. No constructor: nobody raises one. -/
inductive Fault where
  deriving DecidableEq, Repr

/-- Why a command has no meaning. -/
inductive Refusal where
  /-- Raised by Dispatch for a row not modelled yet; safe: the machine stops. No arm raises it now. -/
  | notModelled (mnemonic : String)
  deriving DecidableEq, Repr

/-! ## Values after power-on reset -/

/-- The tracker after power-on reset (R10). -/
def Tracker.powerOn : Tracker :=
  { state := .unconfigured, geo := none, disp := 0, speed := 0, net := 0, windowStart := 0, homeCorrection := 0,
    latch := none, stopOut := false, stopIn := false, speedClamps := 0, archClamped := 0 }

/-- A line after power-on reset (R28, R29, R42). -/
def Line.powerOn : Line :=
  { cfg := none, state := .free, bar := [], mon := none, clamped := 0 }

/-- The Scan Reconciler after power-on reset (R49). -/
def Arch.powerOn : Arch :=
  { mon := none, outstanding := none, lapLimit := none, sent := 0, missed := 0, replaced := 0, stale := 0, rejected := 0,
    skipped := 0 }

/-- The Manifest Store after power-on reset (R78). -/
def Manifest.powerOn : Manifest :=
  { entries := [], filter := [], rebuild := none, lookups := 0, filterAbsent := 0, filterFalse := 0, rebuildsDone := 0,
    rebuildsAbandoned := 0 }

/-- A disabled rule with match kind ANY, action RECIRCULATE and no tallies (R83). -/
def Rule.blank : Rule :=
  { enabled := false, mtch := .any, action := .recirculate, taken := 0, passed := 0 }

/-- The Route Resolver after power-on reset (R80, R83, R93, R97, R98). -/
def Router.powerOn : Router :=
  { zones := List.replicate 32 { ending := 0, deck := 1, sec := 0 }, zonesLoaded := false,
    rules := List.replicate 64 Rule.blank, rulesLoaded := false, staging := [], dflt := .recirculate, straySet := [],
    defaults := 0, straySets := 0, blocked := 0, drainReplaced := 0 }

/-- The Discharge Scheduler after power-on reset (R115). -/
def Scheduler.powerOn : Scheduler :=
  { nextSeq := 1, cancelled := 0, tooLate := 0, withdrawn := 0, queueFull := 0 }

/-- The Chute and Cart Unit after power-on reset (R145). -/
def CartUnit.powerOn : CartUnit :=
  { chutes := [], staging := [], loaded := false, reports := [], waiting := [], cartPart := 0, nextSerial := 1,
    rejected := 0 }

/-- The Stray List after power-on reset (R159). -/
def StrayList.powerOn : StrayList :=
  { recs := [], nextSerial := 1, lost := 0, policy := .keepOldest }

/-- Session Control after power-on reset (R161). -/
def Session.powerOn : Session :=
  { mode := .idle, voyage := 0, clock := 0, secondStart := 0, watch := false }

/-- The own station that a strap value gives: 1 to 126 as it is, 0 and 127 as 126 (R173). -/
def ownStation (straps : Nat) : Nat :=
  if 1 ≤ straps % 128 ∧ straps % 128 ≤ 126 then straps % 128 else 126

/-- The training frame of a station: destination 127, payload length 0 (R176). -/
def trainingFrame (own seq : Nat) : Frame :=
  { dst := 127, src := own, kind := 1, seq := seq, payload := [] }

/-- A port after power-on reset: in TRAINING with its measures started, its first training frame begun (R175, R186). -/
def Port.powerOn (own : Nat) : Port :=
  { state := .training, since := 0, lastValid := 0, lastSent := 0, trainFrom := 0, seq := 0, answer := false,
    trainDue := false, tx := some { cls := .training, frame := trainingFrame own 0 }, forward := [], formatErrors := 0,
    checkErrors := 0, forwardDropped := 0 }

/-- The Link Interface after power-on reset with these straps (R173, R186). -/
def Link.powerOn (straps : Nat) : Link :=
  { own := ownStation straps, host := none, up := Port.powerOn (ownStation straps),
    down := Port.powerOn (ownStation straps), timing := [], irefs := [], selfCount := 0, kindRejected := 0, wrongPort := 0,
    foreign := 0, timingDiscarded := 0 }

/-- The Management Unit after power-on reset (R199). -/
def Mgmt.powerOn : Mgmt :=
  { requests := [], replies := [], notices := [], dropped := 0, replyLost := 0 }

/-- The part after power-on reset with these straps, the outside lines as given. -/
def State.powerOn (straps : Nat) (pins : Pins) : State :=
  { tracker := Tracker.powerOn, pins := pins, trays := [], lines := List.replicate 4 Line.powerOn, arch := Arch.powerOn,
    manifest := Manifest.powerOn, router := Router.powerOn, sched := Scheduler.powerOn, carts := CartUnit.powerOn,
    strays := StrayList.powerOn, session := Session.powerOn, link := Link.powerOn straps, mgmt := Mgmt.powerOn, now := 0,
    free := 0, pending := [] }

/-- The state right after reset. DESIGN CHOICE (log 5; unsafe): the outside lines, which the spec gives no reset level, are low and not held, and the straps read 0. -/
def State.reset : State :=
  State.powerOn 0 { encA := false, encB := false, stopHeld := false }

end Sys2Proof.Machine
end

