-- ==== Sys2Proof/Machine/Ops.lean ====
section
/-! DEFINITION. Shared operations: sparse tables, geometry and monitors, notices, tray records and the drain watch, the timing queue, IREF frames and replies. -/

namespace Sys2Proof.Machine

open Sys2Proof

/-! ## Sparse tables: keys strictly rising -/

/-- The value listed under a key. -/
def Table.get {α : Type} : List (Nat × α) → Nat → Option α
  | [], _ => none
  | (k, v) :: rest, key => if k = key then some v else Table.get rest key

/-- The table with this value under the key. -/
def Table.put {α : Type} : List (Nat × α) → Nat → α → List (Nat × α)
  | [], key, a => [(key, a)]
  | (k, v) :: rest, key, a =>
    if key < k then (key, a) :: (k, v) :: rest
    else if key = k then (key, a) :: rest
    else (k, v) :: Table.put rest key a

/-- The table without the key. -/
def Table.del {α : Type} : List (Nat × α) → Nat → List (Nat × α)
  | [], _ => []
  | (k, v) :: rest, key => if k = key then rest else (k, v) :: Table.del rest key

/-- The canonical form: keys strictly rising. -/
abbrev Table.wf {α : Type} (t : List (Nat × α)) : Prop := t.Pairwise (fun x y => x.1 < y.1)

/-! ## Loop geometry (R1, R13) and the monitors (R12, R14) -/

/-- Lu, the loop length in steps (R1). -/
def Geometry.loop (g : Geometry) : Nat := g.trays * g.pitch

/-- c, the tray centre offset; also the window of the arch and of the induction lines (R1, R2). -/
def Geometry.centre (g : Geometry) : Nat := g.pitch / 2

/-- z_k, the location of the centre of tray k with the chain at displacement d (R1). -/
def Geometry.trayAt (g : Geometry) (d k : Nat) : Nat :=
  (((d : Int) - (k * g.pitch + g.centre : Nat)) % (g.loop : Int)).toNat

/-- The approach distance of tray k to a location (R13). -/
def Geometry.approach (g : Geometry) (d k loc : Nat) : Nat :=
  (((loc : Int) - (g.trayAt d k : Int)) % (g.loop : Int)).toNat

/-- The approach distance with which a monitor is evaluated after the chain has moved `adv` steps forward in this event: 0 where the tray centre was carried onto or past the station (R14). -/
def Geometry.evalApproach (g : Geometry) (d adv k loc : Nat) : Nat :=
  if 0 < adv ∧ (g.approach d k loc + adv) % g.loop ≤ adv then 0 else g.approach d k loc

/-- The lead before clamping: v × d / 10 rounded half up (R12). -/
def rawLead (v d : Nat) : Nat := (v * d + 5) / 10

/-- The lead, clamped to 65,535 (R12). -/
def leadOf (v d : Nat) : Nat := min Config.tallyMax (rawLead v d)

/-- The LEAD_CLAMPED tally after one computation of the lead (R12). -/
def countClamp (v d tally : Nat) : Nat :=
  if Config.tallyMax < rawLead v d then satInc Config.tallyMax tally else tally

/-- Outcomes of an evaluation (R14). -/
inductive Decision where
  | stay
  | fire
  | miss
  deriving DecidableEq, Repr

/-- The comparison of R14: approach distance, lead, window. -/
def decideMonitor (a lead w : Nat) : Decision :=
  if lead < a then .stay else if lead - a < w then .fire else .miss

/-- The tracker is in TRACKING. -/
def State.isTracking (s : State) : Bool := s.tracker.state == .tracking

/-- The DOWN port is UP. -/
def State.downUp (s : State) : Bool := s.link.down.state == .up

/-- An LCFG has been accepted since power-on reset. -/
def State.configured (s : State) : Bool := s.tracker.geo.isSome

/-- The mode. -/
def State.mode (s : State) : Mode := s.session.mode

/-! ## Notices (R197, R198) -/

/-- A notice of this kind with no other field used; the session second is stamped when it is queued. -/
def Notice.of (kind : NoticeKind) : Notice :=
  { kind := kind, second := 0, tray := none, tag := 0, chute := none, serial := none, detail1 := 0, detail2 := 0,
    detail3 := 0 }

/-- The Management Unit with a notice joined to its queue, or discarded and counted when the queue holds 64 (R197). -/
def Mgmt.push (m : Mgmt) (n : Notice) : Mgmt :=
  if m.notices.length < Config.noticesMax then { m with notices := m.notices ++ [n] }
  else { m with dropped := satInc Config.tallyMax m.dropped }

/-- Queues a notice, stamped with the session second (R197). -/
def notify (n : Notice) (s : State) : State :=
  { s with mgmt := s.mgmt.push { n with second := s.session.clock } }

/-! ## Tray records (R21 to R24) and the drain watch (R169) -/

/-- A record with every field other than its state cleared (R22). -/
def Tray.blank (st : TrayState) : Tray :=
  { state := st, tag := 0, tag2 := 0, cabin := 0, zone := none, lap := 0, source := none, target := none, seq := none,
    serial := none, reason := none }

/-- A tray in flight (R161, R169): any state but EMPTY and DISABLED. -/
def Tray.inFlight (t : Tray) : Bool := !(t.state == .empty || t.state == .disabled)

/-- The frame is a DROP. -/
def TimedBody.isDrop : TimedBody → Bool
  | .drop .. => true
  | _ => false

/-- DROP frames waiting in the timing queue. -/
def State.dropsWaiting (s : State) : Nat := (s.link.timing.filter (fun f => f.body.isDrop)).length

/-- The in-flight count of STAT (R161). -/
def State.inFlightCount (s : State) : Nat := (s.trays.filter Tray.inFlight).length + s.dropsWaiting

/-- The drain watch is ARMED and finds nothing in flight (R169). -/
def State.drainDone (s : State) : Bool :=
  s.session.watch && !s.trays.any Tray.inFlight && !s.link.timing.any (fun f => f.body.isDrop)

/-- One evaluation of the drain watch (R169). The rule staging list is discarded on entry to DRAINED (R93). -/
def drainWatch (s : State) : State :=
  { s with
    session := if s.drainDone then { s.session with mode := .drained, watch := false } else s.session
    router := if s.drainDone then { s.router with staging := [] } else s.router
    mgmt :=
      if s.drainDone then
        s.mgmt.push { Notice.of .drained with second := s.session.clock, detail1 := s.session.voyage }
      else s.mgmt }

/-- Writes a tray record. -/
def putTray (k : Nat) (t : Tray) (s : State) : State := { s with trays := s.trays.set k t }

/-- Writes a tray record; a change to EMPTY or DISABLED evaluates the drain watch (R169, log 21). -/
def settleTray (k : Nat) (t : Tray) (s : State) : State :=
  if t.state = .empty ∨ t.state = .disabled then drainWatch (putTray k t s) else putTray k t s

/-- A change of tray state asked for by a block: made when the tray is in the expected state, dropped otherwise (R23). -/
def changeTray (k : Nat) (expected : TrayState) (f : Tray → Tray) (s : State) : State :=
  match s.trays[k]? with
  | some t => if t.state = expected then settleTray k (f t) s else s
  | none => s

/-- ROUTED to RECIRCULATE: target chute and order sequence cleared (R22). -/
def Tray.unroute (t : Tray) : Tray := { t with state := .recirculate, target := none, seq := none }

/-- The tag stands in the tag field of a tray record other than k (R24). -/
def State.tagOnOtherTray (s : State) (k tag : Nat) : Bool :=
  s.trays.zipIdx.any (fun x => x.2 != k && x.1.tag == tag)

/-- The tag stands in an open cart list, leaving out the entry of tray k with this order sequence (R24, R132). -/
def State.tagInCarts (s : State) (k : Nat) (seq : Option Nat) (tag : Nat) : Bool :=
  s.carts.chutes.any (fun c => c.cart.any (fun e => e.tag == tag && !(e.tray == k && some e.seq == seq)))

/-- A nonzero tag that already stands elsewhere than on tray k (R24, R59). -/
def State.tagDoubled (s : State) (k : Nat) (seq : Option Nat) (tag : Nat) : Bool :=
  tag != 0 && (s.tagOnOtherTray k tag || s.tagInCarts k seq tag)

/-- What a tag field takes: the tag, or 0 when it already stands elsewhere (R24). -/
def State.claimTag (s : State) (k : Nat) (seq : Option Nat) (tag : Nat) : Nat :=
  if s.tagDoubled k seq tag then 0 else tag

/-- The tray whose tag field holds a nonzero tag, with its record (R72, R116). -/
def State.trayOfTag (s : State) (tag : Nat) : Option (Nat × Tray) :=
  (s.trays.zipIdx.find? (fun x => tag != 0 && x.1.tag == tag)).map (fun x => (x.2, x.1))

/-- A tag above 999,999,999 is taken as 0 (R30, R48). -/
def normTag (tag : Nat) : Nat := if tag ≤ Config.tagMax then tag else 0

/-- A tag that a request may carry: 1 to 999,999,999. -/
def tagOk (tag : Nat) : Bool := 1 ≤ tag && tag ≤ Config.tagMax

/-! ## Lines, chutes and ports -/

/-- Changes the record of induction line i. -/
def modifyLine (i : Nat) (f : Line → Line) (s : State) : State := { s with lines := s.lines.modify i f }

/-- The record of a configured chute (R120). -/
def State.chute? (s : State) (j : Nat) : Option Chute := s.carts.chutes[j]?

/-- Changes the record of chute j. -/
def modifyChute (j : Nat) (f : Chute → Chute) (s : State) : State :=
  { s with carts := { s.carts with chutes := s.carts.chutes.modify j f } }

/-- The port named. -/
def Link.port (l : Link) : PortId → Port
  | .up => l.up
  | .down => l.down

/-- Changes the port named. -/
def Link.modifyPort (l : Link) (p : PortId) (f : Port → Port) : Link :=
  match p with
  | .up => { l with up := f l.up }
  | .down => { l with down := f l.down }

/-- Changes the port named. -/
def modifyPort (p : PortId) (f : Port → Port) (s : State) : State := { s with link := s.link.modifyPort p f }

/-! ## Timing queue (R180) and IREF frames (R31) -/

/-- The timing queue has room for one more frame (R180). -/
def State.timingRoom (s : State) : Bool := s.link.timing.length < Config.timingMax

/-- Places a frame at the tail of the timing queue (R180). -/
def queueTimed (dst : Nat) (body : TimedBody) (s : State) : State :=
  { s with link := { s.link with timing := s.link.timing ++ [{ dst := dst, body := body, begun := false }] } }

/-- Discards every LNCH and SCAN of the timing queue, each counted in TIMING_DISCARDED (R183, R193, R196). -/
def discardTimed (s : State) : State :=
  { s with
    link :=
      { s.link with
        timing := s.link.timing.filter (fun f => f.body.isDrop)
        timingDiscarded :=
          min Config.tallyMax
            (s.link.timingDiscarded + (s.link.timing.filter (fun f => !f.body.isDrop)).length) } }

/-- The unsent IREF frames with a new one: in the place of the line's unsent one, or at the end (R31, R181). -/
def placeIref (r : Iref) (l : List Iref) : List Iref :=
  if l.any (fun x => x.line == r.line) then l.map (fun x => if x.line = r.line then r else x) else l ++ [r]

/-- Raises IREF for a line (R31). -/
def raiseIref (line tag1 tag2 : Nat) (reason : IrefReason) (s : State) : State :=
  { s with
    link :=
      { s.link with
        irefs := placeIref { line := line, tag1 := tag1, tag2 := tag2, reason := reason, begun := false } s.link.irefs } }

/-! ## Free values -/

/-- A free value (log 12) and the state that has drawn it. -/
def drawFree (s : State) : Nat × State := (Config.freeNat s.free, { s with free := s.free + 1 })

end Sys2Proof.Machine
end

