-- ==== Sys2Proof/Machine/Flags.lean ====
section
/-! DEFINITION. The STOP latch, the part's drive of the STOP line and its reading of it (section 1.5). -/

namespace Sys2Proof.Machine

/-- The part drives STOP: the latch is set and the output enable is set (R16). -/
def State.stopDriven (s : State) : Bool := s.tracker.latch.isSome && s.tracker.stopOut

/-- The level of the STOP line: asserted while any party holds it (section 1.5). -/
def State.stopLevel (s : State) : Bool := s.pins.stopHeld || s.stopDriven

/-- STOP seen: the line is asserted and the input enable is set (R17). -/
def State.stopSeen (s : State) : Bool := s.stopLevel && s.tracker.stopIn

/-- Queues STOP_SEEN when the level has changed from `before` and the input enable is set (R17). -/
def noticeLevel (before : Bool) (s : State) : State :=
  if s.tracker.stopIn = true ∧ s.stopLevel ≠ before then notify (Notice.of (.stopSeen s.stopLevel)) s else s

/-- The chute number and the drift that STOP_ASSERTED carries (R198). -/
def StopCause.notice : StopCause → Notice
  | .chuteFault j => { Notice.of (.stopAsserted (.chuteFault j)) with chute := some j }
  | .drift e => { Notice.of (.stopAsserted (.drift e)) with detail1 := e }
  | c => Notice.of (.stopAsserted c)

/-- The STOP latch field alone. -/
def withLatch (c : Option StopCause) (s : State) : State := { s with tracker := { s.tracker with latch := c } }

/-- Sets the STOP latch with a cause: a latch already set keeps its cause and queues nothing (R16); STOP_SEEN follows at the change of level (R17, log 8). -/
def setLatch (c : StopCause) (s : State) : State :=
  if s.tracker.latch.isSome then s else noticeLevel s.stopLevel (notify c.notice (withLatch (some c) s))

/-- Releases the STOP latch and its drive (R19). -/
def releaseLatch (s : State) : State := noticeLevel s.stopLevel (withLatch none s)

end Sys2Proof.Machine
end

