-- ==== Sys2Proof/Machine/Operands.lean ====
section
/-! DEFINITION. Frames as bytes: the check, the header, the coding of every payload that the part sends and the reading of every payload that it takes (R174, R185, section 10.7). -/

namespace Sys2Proof.Machine

open Sys2Proof

/-! ## Numbers as bytes, most significant first -/

def be8 (n : Nat) : List Byte := [BitVec.ofNat 8 n]
def be16 (n : Nat) : List Byte := [BitVec.ofNat 8 (n / 256), BitVec.ofNat 8 n]
def be32 (n : Nat) : List Byte :=
  [BitVec.ofNat 8 (n / 16777216), BitVec.ofNat 8 (n / 65536), BitVec.ofNat 8 (n / 256), BitVec.ofNat 8 n]

/-- A signed number in four bytes of two's complement (R185). -/
def beSigned (i : Int) : List Byte := be32 (i % 4294967296).toNat

/-- The bytes of one result value (R185). -/
def Datum.bytes : Datum → List Byte
  | .u8 n => be8 n
  | .u16 n => be16 n
  | .u32 n => be32 n
  | .s32 i => beSigned i

/-- Set or clear, yes or no (R185). -/
def Datum.flag (b : Bool) : Datum := .u8 (if b then 1 else 0)

/-- A one-byte, two-byte field that may be none, where 0 lies within the field's range (R185). -/
def Datum.opt8 (o : Option Nat) : Datum := .u8 (o.getD 255)
def Datum.opt16 (o : Option Nat) : Datum := .u16 (o.getD 65535)

/-! ## The check (R174) -/

/-- One bit into the check register. -/
def checkBit (r : BitVec 16) (b : Bool) : BitVec 16 :=
  if r.msb != b then (r <<< 1) ^^^ 0x1021#16 else r <<< 1

/-- One byte into the check register, most significant bit first. -/
def checkByte (r : BitVec 16) (x : Byte) : BitVec 16 :=
  (List.range 8).foldl (fun r i => checkBit r (x.getMsbD i)) r

/-- The check of a run of bytes. -/
def checkOf (bytes : List Byte) : BitVec 16 := bytes.foldl checkByte 0xFFFF#16

/-- A frame's bytes from the destination through the last payload byte. -/
def Frame.body (f : Frame) : List Byte :=
  be8 f.dst ++ be8 f.src ++ be8 f.kind ++ be8 f.seq ++ be8 f.payload.length ++ f.payload

/-- A frame's bytes with its check, most significant byte first. -/
def Frame.bytes (f : Frame) : List Byte := f.body ++ be16 (checkOf f.body).toNat

/-- What a port makes of a received frame (R174). -/
inductive Received where
  | malformed
  | badCheck
  | valid (f : Frame)
  deriving DecidableEq, Repr

/-- The frame that five header bytes and a payload spell. -/
def frameOf (d s k q : Byte) (payload : List Byte) : Frame :=
  { dst := d.toNat, src := s.toNat, kind := k.toNat, seq := q.toNat, payload := payload }

/-- Well formed: payload length at most 240, byte count 7 plus the payload length, destination 1 to 127, source 1 to 126, line coding not broken (R174). -/
def receiveFrame (broken : Bool) : List Byte → Received
  | d :: s :: k :: q :: n :: rest =>
    if broken = false ∧ n.toNat ≤ Config.payloadMax ∧ rest.length = n.toNat + 2 ∧ 1 ≤ d.toNat ∧ d.toNat ≤ 127 ∧
        1 ≤ s.toNat ∧ s.toNat ≤ 126 then
      if rest.drop n.toNat = be16 (checkOf (d :: s :: k :: q :: n :: rest.take n.toNat)).toNat then
        .valid (frameOf d s k q (rest.take n.toNat))
      else .badCheck
    else .malformed
  | _ => .malformed

/-! ## Payloads that the part sends -/

/-- Side codes of DROP and CRD: 01h LEFT, 02h RIGHT. -/
def Side.code : Side → Nat
  | .left => 1
  | .right => 2

/-- Kind and payload of a timing-queue frame (section 10.7). -/
def TimedBody.kind : TimedBody → Nat
  | .lnch .. => 0x20
  | .scan .. => 0x21
  | .drop .. => 0x22

def TimedBody.payload : TimedBody → List Byte
  | .lnch line tray => be8 line ++ be16 tray
  | .scan tray => be16 tray
  | .drop chute tray side _ _ _ => be8 chute ++ be16 tray ++ be8 side.code

/-- Reason codes of IREF: 01h MODE, 02h LINE_OFF, 03h BUSY. -/
def IrefReason.code : IrefReason → Nat
  | .mode => 1
  | .lineOff => 2
  | .busy => 3

def Iref.payload (r : Iref) : List Byte := be8 r.line ++ be32 r.tag1 ++ be32 r.tag2 ++ be8 r.reason.code

/-- Status codes of RPLY. -/
def Status.code : Status → Nat
  | .done => 0
  | .mode => 1
  | .range => 2
  | .notFound => 3
  | .full => 4
  | .busy => 5
  | .duplicate => 6
  | .notReady => 7
  | .linkDown => 8

def Reply.payload (r : Reply) : List Byte := be8 r.kind ++ be8 r.status.code ++ r.results.flatMap Datum.bytes

/-- A stray reason's code, in the order of R83's REASON row, wherever a frame carries it (for SRD and MGET: DEDUCED, log 35). -/
def StrayReason.code : StrayReason → Nat
  | .noRead => 1
  | .tagConflict => 2
  | .notOnManifest => 3
  | .cabinUnassigned => 4
  | .outOfPlan => 5
  | .screeningHold => 6
  | .lapLimit => 7
  | .noRoute => 8

/-- A STOP cause's code, in the order of R16's table. -/
def StopCause.code : StopCause → Nat
  | .encoder => 1
  | .drift _ => 2
  | .linkDown => 3
  | .chuteFault _ => 4
  | .sstp => 5

/-- A mode's code, in the order of section 9.1. -/
def Mode.code : Mode → Nat
  | .idle => 1
  | .setup => 2
  | .shadow => 3
  | .sorting => 4
  | .draining => 5
  | .drained => 6

/-- A link state's code, in the order of section 10.3. -/
def LinkState.code : LinkState → Nat
  | .down => 1
  | .training => 2
  | .up => 3

/-- A port's code in LINK_STATE: UP, DOWN. -/
def portCode : PortId → Nat
  | .up => 1
  | .down => 2

def InductReason.code : InductReason → Nat
  | .wrongNode => 1
  | .brdyBusy => 2
  | .ldonUnmatched => 3
  | .ldonAbsent => 4

/-- Notice kind codes 01h to 14h, in the order of R198's table. -/
def NoticeKind.code : NoticeKind → Nat
  | .trackSync _ => 1
  | .trackLost _ => 2
  | .stopSeen _ => 3
  | .stopAsserted _ => 4
  | .linkState => 5
  | .inductProtocol _ => 6
  | .foundBag => 7
  | .lostBag _ => 8
  | .nearFull => 9
  | .unexpectedDrop => 10
  | .dropFailed => 11
  | .correction => 12
  | .holdTooLate => 13
  | .amendAfterDrop _ => 14
  | .stray _ => 15
  | .strayBlocked _ => 16
  | .reinducted _ => 17
  | .drained => 18
  | .filterDone => 19
  | .modeChanged => 20

/-- The reason byte of NOTE: 00h for none, otherwise the place in the kind's row (NOTE, section 10.7). -/
def NoticeKind.reasonCode : NoticeKind → Nat
  | .trackSync left => if left = .lost then 2 else 1
  | .trackLost cause => cause.code
  | .stopSeen asserted => if asserted then 1 else 2
  | .stopAsserted cause => cause.code
  | .inductProtocol r => r.code
  | .lostBag loop => if loop then 2 else 1
  | .holdTooLate => 1
  | .amendAfterDrop kind => if kind = .delete then 1 else 2
  | .stray r => r.code
  | .strayBlocked r => r.code
  | .reinducted r => r.code
  | _ => 0

/-- NOTE's 27 payload bytes. -/
def Notice.payload (n : Notice) : List Byte :=
  be8 n.kind.code ++ be32 n.second ++ be16 (n.tray.getD 65535) ++ be32 n.tag ++ be8 (n.chute.getD 255) ++
    be16 (n.serial.getD 0) ++ be8 n.kind.reasonCode ++ beSigned n.detail1 ++ beSigned n.detail2 ++ beSigned n.detail3

/-- An entry status's code. -/
def EntryStatus.code : EntryStatus → Nat
  | .pending => 1
  | .confirmed => 2
  | .presumed => 3

/-- The 11 bytes of one CART entry; 80h is added when AMENDED is set. -/
def CartEntry.bytes (e : CartEntry) : List Byte :=
  be32 e.tag ++ be16 e.cabin ++ be16 e.tray ++ be16 e.seq ++ be8 (e.status.code + if e.amended then 128 else 0)

/-- How many CART frames a report takes (R134). -/
def Report.frames (r : Report) : Nat := max 1 ((r.entries.length + (Config.cartPage - 1)) / Config.cartPage)

/-- The entries of one CART frame of a report. -/
def Report.page (r : Report) (part : Nat) : List CartEntry := (r.entries.drop (part * Config.cartPage)).take Config.cartPage

/-- CART's payload for one part of a report. -/
def Report.payload (r : Report) (part : Nat) : List Byte :=
  be16 r.voyage ++ be8 r.chute ++ be16 r.serial ++ be8 part ++ be8 (if part + 1 = r.frames then 1 else 0) ++
    be8 (r.page part).length ++ (r.page part).flatMap CartEntry.bytes

/-! ## Reading payloads -/

/-- Reads one, two or four bytes. -/
def rd8 : List Byte → Option (Nat × List Byte)
  | a :: rest => some (a.toNat, rest)
  | _ => none

def rd16 : List Byte → Option (Nat × List Byte)
  | a :: b :: rest => some (a.toNat * 256 + b.toNat, rest)
  | _ => none

def rd32 : List Byte → Option (Nat × List Byte)
  | a :: b :: c :: d :: rest => some (a.toNat * 16777216 + b.toNat * 65536 + c.toNat * 256 + d.toNat, rest)
  | _ => none

/-- Reads n items. -/
def rdMany {α : Type} (rd : List Byte → Option (α × List Byte)) : Nat → List Byte → Option (List α × List Byte)
  | 0, p => some ([], p)
  | n + 1, p => do
    let (a, p) ← rd p
    let (as, p) ← rdMany rd n p
    pure (a :: as, p)

/-- Reads a list sent as its count in one byte and its items (R185). -/
def rdList {α : Type} (rd : List Byte → Option (α × List Byte)) (p : List Byte) : Option (List α × List Byte) := do
  let (n, p) ← rd8 p
  rdMany rd n p

/-- A field frame's payload, or the bytes of one too short. -/
def bodyOf {α : Type} (o : Option α) (p : List Byte) : Body α :=
  match o with
  | some a => .full a
  | none => .short p

def readBrdy (p : List Byte) : Body BrdyBody :=
  bodyOf (do
    let (line, q) ← rd8 p
    let (t1, q) ← rd32 q
    let (t2, _) ← rd32 q
    pure { line := line, tag1 := t1, tag2 := t2 }) p

def readLdon (p : List Byte) : Body LdonBody :=
  bodyOf (do
    let (line, q) ← rd8 p
    let (tray, q) ← rd16 q
    let (out, _) ← rd8 q
    pure { line := line, tray := tray, outcome := out }) p

def readTscn (p : List Byte) : Body TscnBody :=
  bodyOf (do
    let (tray, q) ← rd16 p
    let (occ, q) ← rd8 q
    let (t1, q) ← rd32 q
    let (t2, _) ← rd32 q
    pure { tray := tray, occupancy := occ, tag1 := t1, tag2 := t2 }) p

def readChute (p : List Byte) : Body Nat := bodyOf ((rd8 p).map Prod.fst) p

def readStat (p : List Byte) : Option StatArg := do
  let (part, q) ← rd8 p
  if part = 6 ∨ part = 7 then
    let (first, _) ← rd8 q
    pure { part := part, first := first }
  else pure { part := part, first := 0 }

def rdLine (p : List Byte) : Option (LineArg × List Byte) := do
  let (loc, p) ← rd32 p
  let (delay, p) ← rd8 p
  let (gap, p) ← rd8 p
  let (station, p) ← rd8 p
  let (enable, p) ← rd8 p
  pure ({ loc := loc, delay := delay, gap := gap, station := station, enable := enable }, p)

def readLcfg (p : List Byte) : Option LoopArg := do
  let (t, p) ← rd16 p
  let (pitch, p) ← rd16 p
  let (drift, p) ← rd8 p
  let (loc, p) ← rd32 p
  let (delay, p) ← rd8 p
  let (station, p) ← rd8 p
  let (lines, p) ← rdList rdLine p
  let (lap, p) ← rd8 p
  let (dflt, p) ← rd8 p
  let (set, p) ← rdList rd8 p
  let (policy, p) ← rd8 p
  let (out, p) ← rd8 p
  let (inp, _) ← rd8 p
  pure { trays := t, pitch := pitch, driftTol := drift, archLoc := loc, archDelay := delay, archStation := station,
         lines := lines, lapLimit := lap, dflt := dflt, straySet := set, policy := policy, stopOut := out, stopIn := inp }

def rdChuteArg (p : List Byte) : Option (ChuteArg × List Byte) := do
  let (loc, p) ← rd32 p
  let (delay, p) ← rd8 p
  let (window, p) ← rd8 p
  let (side, p) ← rd8 p
  let (cap, p) ← rd8 p
  let (wm, p) ← rd8 p
  let (conf, p) ← rd16 p
  let (station, p) ← rd8 p
  let (stop, p) ← rd8 p
  pure ({ loc := loc, delay := delay, window := window, side := side, capacity := cap, watermark := wm, confirm := conf,
          station := station, stopOnFault := stop }, p)

/-- The items that a named count of 1 to a limit announces; a count out of range carries none. -/
def rdCounted {α : Type} (rd : List Byte → Option (α × List Byte)) (limit n : Nat) (p : List Byte) : Option (List α) :=
  if 1 ≤ n ∧ n ≤ limit then (rdMany rd n p).map Prod.fst else some []

def readCcfg (p : List Byte) : Option CcfgArg := do
  let (first, p) ← rd8 p
  let (count, p) ← rd8 p
  let (final, p) ← rd8 p
  let chutes ← rdCounted rdChuteArg 16 count p
  pure { first := first, count := count, final := final, chutes := chutes }

def rdZone (p : List Byte) : Option (Zone × List Byte) := do
  let (ending, p) ← rd16 p
  let (deck, p) ← rd8 p
  let (sec, p) ← rd8 p
  pure ({ ending := ending, deck := deck, sec := sec }, p)

def readZload (p : List Byte) : Option (List Zone) := (rdMany rdZone 32 p).map Prod.fst

/-- A rule's match values, by its match kind: ZONE, DECK, GROUP, FLAG, TAG, REASON, ANY are 1 to 7. -/
def rdMatch (kind : Nat) (p : List Byte) : Option (MatchArg × List Byte) :=
  if kind = 1 then do
    let (lo, p) ← rd8 p
    let (hi, p) ← rd8 p
    pure (.zone lo hi, p)
  else if kind = 2 then do
    let (lo, p) ← rd8 p
    let (hi, p) ← rd8 p
    let (sec, p) ← rd8 p
    pure (.deck lo hi (if sec = 255 then none else some sec), p)
  else if kind = 3 then do
    let (v, p) ← rd8 p
    pure (.group v, p)
  else if kind = 4 then do
    let (v, p) ← rd8 p
    pure (.flag v, p)
  else if kind = 5 then do
    let (lo, p) ← rd32 p
    let (hi, p) ← rd32 p
    pure (.tag lo hi, p)
  else if kind = 6 then do
    let (v, p) ← rd8 p
    pure (.reason v, p)
  else if kind = 7 then some (.any, p)
  else some (.other kind, p)

/-- A rule carried: its targets are read as a list with its count, whatever the action, so that TO_CHUTE carries one chute and RECIRCULATE and STRAY an empty list (R83, R185; DESIGN CHOICE, log 33). -/
def rdRule (p : List Byte) : Option (RuleArg × List Byte) := do
  let (en, p) ← rd8 p
  let (kind, p) ← rd8 p
  let (m, p) ← rdMatch kind p
  let (action, p) ← rd8 p
  let (targets, p) ← rdList rd8 p
  pure ({ enabled := en, mtch := m, action := action, targets := targets }, p)

def readRload (p : List Byte) : Option RloadArg := do
  let (first, p) ← rd8 p
  let (count, p) ← rd8 p
  let (final, p) ← rd8 p
  let rules ← rdCounted rdRule 16 count p
  pure { first := first, count := count, final := final, rules := rules }

def readRset (p : List Byte) : Option RsetArg := do
  let (n, p) ← rd8 p
  let (r, _) ← rdRule p
  pure { number := n, rule := r }

def rdPut (p : List Byte) : Option (PutArg × List Byte) := do
  let (tag, p) ← rd32 p
  let (cabin, p) ← rd16 p
  let (group, p) ← rd8 p
  let (prio, p) ← rd8 p
  let (big, p) ← rd8 p
  pure ({ tag := tag, cabin := cabin, group := group, priority := prio, oversize := big }, p)

def readMput (p : List Byte) : Option MputArg := do
  let (count, p) ← rd8 p
  let entries ← rdCounted rdPut 16 count p
  pure { count := count, entries := entries }

def readMdel (p : List Byte) : Option MdelArg := do
  let (count, p) ← rd8 p
  let tags ← rdCounted rd32 32 count p
  pure { count := count, tags := tags }

def readTag (p : List Byte) : Option Nat := (rd32 p).map Prod.fst

def readCrd (p : List Byte) : Option CrdArg := do
  let (c, p) ← rd8 p
  let (f, _) ← rd8 p
  pure { chute := c, first := f }

def readSrd (p : List Byte) : Option SrdArg := do
  let (s, p) ← rd16 p
  let (c, _) ← rd8 p
  pure { serial := s, count := c }

def readSres (p : List Byte) : Option SresArg := do
  let (s, p) ← rd16 p
  let (t, p) ← rd32 p
  let (c, _) ← rd16 p
  pure { serial := s, tag := t, cabin := c }

/-- MODE's payload: OPEN, SHADOW, SETUP, SORT, DRAIN, CLOSE are 1 to 6; OPEN also carries a voyage number. -/
def readMode (p : List Byte) : Request :=
  match rd8 p with
  | none => .modeOpen (.badAction 0)
  | some (code, q) =>
    if code = 1 then
      match rd16 q with
      | some (v, _) => .modeOpen (.voyage v)
      | none => .modeOpen .short
    else if code = 2 then .modeShadow
    else if code = 3 then .modeSetup
    else if code = 4 then .modeSort
    else if code = 5 then .modeDrain
    else if code = 6 then .modeClose
    else .modeOpen (.badAction code)

/-- CCMD's payload: OPEN, CLOSE, FORCE_CLOSE, CLEAR_FAULT are 1 to 4. -/
def readCcmd (p : List Byte) : Request :=
  match p with
  | c :: a :: _ =>
    if a.toNat = 1 then .ccmdOpen (.of c.toNat)
    else if a.toNat = 2 then .ccmdClose c.toNat
    else if a.toNat = 3 then .ccmdForceClose c.toNat
    else if a.toNat = 4 then .ccmdClearFault c.toNat
    else .ccmdOpen (.badAction a.toNat)
  | _ => .ccmdOpen .short

/-- TCMD's payload: DISABLE, ENABLE are 1, 2. -/
def readTcmd (p : List Byte) : Request :=
  match p with
  | h :: l :: a :: _ =>
    if a.toNat = 1 then .tcmdDisable (.of (h.toNat * 256 + l.toNat))
    else if a.toNat = 2 then .tcmdEnable (h.toNat * 256 + l.toNat)
    else .tcmdDisable (.badAction a.toNat)
  | _ => .tcmdDisable .short

/-- The request that a management kind code and a payload spell (R185, kinds of section 10.7). -/
def readRequest (kind : Nat) (p : List Byte) : Option Request :=
  match kind with
  | 0x40 => some (.stat (readStat p))
  | 0x41 => some (readMode p)
  | 0x42 => some (.lcfg (readLcfg p))
  | 0x43 => some (.ccfg (readCcfg p))
  | 0x44 => some (.zload (readZload p))
  | 0x45 => some (.rload (readRload p))
  | 0x46 => some (.rset (readRset p))
  | 0x47 => some (.mput (readMput p))
  | 0x48 => some (.mdel (readMdel p))
  | 0x49 => some (.mget (readTag p))
  | 0x4A => some (.hold (readTag p))
  | 0x4B => some (.rlse (readTag p))
  | 0x4C => some .fbld
  | 0x4D => some (readCcmd p)
  | 0x4E => some (readTcmd p)
  | 0x4F => some (.crd (readCrd p))
  | 0x50 => some (.srd (readSrd p))
  | 0x51 => some (.sres (readSres p))
  | 0x52 => some (.sdel ((rd16 p).map Prod.fst))
  | 0x53 => some .sstp
  | 0x54 => some .clrs
  | 0x55 => some .lrst
  | _ => none

/-- The kind code that a request's RPLY carries (RPLY, section 10.7). -/
def requestKind : Request → Nat
  | .stat _ => 0x40
  | .modeOpen _ | .modeShadow | .modeSetup | .modeSort | .modeDrain | .modeClose => 0x41
  | .lcfg _ => 0x42
  | .ccfg _ => 0x43
  | .zload _ => 0x44
  | .rload _ => 0x45
  | .rset _ => 0x46
  | .mput _ => 0x47
  | .mdel _ => 0x48
  | .mget _ => 0x49
  | .hold _ => 0x4A
  | .rlse _ => 0x4B
  | .fbld => 0x4C
  | .ccmdOpen _ | .ccmdClose _ | .ccmdForceClose _ | .ccmdClearFault _ => 0x4D
  | .tcmdDisable _ | .tcmdEnable _ => 0x4E
  | .crd _ => 0x4F
  | .srd _ => 0x50
  | .sres _ => 0x51
  | .sdel _ => 0x52
  | .sstp => 0x53
  | .clrs => 0x54
  | .lrst => 0x55

end Sys2Proof.Machine
end

