-- ==== Sys2Proof/Machine/Arbiter.lean ====
section
/-! DEFINITION. The port arbiters: what a free transmitter begins next (R180, R181, R182). Every command that may leave a frame waiting ends with `settle`. -/

namespace Sys2Proof.Machine

open Sys2Proof

/-- The destination of NOTE and CART frames: the host station, or 127 while it is none (R173). -/
def State.hostDst (s : State) : Nat := s.link.host.getD 127

/-- The training frame in answer, or the training frame of a port in TRAINING (R176). -/
def Port.training (p : Port) (own : Nat) : Frame := trainingFrame own p.seq

/-- The frame of a timing-queue entry (R180, section 10.7). -/
def TimedFrame.frame (t : TimedFrame) (own seq : Nat) : Frame :=
  { dst := t.dst, src := own, kind := t.body.kind, seq := seq, payload := t.body.payload }

/-- The node station of an induction line. -/
def State.lineStation (s : State) (i : Nat) : Nat :=
  ((s.lines[i]?.bind Line.cfg).map LineCfg.station).getD 0

/-- The frame of an unsent IREF, addressed to the node station of its line (R31). -/
def State.irefFrame (s : State) (r : Iref) : Frame :=
  { dst := s.lineStation r.line, src := s.link.own, kind := 0x23, seq := s.link.down.seq, payload := r.payload }

/-- The timing queue with its head begun. -/
def beginHead : List TimedFrame → List TimedFrame
  | [] => []
  | t :: ts => { t with begun := true } :: ts

/-- The unsent IREF frames with the oldest begun. -/
def beginIref : List Iref → List Iref
  | [] => []
  | r :: rs => { r with begun := true } :: rs

/-- The next frame of a free DOWN port: a training frame in answer, the timing queue, the forward queue, the unsent IREF frames (R181); in TRAINING, the training frame that is due (R175). -/
def State.nextDown (s : State) : Option Tx :=
  match s.link.down.state with
  | .down => none
  | .training =>
    if s.link.down.trainDue then some { cls := .training, frame := s.link.down.training s.link.own } else none
  | .up =>
    if s.link.down.answer then some { cls := .answer, frame := s.link.down.training s.link.own }
    else
      match s.link.timing with
      | t :: _ => some { cls := .timing, frame := t.frame s.link.own s.link.down.seq }
      | [] =>
        match s.link.down.forward with
        | f :: _ => some { cls := .forward, frame := f }
        | [] => s.link.irefs.head?.map (fun r => { cls := .iref r.line, frame := s.irefFrame r })

/-- RPLY for a reply: its request's source and sequence (R182, R188). -/
def Reply.frame (r : Reply) (own : Nat) : Frame :=
  { dst := r.hdr.src, src := own, kind := 0x60, seq := r.hdr.seq, payload := r.payload }

/-- The next frame of a free UP port: a training frame in answer, the oldest reply, the forward queue, the next CART frame of the head report, the oldest notice (R182). -/
def State.nextUp (s : State) : Option Tx :=
  match s.link.up.state with
  | .down => none
  | .training => if s.link.up.trainDue then some { cls := .training, frame := s.link.up.training s.link.own } else none
  | .up =>
    if s.link.up.answer then some { cls := .answer, frame := s.link.up.training s.link.own }
    else
      match s.mgmt.replies with
      | r :: _ => some { cls := .reply, frame := r.frame s.link.own }
      | [] =>
        match s.link.up.forward with
        | f :: _ => some { cls := .forward, frame := f }
        | [] =>
          match s.carts.reports with
          | r :: _ =>
            some
              { cls := .cart
                frame :=
                  { dst := s.hostDst, src := s.link.own, kind := 0x62, seq := s.link.up.seq
                    payload := r.payload s.carts.cartPart } }
          | [] =>
            s.mgmt.notices.head?.map
              (fun n =>
                { cls := .note
                  frame := { dst := s.hostDst, src := s.link.own, kind := 0x61, seq := s.link.up.seq, payload := n.payload } })

/-- A port that begins the frame chosen, unless its transmitter is busy. -/
def Port.start (p : Port) (next : Option Tx) : Port :=
  if p.tx.isSome then p
  else
    match next with
    | none => p
    | some t => { p with tx := some t, trainDue := if t.cls = .training then false else p.trainDue }

/-- What a free DOWN transmitter is about to begin: none while it is busy. -/
def State.downStarts (s : State) : Option TxClass :=
  if s.link.down.tx.isSome then none else s.nextDown.map Tx.cls

/-- Both arbiters: each free transmitter of a port begins its next frame (R181, R182). -/
def settle (s : State) : State :=
  { s with
    link :=
      { s.link with
        up := s.link.up.start s.nextUp
        down := s.link.down.start s.nextDown
        timing := if s.downStarts = some .timing then beginHead s.link.timing else s.link.timing
        irefs :=
          match s.downStarts with
          | some (.iref _) => beginIref s.link.irefs
          | _ => s.link.irefs } }

/-- The outcome of a command: the next state, with the arbiters run. -/
def done (s : State) : Host.Outcome State Fault Refusal := .next (settle s)

end Sys2Proof.Machine
end

