-- ==== Sys2Proof/Machine/Store.lean ====
section
/-! DEFINITION. The Manifest Store: buckets and ways, the presence filter, lookup, insert and removal, and the filter rebuild (chapter 4). -/

namespace Sys2Proof.Machine

open Sys2Proof

/-- The bucket of a tag (R62). -/
def bucketOf (tag : Nat) : Nat := tag % Config.buckets

/-- The filter cell of a tag (R63). -/
def cellOf (tag : Nat) : Nat := tag % Config.cells

/-- The key of a way of a bucket. -/
def wayKey (bucket way : Nat) : Nat := bucket * Config.ways + way

/-- The bucket search: the key of the way whose entry holds the tag (R62). -/
def Manifest.findKey (m : Manifest) (tag : Nat) : Option Nat :=
  ((List.range Config.ways).map (wayKey (bucketOf tag))).find?
    (fun k => (Table.get m.entries k).any (fun e => e.tag == tag))

/-- The entry of a tag. -/
def Manifest.find (m : Manifest) (tag : Nat) : Option Entry := (m.findKey tag).bind (Table.get m.entries)

/-- The lowest free way of the tag's bucket, or none when the bucket is full (R62). -/
def Manifest.freeKey (m : Manifest) (tag : Nat) : Option Nat :=
  ((List.range Config.ways).map (wayKey (bucketOf tag))).find? (fun k => (Table.get m.entries k).isNone)

/-- A filter counter. -/
def counterAt (f : List (Nat × Nat)) (cell : Nat) : Nat := (Table.get f cell).getD 0

/-- A filter with one counter set; a counter of 0 is not listed. -/
def setCounter (f : List (Nat × Nat)) (cell n : Nat) : List (Nat × Nat) :=
  if n = 0 then Table.del f cell else Table.put f cell n

/-- Adds 1 to a counter, stopping at 15 (R63). -/
def countUp (f : List (Nat × Nat)) (cell : Nat) : List (Nat × Nat) :=
  setCounter f cell (min Config.counterMax (counterAt f cell + 1))

/-- Subtracts 1 from a counter below 15; a counter at 15 is sticky (R63). -/
def countDown (f : List (Nat × Nat)) (cell : Nat) : List (Nat × Nat) :=
  if counterAt f cell < Config.counterMax then setCounter f cell (counterAt f cell - 1) else f

/-- Applies a change of one entry to the fresh filter, if a rebuild runs and the entry's bucket has been scanned (R75). -/
def Rebuild.change (f : List (Nat × Nat) → Nat → List (Nat × Nat)) (tag : Nat) (r : Rebuild) : Rebuild :=
  if bucketOf tag < r.scanPoint then { r with fresh := f r.fresh (cellOf tag) } else r

/-- Places an entry in a way and counts its cell up, in the fresh filter too during a rebuild (R62, R63, R75). -/
def Manifest.insertAt (m : Manifest) (key : Nat) (e : Entry) : Manifest :=
  { m with
    entries := Table.put m.entries key e
    filter := countUp m.filter (cellOf e.tag)
    rebuild := m.rebuild.map (Rebuild.change countUp e.tag) }

/-- Frees a way and counts the entry's cell down, in the fresh filter too during a rebuild (R62, R63, R75). -/
def Manifest.removeAt (m : Manifest) (key tag : Nat) : Manifest :=
  { m with
    entries := Table.del m.entries key
    filter := countDown m.filter (cellOf tag)
    rebuild := m.rebuild.map (Rebuild.change countDown tag) }

/-- Changes the entry in a way in place; no counter changes (R61, R63). -/
def Manifest.amendAt (m : Manifest) (key : Nat) (e : Entry) : Manifest :=
  { m with entries := Table.put m.entries key e }

/-- The four outcomes of a lookup, with the entry where one is found (R64). -/
inductive Lookup where
  | notOnManifest
  | screeningHold (e : Entry)
  | cabinUnassigned (e : Entry)
  | found (e : Entry)
  deriving DecidableEq, Repr

/-- The entry that a lookup returns (R64). -/
def Lookup.entry : Lookup → Option Entry
  | .notOnManifest => none
  | .screeningHold e => some e
  | .cabinUnassigned e => some e
  | .found e => some e

/-- The outcome that an entry gives (R64, steps 3 to 5). -/
def Lookup.of (e : Entry) : Lookup :=
  if e.hold then .screeningHold e else if e.cabin = 0 then .cabinUnassigned e else .found e

/-- The outcome of a lookup: what the bucket search gives; the filter only decides how it is found (R64, R76). -/
def Manifest.lookupResult (m : Manifest) (tag : Nat) : Lookup :=
  if m.rebuild.isNone ∧ counterAt m.filter (cellOf tag) = 0 then .notOnManifest
  else
    match m.find tag with
    | none => .notOnManifest
    | some e => .of e

/-- The tallies after one lookup (R64, R76). -/
def Manifest.countLookup (m : Manifest) (tag : Nat) : Manifest :=
  { m with
    lookups := satInc Config.longMax m.lookups
    filterAbsent :=
      if m.rebuild.isNone ∧ counterAt m.filter (cellOf tag) = 0 then satInc Config.longMax m.filterAbsent
      else m.filterAbsent
    filterFalse :=
      if m.rebuild.isNone ∧ counterAt m.filter (cellOf tag) ≠ 0 ∧ m.find tag = none then
        satInc Config.longMax m.filterFalse
      else m.filterFalse }

/-- The lookup tallies of the whole state after one lookup. -/
def countLookup (tag : Nat) (s : State) : State := { s with manifest := s.manifest.countLookup tag }

/-- The live entries of one bucket, in way order. -/
def Manifest.bucket (m : Manifest) (b : Nat) : List Entry :=
  (List.range Config.ways).filterMap (fun w => Table.get m.entries (wayKey b w))

/-- Full buckets (R79). -/
def Manifest.fullBuckets (m : Manifest) : Nat :=
  ((List.range Config.buckets).filter (fun b => (m.bucket b).length == Config.ways)).length

/-- Live counters at 15 (R77, R79). -/
def Manifest.stickyCells (m : Manifest) : Nat := (m.filter.filter (fun x => x.2 == Config.counterMax)).length

/-- Live counters that are nonzero (R77, R79). -/
def Manifest.nonzeroCells (m : Manifest) : Nat := (m.filter.filter (fun x => x.2 != 0)).length

/-- The fresh filter after the scan of a bucket (R74). -/
def scanBucket (m : Manifest) (r : Rebuild) : List (Nat × Nat) :=
  (m.bucket r.scanPoint).foldl (fun f e => countUp f (cellOf e.tag)) r.fresh

/-- The store after one bucket scan of a running rebuild: the next scan point, or completion after bucket 1,020 (R74, R77). -/
def Manifest.scan (m : Manifest) (r : Rebuild) : Manifest :=
  if r.scanPoint + 1 < Config.buckets then
    { m with rebuild := some { scanPoint := r.scanPoint + 1, fresh := scanBucket m r } }
  else
    { m with
      filter := scanBucket m r
      rebuild := none
      rebuildsDone := satInc Config.tallyMax m.rebuildsDone }

/-- FILTER_DONE with the counters at 15 and the nonzero counters of the new live filter (R77). -/
def filterDoneNotice (m : Manifest) : Notice :=
  { Notice.of .filterDone with detail1 := m.stickyCells, detail2 := m.nonzeroCells }

/-- One bucket scan; no effect while no rebuild runs (R74, R77). -/
def bucketScan (s : State) : State :=
  match s.manifest.rebuild with
  | none => s
  | some r =>
    if r.scanPoint + 1 < Config.buckets then { s with manifest := s.manifest.scan r }
    else notify (filterDoneNotice (s.manifest.scan r)) { s with manifest := s.manifest.scan r }

/-- Abandons a running rebuild (R77). -/
def Manifest.abandon (m : Manifest) : Manifest :=
  if m.rebuild.isSome then { m with rebuild := none, rebuildsAbandoned := satInc Config.tallyMax m.rebuildsAbandoned }
  else m

/-- The store at session close: a running rebuild abandoned, every way free, every counter 0 (R78). -/
def Manifest.close (m : Manifest) : Manifest := { m.abandon with entries := [], filter := [] }

/-- BUCKET_SCAN (R74). -/
def execBucketScan (s : State) : Host.Outcome State Fault Refusal := done (bucketScan s)

end Sys2Proof.Machine
end

