-- ==== Sys2Proof/Machine/Carts.lean ====
section
/-! DEFINITION. Chute records and cart lists: the FULL test, new carts, recording a drop, confirmations, failed and presumed drops, closing a cart and sending its report (chapter 7). -/

namespace Sys2Proof.Machine

open Sys2Proof

/-- The count: the entries of the current cart list (R126). -/
def Chute.count (c : Chute) : Nat := c.cart.length

/-- The queued count (R100). -/
def Chute.queued (c : Chute) : Nat := c.queue.length

/-- Room: capacity − count − queued (R85). -/
def Chute.room (c : Chute) : Nat := c.cfg.capacity - c.count - c.queued

/-- The chute is in OPEN or FULL. -/
def Chute.inUse (c : Chute) : Bool := c.state == .opened || c.state == .full

/-- The prior state of a FAULTED chute is OPEN or FULL. -/
def Chute.priorInUse (c : Chute) : Bool := c.prior == some .opened || c.prior == some .full

/-- The chute has a current cart: OPEN, FULL, or FAULTED whose prior state is OPEN or FULL (R120). -/
def Chute.hasCart (c : Chute) : Bool := c.inUse || (c.state == .faulted && c.priorInUse)

/-- The test for FULL of a chute in OPEN or FULL (R124). -/
def Chute.fullTest (c : Chute) : Chute :=
  if c.inUse then { c with state := if c.count + c.queued < c.cfg.capacity then .opened else .full } else c

/-- A slot of cart memory: the entry of the chute's region that stands in it, in the current cart list or in the list of the pending report (R123, R126, log 20). -/
def Chute.slot (c : Chute) (pending : List CartEntry) (slot : Nat) : Option CartEntry :=
  if c.cfg.first ≤ slot ∧ slot < c.cfg.first + c.cfg.capacity then
    (if c.report = .none then c.cart else pending)[slot - c.cfg.first]?
  else none

/-- The entries of the pending report of a chute, in the report queue or in its waiting list (R133). -/
def CartUnit.pendingOf (u : CartUnit) (j : Nat) : List CartEntry :=
  (((u.reports ++ u.waiting).find? (fun r => r.chute == j)).map Report.entries).getD []

/-- The content of one of the 4,096 slots of cart memory (R123). -/
def CartUnit.slot (u : CartUnit) (slot : Nat) : Option CartEntry :=
  u.chutes.zipIdx.findSome? (fun x => x.1.slot (u.pendingOf x.2) slot)

/-- Slots in use by current carts and by pending reports, as one sum of entries (R145; one value of CHUTES, log 14). -/
def CartUnit.slotsUsed (u : CartUnit) : Nat :=
  (u.chutes.map Chute.count).sum + ((u.reports ++ u.waiting).map (fun r => r.entries.length)).sum

/-- Starts a new cart at a chute with the next cart serial (R126). -/
def newCart (j : Nat) (s : State) : State :=
  { s with
    carts :=
      { s.carts with
        chutes :=
          s.carts.chutes.modify j
            (fun c => { c with serial := some s.carts.nextSerial, cart := [], nearFull := false, present := false })
        nextSerial := nextSerial s.carts.nextSerial } }

/-- Makes a chute OPEN with a new cart; the FULL test leaves it OPEN (R136, R139). -/
def openWithCart (j : Nat) (s : State) : State :=
  modifyChute j (fun c => { c with state := .opened }.fullTest) (newCart j s)

/-- The test for the end of a swap: state SWAP, report state NONE, cart present (R136). -/
def swapTest (j : Nat) (s : State) : State :=
  match s.chute? j with
  | some c => if c.state = .swap ∧ c.report = .none ∧ c.present = true then openWithCart j s else s
  | none => s

/-! ## Closing a cart (R133) and sending its report (R134) -/

/-- The cart report of a chute's current cart (R133). -/
def Chute.reportOf (c : Chute) (voyage j : Nat) : Report :=
  { voyage := voyage, chute := j, serial := c.serial.getD 0, entries := c.cart }

/-- Closes a chute's current cart: its report joins the report queue, or the waiting list when that holds 8 (R133). -/
def closeCart (j : Nat) (s : State) : State :=
  match s.chute? j with
  | none => s
  | some c =>
    if s.carts.reports.length < Config.reportsMax then
      { s with
        carts :=
          { s.carts with
            reports := s.carts.reports ++ [c.reportOf s.session.voyage j]
            chutes := s.carts.chutes.modify j (fun c => { c with cart := [], report := .queued }) } }
    else
      { s with
        carts :=
          { s.carts with
            waiting := s.carts.waiting ++ [c.reportOf s.session.voyage j]
            chutes := s.carts.chutes.modify j (fun c => { c with cart := [], report := .waiting }) } }

/-- Moves the oldest report of the waiting list into a free place of the report queue (R133, R134 step 4). -/
def admitWaiting (s : State) : State :=
  match s.carts.waiting with
  | [] => s
  | r :: rest =>
    if s.carts.reports.length < Config.reportsMax then
      { s with
        carts :=
          { s.carts with
            reports := s.carts.reports ++ [r]
            waiting := rest
            chutes := s.carts.chutes.modify r.chute (fun c => { c with report := .queued }) } }
    else s

/-- The report at the head of the queue has been sent (R134). -/
def reportSent (s : State) : State :=
  match s.carts.reports with
  | [] => s
  | r :: rest =>
    admitWaiting
      (swapTest r.chute
        { s with
          carts :=
            { s.carts with
              reports := rest
              cartPart := 0
              chutes := s.carts.chutes.modify r.chute (fun c => { c with report := .none }) } })

/-- A CART frame of the head report has been transmitted (R134). -/
def cartFrameSent (s : State) : State :=
  match s.carts.reports with
  | [] => s
  | r :: _ =>
    if s.carts.cartPart + 1 < r.frames then { s with carts := { s.carts with cartPart := s.carts.cartPart + 1 } }
    else reportSent s

/-! ## Confirmations (R129) -/

/-- DROPPING to DOUBT (R129). -/
def doubtTray (k : Nat) (s : State) : State := changeTray k .dropping (fun t => { t with state := .doubt }) s

/-- The oldest confirmation of a chute expires: TIMED_OUT rises and its tray becomes DOUBT (R129). -/
def expireOldest (j : Nat) (s : State) : State :=
  match s.chute? j with
  | none => s
  | some c =>
    match c.awaiting with
    | [] => s
    | a :: rest =>
      doubtTray a.tray
        (modifyChute j (fun c => { c with awaiting := rest, timedOut := satInc Config.tallyMax c.timedOut }) s)

/-- The confirmation that a fire of a chute opens (R129). -/
def Chute.confirmation (c : Chute) (k seq now : Nat) : Confirmation :=
  { tray := k, seq := seq, serial := c.serial.getD 0, expiry := now + c.cfg.confirm * Config.perMs }

/-- Adds a confirmation at the end of the awaiting list. -/
def appendConfirmation (j k seq : Nat) (s : State) : State :=
  modifyChute j (fun c => { c with awaiting := c.awaiting ++ [c.confirmation k seq s.now] }) s

/-- Opens a confirmation; a list that already holds 4 first expires its oldest (R129). -/
def openConfirmation (j k seq : Nat) (s : State) : State :=
  match s.chute? j with
  | none => s
  | some c =>
    if c.awaiting.length < Config.awaitingMax then appendConfirmation j k seq s
    else appendConfirmation j k seq (expireOldest j s)

/-- The entry of tray k and this sequence. -/
def CartEntry.names (k seq : Nat) (e : CartEntry) : Bool := e.tray == k && e.seq == seq

/-! ## Recording a drop (R128) and the near-full warning (R125) -/

/-- NEAR_FULL of a chute (R125). -/
def Chute.nearFullNotice (c : Chute) (j : Nat) : Notice :=
  { Notice.of .nearFull with chute := some j, serial := c.serial, detail1 := c.count }

/-- The count has just risen to a watermark not yet warned of (R125). -/
def Chute.nearFullDue (c : Chute) : Bool := c.cfg.watermark != 0 && !c.nearFull && c.count == c.cfg.watermark

/-- The near-full warning after a fire has raised the count (R125). -/
def warnNearFull (j : Nat) (s : State) : State :=
  match s.chute? j with
  | none => s
  | some c =>
    if c.nearFullDue then notify (c.nearFullNotice j) (modifyChute j (fun c => { c with nearFull := true }) s) else s

/-- The entry that a fire appends (R126, R128). -/
def Chute.newEntry (c : Chute) (k seq tag cabin : Nat) : CartEntry :=
  { tag := tag, cabin := cabin, tray := k, seq := seq, status := if c.cfg.confirm = 0 then .confirmed else .pending,
    amended := false }

/-- Records the drop of a fire (R128): the entry, the count, the watermark, the FULL test, and a confirmation when the confirm period is not 0. -/
def recordDrop (j k seq tag cabin : Nat) (s : State) : State :=
  match s.chute? j with
  | none => s
  | some c =>
    let s1 := warnNearFull j (modifyChute j (fun c => { c with cart := c.cart ++ [c.newEntry k seq tag cabin] }) s)
    let s2 := modifyChute j Chute.fullTest s1
    if c.cfg.confirm = 0 then s2 else openConfirmation j k seq s2

/-! ## Failed and presumed drops (R131) -/

/-- The chute's current cart is the one with this serial. -/
def Chute.isCurrent (c : Chute) (serial : Nat) : Bool := c.hasCart && c.serial == some serial

/-- The entry of this drop in the current cart, if that cart is still the drop's (R131). -/
def State.dropEntry (s : State) (j serial k seq : Nat) : Option CartEntry :=
  match s.chute? j with
  | none => none
  | some c => if c.isCurrent serial then c.cart.find? (CartEntry.names k seq) else none

/-- DROP_FAILED and CORRECTION (R131). -/
def dropNotice (kind : NoticeKind) (j serial k tag : Nat) : Notice :=
  { Notice.of kind with tray := some k, tag := tag, chute := some j, serial := some serial }

/-- The drop failed: the entry is removed with DROP_FAILED; or CORRECTION, with the bag's tag, when the current cart holds no such entry (R131). -/
def undoDrop (j serial k seq tag : Nat) (s : State) : State :=
  match s.dropEntry j serial k seq with
  | some e =>
    notify (dropNotice .dropFailed j serial k e.tag)
      (modifyChute j (fun c => { c with cart := c.cart.eraseP (CartEntry.names k seq) }.fullTest) s)
  | none => notify (dropNotice .correction j serial k tag) s

/-- The drop is presumed: a PENDING entry of the current cart becomes PRESUMED (R131). -/
def presumeDrop (j serial k seq : Nat) (s : State) : State :=
  modifyChute j
    (fun c =>
      if c.isCurrent serial then
        { c with
          cart :=
            c.cart.map
              (fun e => if e.names k seq = true ∧ e.status = .pending then { e with status := .presumed } else e) }
      else c) s

/-- Sets the AMENDED mark of the entry of this drop, if its cart is still current (R117, R132). -/
def markAmended (j serial k seq : Nat) (s : State) : State :=
  modifyChute j
    (fun c =>
      if c.isCurrent serial then
        { c with cart := c.cart.map (fun e => if e.names k seq then { e with amended := true } else e) }
      else c) s

/-- The search of the current cart lists by tag: chute, cart serial and entry (R132). -/
def State.cartOfTag (s : State) (tag : Nat) : Option (Nat × Nat × CartEntry) :=
  s.carts.chutes.zipIdx.findSome?
    (fun x =>
      (x.1.cart.find? (fun e => tag != 0 && e.tag == tag)).map (fun e => (x.2, x.1.serial.getD 0, e)))

/-! ## CONFIRMATION_EXPIRY -/

/-- CONFIRMATION_EXPIRY at a chute (R129; taken when commanded, log 4). -/
def execConfirmationExpiry (chute : Nat) (s : State) : Host.Outcome State Fault Refusal := done (expireOldest chute s)

end Sys2Proof.Machine
end

