-- ==== Sys2Proof/Machine/Strays.lean ====
section
/-! DEFINITION. The Stray List: recording a stray drop, reinduction, release and search (chapter 8). -/

namespace Sys2Proof.Machine

open Sys2Proof

/-- A record holds a nonzero tag when its tag field or its resolved tag equals it (R146). -/
def StrayRec.holds (tag : Nat) (r : StrayRec) : Bool := tag != 0 && (r.tag == tag || r.resolvedTag == tag)

/-- The record that holds a tag (R158). -/
def StrayList.find (l : StrayList) (tag : Nat) : Option StrayRec := l.recs.find? (StrayRec.holds tag)

/-- The first value from n on that no record bears, passing over at most `fuel` values (R147). -/
def freeSerial (recs : List StrayRec) : Nat → Nat → Nat
  | 0, n => n
  | fuel + 1, n => if recs.any (fun r => r.serial == n) then freeSerial recs fuel (nextSerial n) else n

/-- What the Discharge Scheduler hands over at a stray fire (R107). -/
structure StrayDrop where
  tag : Nat
  tag2 : Nat
  reason : StrayReason
  tray : Nat
  lap : Nat
  chute : Nat
  deriving DecidableEq, Repr

/-- A new record of a stray drop (R149). -/
def StrayDrop.record (d : StrayDrop) (serial second : Nat) : StrayRec :=
  { serial := serial, tag := d.tag, tag2 := d.tag2, reason := d.reason, tray := d.tray, lap := d.lap, chute := d.chute,
    second := second, repeats := 1, resolved := false, resolvedTag := 0, resolvedCabin := 0 }

/-- A record after a repeat of its bag (R148). -/
def StrayRec.again (d : StrayDrop) (second : Nat) (r : StrayRec) : StrayRec :=
  { r with
    tag := d.tag
    tag2 := d.tag2
    reason := d.reason
    tray := d.tray
    lap := d.lap
    chute := d.chute
    second := second
    repeats := satInc 255 r.repeats
    resolved := false
    resolvedTag := 0
    resolvedCabin := 0 }

/-- The list with a new record, which bears the counter's value, at its end; the counter advances to the next value that no record bears (R147, R149). -/
def StrayList.store (l : StrayList) (d : StrayDrop) (second : Nat) : StrayList :=
  { l with
    recs := l.recs ++ [d.record l.nextSerial second]
    nextSerial :=
      freeSerial (l.recs ++ [d.record l.nextSerial second]) Config.straysMax (Sys2Proof.nextSerial l.nextSerial) }

/-- The list with its first record holding the tag changed. -/
def updateFirst (p : StrayRec → Bool) (f : StrayRec → StrayRec) : List StrayRec → List StrayRec
  | [] => []
  | r :: rest => if p r then f r :: rest else r :: updateFirst p f rest

/-- STRAY's notice: outcome 1 NEW, 2 REPEAT, 3 LOST (R151, R198). -/
def StrayDrop.notice (d : StrayDrop) (serial outcome third : Nat) : Notice :=
  { Notice.of (.stray d.reason) with
    tray := some d.tray
    tag := d.tag
    chute := some d.chute
    detail1 := serial
    detail2 := outcome
    detail3 := third }

/-- Replaces the Stray List. -/
def withStrays (l : StrayList) (s : State) : State := { s with strays := l }

/-- Takes a stray drop handed on (R148 to R151). -/
def recordStray (d : StrayDrop) (s : State) : State :=
  match s.strays.find d.tag with
  | some r =>
    notify (d.notice r.serial 2 (satInc 255 r.repeats))
      (withStrays
        { s.strays with recs := updateFirst (StrayRec.holds d.tag) (StrayRec.again d s.session.clock) s.strays.recs } s)
  | none =>
    if s.strays.recs.length < Config.straysMax then
      notify (d.notice s.strays.nextSerial 1 0) (withStrays (s.strays.store d s.session.clock) s)
    else
      match s.strays.policy with
      | .keepOldest =>
        notify (d.notice 0 3 0) (withStrays { s.strays with lost := satInc Config.tallyMax s.strays.lost } s)
      | .dropOldest =>
        let l := { s.strays with recs := s.strays.recs.tail, lost := satInc Config.tallyMax s.strays.lost }
        notify (d.notice l.nextSerial 1 ((s.strays.recs.head?.map StrayRec.serial).getD 0))
          (withStrays (l.store d s.session.clock) s)

/-- REINDUCTED's notice (R153). -/
def StrayRec.reinductedNotice (r : StrayRec) (tray tag chute : Nat) : Notice :=
  { Notice.of (.reinducted r.reason) with
    tray := some tray
    tag := tag
    chute := some chute
    detail1 := r.serial
    detail2 := r.repeats }

/-- A deck route of a nonzero tag: in SORTING or DRAINING the record that holds it is removed with REINDUCTED (R153). -/
def reinduct (tray tag chute : Nat) (s : State) : State :=
  if s.mode = .sorting ∨ s.mode = .draining then
    match s.strays.find tag with
    | some r =>
      notify (r.reinductedNotice tray tag chute)
        (withStrays { s.strays with recs := s.strays.recs.eraseP (StrayRec.holds tag) } s)
    | none => s
  else s

/-- A record resolved with this tag and cabin (R154, R156). -/
def StrayRec.resolve (tag cabin : Nat) (r : StrayRec) : StrayRec :=
  { r with resolved := true, resolvedTag := tag, resolvedCabin := cabin }

/-- A record after the release of a tag: an OPEN SCREENING_HOLD record becomes RESOLVED with the entry's cabin (R154). -/
def StrayRec.release (tag cabin : Nat) (r : StrayRec) : StrayRec :=
  if r.resolved = false ∧ r.reason = .screeningHold then r.resolve tag cabin else r

/-- The Stray List is told of a release (R154). -/
def releaseStray (tag cabin : Nat) (s : State) : State :=
  withStrays { s.strays with recs := updateFirst (StrayRec.holds tag) (StrayRec.release tag cabin) s.strays.recs } s

end Sys2Proof.Machine
end

