-- ==== Sys2Proof/Machine/Routes.lean ====
section
/-! DEFINITION. The Route Resolver: zones, rule matching, acceptance and choice of chutes, the routing of identified and stray verdicts, and the rows ZLOAD, RLOAD and RSET's checks (chapter 5). -/

namespace Sys2Proof.Machine

open Sys2Proof

/-! ## Zones (R80, R81) -/

/-- The lowest-numbered zone whose ending is at least c (R81); none is OUT_OF_PLAN. -/
def zoneOf (zones : List Zone) (c : Nat) : Option Nat := zones.findIdx? (fun z => c ≤ z.ending)

/-- The zones that cover at least one cabin: their ending is greater than every ending before (R81). -/
def coveringZones : Nat → List Zone → Nat
  | _, [] => 0
  | m, z :: rest => (if m < z.ending then 1 else 0) + coveringZones (max m z.ending) rest

/-- The highest ending of a zone table (R82). -/
def highestEnding (zones : List Zone) : Nat := zones.foldl (fun m z => max m z.ending) 0

/-! ## Verdicts and rule matching (R84) -/

/-- The verdict of a pass (R56 to R59): identified by a tag with the values its lookup returned, or a stray with its reason. -/
inductive Verdict where
  | identified (tag cabin group : Nat) (priority oversize : Bool)
  | stray (reason : StrayReason)
  deriving DecidableEq, Repr

/-- An identified verdict with the zone, deck and section of its cabin (R87). -/
structure Placed where
  tag : Nat
  group : Nat
  priority : Bool
  oversize : Bool
  zone : Nat
  deck : Nat
  sec : Nat
  deriving DecidableEq, Repr

/-- A match kind other than REASON against an identified verdict (R84). -/
def Match.fits (p : Placed) : Match → Bool
  | .zone lo hi => lo ≤ p.zone && p.zone ≤ hi
  | .deck lo hi sec => lo ≤ p.deck && p.deck ≤ hi && (sec.isNone || sec == some p.sec)
  | .group v => p.group == v
  | .flag .priority => p.priority
  | .flag .oversize => p.oversize
  | .tag lo hi => lo ≤ p.tag && p.tag ≤ hi
  | .reason _ => false
  | .any => true

/-- A match kind against a stray verdict: REASON alone (R84). -/
def Match.fitsStray (reason : StrayReason) : Match → Bool
  | .reason r => r == reason
  | _ => false

/-! ## Acceptance and choice (R85, R86) -/

/-- A chute accepts a new order: OPEN with fewer than 8 orders (R85). -/
def Chute.accepts (c : Chute) : Bool := c.state == .opened && c.queue.length < Config.queueMax

/-- The better of a choice so far and a chute: more room, or equal room and a lower number (R86). -/
def betterChute (chutes : List Chute) (best : Option Nat) (j : Nat) : Option Nat :=
  match chutes[j]? with
  | none => best
  | some c =>
    if c.accepts then
      match best with
      | none => some j
      | some b =>
        match chutes[b]? with
        | none => some j
        | some cb => if cb.room < c.room ∨ (cb.room = c.room ∧ j < b) then some j else some b
    else best

/-- The accepting chute of a set with the most room, the lowest number among equals (R86). -/
def chooseChute (chutes : List Chute) (set : List Nat) : Option Nat := set.foldl (betterChute chutes) none

/-- What a rule that is taken gives (R87, R88). -/
inductive Taken where
  | chute (j : Nat)
  | recirculate
  | stray
  deriving DecidableEq, Repr

/-- An action, if it can be carried out (R87, R88). -/
def Action.try (chutes : List Chute) : Action → Option Taken
  | .toChute j => (chooseChute chutes [j]).map .chute
  | .toSet js => (chooseChute chutes js).map .chute
  | .recirculate => some .recirculate
  | .stray => some .stray

/-- The scan of the rule list from the top: the list with TAKEN and PASSED counted, and what the first rule that fits and can be carried out gives (R87, R88). -/
def scanRules (chutes : List Chute) (fits : Match → Bool) : List Rule → List Rule × Option Taken
  | [] => ([], none)
  | r :: rest =>
    if r.enabled && fits r.mtch then
      match r.action.try chutes with
      | some t => ({ r with taken := satInc Config.tallyMax r.taken } :: rest, some t)
      | none =>
        let (rest', t) := scanRules chutes fits rest
        ({ r with passed := satInc Config.tallyMax r.passed } :: rest', t)
    else
      let (rest', t) := scanRules chutes fits rest
      (r :: rest', t)

/-! ## Resolving a route (R87 to R92) -/

/-- The outcome of a resolution: a chute with the route kind, or recirculation (R92). -/
inductive Route where
  | chute (j : Nat) (kind : RouteKind)
  | recirculate
  deriving DecidableEq, Repr

/-- The result of a resolution with the fields it sets on the tray (R92). -/
structure Resolved where
  route : Route
  reason : Option StrayReason
  cabin : Nat
  zone : Option Nat
  deriving DecidableEq, Repr

/-- Replaces the Route Resolver. -/
def withRouter (r : Router) (s : State) : State := { s with router := r }

/-- STRAY_BLOCKED's notice (R91). -/
def blockedNotice (k tag : Nat) (reason : StrayReason) : Notice :=
  { Notice.of (.strayBlocked reason) with tray := some k, tag := tag }

/-- Tries the stray set for a stray of tray k (R91). -/
def tryStraySet (k tag : Nat) (reason : StrayReason) (s : State) : State × Route :=
  match chooseChute s.carts.chutes s.router.straySet with
  | some j => (withRouter { s.router with straySets := satInc Config.tallyMax s.router.straySets } s, .chute j .stray)
  | none =>
    (notify (blockedNotice k tag reason)
      (withRouter { s.router with blocked := satInc Config.tallyMax s.router.blocked } s), .recirculate)

/-- DRAIN_REPLACED rises (R90). -/
def countReplaced (s : State) : State :=
  withRouter { s.router with drainReplaced := satInc Config.tallyMax s.router.drainReplaced } s

/-- Routes a stray verdict: the REASON rules, then the stray set (R88, R90, R91). -/
def routeStray (k tag : Nat) (reason : StrayReason) (s : State) : State × Route :=
  let (rules, t) := scanRules s.carts.chutes (Match.fitsStray reason) s.router.rules
  let s1 := withRouter { s.router with rules := rules } s
  match t with
  | some (.chute j) => (s1, .chute j .stray)
  | some .recirculate =>
    if s.mode = .draining then tryStraySet k tag reason (countReplaced s1) else (s1, .recirculate)
  | some .stray => tryStraySet k tag reason s1
  | none => tryStraySet k tag reason s1

/-- A result of RECIRCULATE for an identified verdict, replaced in DRAINING by the stray set with reason NO_ROUTE (R90). -/
def recirculateIdentified (k tag cabin zone : Nat) (s : State) : State × Resolved :=
  if s.mode = .draining then
    let (s1, r) := tryStraySet k tag .noRoute (countReplaced s)
    (s1, { route := r, reason := some .noRoute, cabin := cabin, zone := some zone })
  else (s, { route := .recirculate, reason := none, cabin := cabin, zone := some zone })

/-- An identified verdict turned stray with reason NO_ROUTE (R87, R89). -/
def strayNoRoute (k tag cabin zone : Nat) (s : State) : State × Resolved :=
  let (s1, r) := routeStray k tag .noRoute s
  (s1, { route := r, reason := some .noRoute, cabin := cabin, zone := some zone })

/-- The default action (R89). -/
def defaultAction (k tag cabin zone : Nat) (s : State) : State × Resolved :=
  let s1 := withRouter { s.router with defaults := satInc Config.tallyMax s.router.defaults } s
  match s.router.dflt with
  | .recirculate => recirculateIdentified k tag cabin zone s1
  | .stray => strayNoRoute k tag cabin zone s1

/-- Routes an identified verdict whose cabin has been resolved to a zone (R87). -/
def routePlaced (k cabin : Nat) (p : Placed) (s : State) : State × Resolved :=
  let (rules, t) := scanRules s.carts.chutes (Match.fits p) s.router.rules
  let s1 := withRouter { s.router with rules := rules } s
  match t with
  | some (.chute j) => (s1, { route := .chute j .deck, reason := none, cabin := cabin, zone := some p.zone })
  | some .recirculate => recirculateIdentified k p.tag cabin p.zone s1
  | some .stray => strayNoRoute k p.tag cabin p.zone s1
  | none => defaultAction k p.tag cabin p.zone s1

/-- Resolves a verdict for tray k whose tag field is to hold `tag` (R87 to R92). -/
def resolveRoute (k tag : Nat) (v : Verdict) (s : State) : State × Resolved :=
  match v with
  | .stray reason =>
    let (s1, r) := routeStray k tag reason s
    (s1, { route := r, reason := some reason, cabin := 0, zone := none })
  | .identified t cabin group priority oversize =>
    match zoneOf s.router.zones cabin with
    | none =>
      let (s1, r) := routeStray k tag .outOfPlan s
      (s1, { route := r, reason := some .outOfPlan, cabin := cabin, zone := none })
    | some z =>
      let zn := s.router.zones.getD z { ending := 0, deck := 1, sec := 0 }
      routePlaced k cabin
        { tag := t, group := group, priority := priority, oversize := oversize, zone := z, deck := zn.deck, sec := zn.sec } s

/-! ## Checks of the tables carried by ZLOAD, RLOAD and RSET (R82, R83) -/

/-- A zone's values are in range (R82). -/
def zoneOk (z : Zone) : Bool := z.ending ≤ Config.cabinMax && 1 ≤ z.deck && z.deck ≤ 20 && z.sec ≤ 3

/-- The match values carried, if valid (R83). -/
def checkMatch : MatchArg → Option Match
  | .zone lo hi => if hi ≤ 31 ∧ lo ≤ hi then some (.zone lo hi) else none
  | .deck lo hi sec =>
    if 1 ≤ lo ∧ lo ≤ hi ∧ hi ≤ 20 ∧ sec.all (fun x => decide (x ≤ 3)) = true then some (.deck lo hi sec) else none
  | .group v => if v ≤ 255 then some (.group v) else none
  | .flag c => if c = 1 then some (.flag .priority) else if c = 2 then some (.flag .oversize) else none
  | .tag lo hi => if 1 ≤ lo ∧ lo ≤ hi ∧ hi ≤ Config.tagMax then some (.tag lo hi) else none
  | .reason c =>
    ([.noRead, .tagConflict, .notOnManifest, .cabinUnassigned, .outOfPlan, .screeningHold, .lapLimit, .noRoute].find?
      (fun r => StrayReason.code r == c)).map Match.reason
  | .any => some .any
  | .other _ => none

/-- No number stands twice in a list. -/
def distinct : List Nat → Bool
  | [] => true
  | x :: rest => !rest.contains x && distinct rest

/-- The action and targets carried, if valid (R83). -/
def checkAction (action : Nat) (targets : List Nat) : Option Action :=
  match action with
  | 1 =>
    match targets with
    | [j] => if j ≤ 63 then some (.toChute j) else none
    | _ => none
  | 2 =>
    if 2 ≤ targets.length ∧ targets.length ≤ 4 ∧ targets.all (fun x => decide (x ≤ 63)) = true ∧ distinct targets = true then
      some (.toSet targets)
    else none
  | 3 => if targets = [] then some .recirculate else none
  | 4 => if targets = [] then some .stray else none
  | _ => none

/-- A rule as carried, with its tallies 0, if it passes the checks of R83. -/
def checkRule (r : RuleArg) : Option Rule :=
  match checkMatch r.mtch, checkAction r.action r.targets with
  | some m, some a =>
    if r.enabled ≤ 1 then some { enabled := r.enabled == 1, mtch := m, action := a, taken := 0, passed := 0 } else none
  | _, _ => none

/-- All rules of a part, if each passes its checks. -/
def checkRules : List RuleArg → Option (List Rule)
  | [] => some []
  | r :: rest =>
    match checkRule r, checkRules rest with
    | some x, some xs => some (x :: xs)
    | _, _ => none

end Sys2Proof.Machine
end

