-- ==== Sys2Proof/Machine/Discharge.lean ====
section
/-! DEFINITION. The Discharge Scheduler: arming and deciding a head, fires and misses, queueing an order, cancellation, withdrawal of DROP frames and manifest changes against the fire (chapter 6). -/

namespace Sys2Proof.Machine

open Sys2Proof

/-! ## The head and its monitor (R103) -/

/-- The order of tray k stands in this place of a queue. -/
def Order.isOf (k : Nat) (o : Order) : Bool := o.tray == k

/-- The window of a chute monitor: the smaller of the chute's window and floor(P/2), read at each evaluation (R2). -/
def Chute.windowUsed (c : Chute) (g : Geometry) : Nat := min c.cfg.window g.centre

/-- A chute with its monitor armed on a tray at speed v; the lead is counted when it is clamped (R12, R103). -/
def Chute.arm (c : Chute) (k v : Nat) : Chute :=
  { c with mon := some { tray := k, lead := leadOf v c.cfg.delay }, clamped := countClamp v c.cfg.delay c.clamped }

/-- Arms chute j's monitor on the head of its queue; a monitor arms only in TRACKING (R14, R103). -/
def armHead (j : Nat) (s : State) : State :=
  if s.isTracking then
    modifyChute j
      (fun c =>
        match c.queue with
        | [] => c
        | o :: _ => c.arm o.tray s.tracker.speed) s
  else s

/-- What the evaluation of chute j's monitor decides after the chain has moved `adv` steps forward in this event (R14, R104). -/
def State.headDecision (s : State) (adv j : Nat) : Decision :=
  match s.tracker.geo, s.chute? j with
  | some g, some c =>
    match c.mon with
    | some m => decideMonitor (g.evalApproach s.tracker.disp adv m.tray c.cfg.loc) m.lead (c.windowUsed g)
    | none => .stay
  | _, _ => .stay

/-- The order leaves the queue and the monitor is disarmed (R105 step 3, R109, R110). -/
def Chute.leave (k : Nat) (c : Chute) : Chute := { c with queue := c.queue.eraseP (Order.isOf k), mon := none }

/-- Replaces the Scheduler's own values. -/
def withSched (x : Scheduler) (s : State) : State := { s with sched := x }

/-! ## Miss and shadow fire (R109, R110) -/

/-- A miss of the head (R110): the order leaves, the tray recirculates, MISSED rises, and the FULL test follows (R102, R124). -/
def missOrder (j k : Nat) (s : State) : State :=
  changeTray k .routed Tray.unroute
    (modifyChute j (fun c => { c.leave k with missed := satInc Config.tallyMax c.missed }.fullTest) s)

/-- A fire refused by a full timing queue: QUEUE_FULL rises and the head is handled as a miss (R108). -/
def fireRefused (j k : Nat) (s : State) : State :=
  missOrder j k (withSched { s.sched with queueFull := satInc Config.tallyMax s.sched.queueFull } s)

/-- A shadow fire (R109). -/
def shadowFire (j k : Nat) (s : State) : State :=
  changeTray k .routed Tray.unroute
    (modifyChute j (fun c => { c.leave k with shadow := satInc Config.tallyMax c.shadow }.fullTest) s)

/-! ## Fire in SORTING and DRAINING (R105 to R107) -/

/-- The stray of a fired order of route kind STRAY (R107); none for a DECK order. -/
def Order.stray (o : Order) (t : Tray) (j : Nat) : Option StrayDrop :=
  match o.kind, o.reason with
  | .stray, some r => some { tag := t.tag, tag2 := t.tag2, reason := r, tray := o.tray, lap := t.lap, chute := j }
  | _, _ => none

/-- Hands a fired order's stray to the Stray List (R107). -/
def handStray (d : Option StrayDrop) (s : State) : State :=
  match d with
  | some d => recordStray d s
  | none => s

/-- Steps 1 to 3 of R105: DROP joins the timing queue, FIRED rises and the order leaves. The frame keeps what its withdrawal needs (R111). -/
def sendDrop (j : Nat) (c : Chute) (o : Order) (t : Tray) (s : State) : State :=
  modifyChute j (fun c => { c.leave o.tray with fired := satInc Config.tallyMax c.fired })
    (queueTimed c.cfg.station (.drop j o.tray c.cfg.side o.seq (c.serial.getD 0) t.tag) s)

/-- The tray after a fire at a chute with an eye: DROPPING, its pending cart serial the current cart's (R105 step 4). -/
def Tray.drop (serial : Option Nat) (t : Tray) : Tray := { t with state := .dropping, serial := serial }

/-- A fire at a chute whose confirm period is not 0 (R105). -/
def fireWithEye (j : Nat) (c : Chute) (o : Order) (t : Tray) (s : State) : State :=
  handStray (o.stray t j)
    (recordDrop j o.tray o.seq t.tag t.cabin (changeTray o.tray .routed (Tray.drop c.serial) (sendDrop j c o t s)))

/-- A fire at a chute whose confirm period is 0 (R106). -/
def fireWithoutEye (j : Nat) (c : Chute) (o : Order) (t : Tray) (s : State) : State :=
  changeTray o.tray .routed (fun _ => Tray.blank .empty)
    (handStray (o.stray t j) (recordDrop j o.tray o.seq t.tag t.cabin (sendDrop j c o t s)))

/-- A fire with the mode SORTING or DRAINING and room in the timing queue. -/
def dropFire (j : Nat) (c : Chute) (o : Order) (s : State) : State :=
  match s.trays[o.tray]? with
  | some t => if c.cfg.confirm = 0 then fireWithoutEye j c o t s else fireWithEye j c o t s
  | none => s

/-- The fire of an order by the mode (R105, R106, R108, R109); a mode that holds no orders treats it as a miss (log 16). -/
def fireOrder (j : Nat) (c : Chute) (o : Order) (s : State) : State :=
  match s.mode with
  | .shadow => shadowFire j o.tray s
  | .sorting => if s.timingRoom then dropFire j c o s else fireRefused j o.tray s
  | .draining => if s.timingRoom then dropFire j c o s else fireRefused j o.tray s
  | .idle => missOrder j o.tray s
  | .setup => missOrder j o.tray s
  | .drained => missOrder j o.tray s

/-- The order that chute j's monitor watches. -/
def Chute.watched (c : Chute) : Option Order := c.mon.bind (fun m => c.queue.find? (Order.isOf m.tray))

/-- Acts on a fire or a miss of chute j's monitor; the monitor is then disarmed (R14). -/
def decideHead (j : Nat) (fires : Bool) (s : State) : State :=
  match s.chute? j with
  | none => s
  | some c =>
    match c.watched with
    | none => modifyChute j (fun c => { c with mon := none }) s
    | some o =>
      if fires then fireOrder j c o (modifyChute j (fun c => { c with mon := none }) s)
      else missOrder j o.tray s

/-- A run of decisions at chute j: it stops at the first head that stays armed, or when the queue is empty (R103). A head armed within the run is evaluated at its arming, with no movement since (R14, log 25). -/
def runHead : Nat → Nat → Nat → State → State
  | 0, _, _, s => s
  | fuel + 1, adv, j, s =>
    match s.headDecision adv j with
    | .stay => s
    | .fire => runHead fuel 0 j (armHead j (decideHead j true s))
    | .miss => runHead fuel 0 j (armHead j (decideHead j false s))

/-- Evaluates chute j's monitor; a queue of n orders allows at most n decisions. -/
def evalHead (adv j : Nat) (s : State) : State :=
  runHead (((s.chute? j).map (fun c => c.queue.length)).getD 0) adv j s

/-- Evaluates the monitors of the chutes listed, in that order. -/
def evalHeads (adv : Nat) (js : List Nat) (s : State) : State := js.foldl (fun s j => evalHead adv j s) s

/-- The lead of chute j's monitor computed afresh from a new speed sample (R11, R12), and the monitor evaluated (R104). -/
def resampleHead (j : Nat) (s : State) : State :=
  evalHead 0 j
    (modifyChute j
      (fun c =>
        match c.mon with
        | some m => c.arm m.tray s.tracker.speed
        | none => c) s)

/-! ## Queueing an order (R101) -/

/-- Places an order after every order whose tray has a smaller approach distance to the chute (R101 step 2). -/
def insertOrder (near : Order → Bool) (o : Order) : List Order → List Order
  | [] => [o]
  | x :: rest => if near x || rest.any near then x :: insertOrder near o rest else o :: x :: rest

/-- The tray of an order stands nearer to chute j than tray k (R101 step 2). -/
def State.nearer (s : State) (loc k : Nat) (o : Order) : Bool :=
  match s.tracker.geo with
  | some g => g.approach s.tracker.disp o.tray loc < g.approach s.tracker.disp k loc
  | none => true

/-- Steps 1 to 3 of R101: the order takes the next sequence and its place, and the FULL test follows. -/
def placeOrder (j k : Nat) (kind : RouteKind) (reason : Option StrayReason) (tag : Nat) (s : State) : State :=
  modifyChute j
    (fun c =>
      { c with
        queue :=
          insertOrder (s.nearer c.cfg.loc k)
            { tray := k, seq := s.sched.nextSeq, kind := kind, reason := reason, tag := tag } c.queue }.fullTest)
    (withSched { s.sched with nextSeq := nextSerial s.sched.nextSeq } s)

/-- Queues an order of tray k at chute j (R101). `write` is step 4, the change of the tray to ROUTED; the head is armed and evaluated after it, if the queue was empty (step 5). -/
def queueOrder (j k : Nat) (kind : RouteKind) (reason : Option StrayReason) (tag : Nat) (write : Nat → State → State)
    (s : State) : State :=
  match s.chute? j with
  | none => s
  | some c =>
    if c.queue = [] then evalHead 0 j (armHead j (write s.sched.nextSeq (placeOrder j k kind reason tag s)))
    else write s.sched.nextSeq (placeOrder j k kind reason tag s)

/-! ## Cancellation (R112 to R114) -/

/-- The tray and the tally of one cancellation (R112). -/
def cancelTray (k : Nat) (s : State) : State :=
  changeTray k .routed Tray.unroute
    (withSched { s.sched with cancelled := satInc Config.tallyMax s.sched.cancelled } s)

/-- The order of tray k leaves chute c; the monitor is disarmed if it watched that tray (R112). -/
def Chute.cancel (k : Nat) (c : Chute) : Chute :=
  { c with
    queue := c.queue.eraseP (Order.isOf k)
    mon := if c.mon.any (fun m : Monitor => m.tray == k) then none else c.mon : Chute }.fullTest

/-- The order of tray k is the one that the chute's monitor watches. -/
def Chute.watches (k : Nat) (c : Chute) : Bool := c.mon.any (fun m => m.tray == k)

/-- Cancels the one order of tray k at chute j; where it was the head, the next order arms and is evaluated (R112). -/
def cancelOne (j k : Nat) (s : State) : State :=
  match s.chute? j with
  | none => s
  | some c =>
    if c.queue.any (Order.isOf k) then
      if c.watches k then evalHead 0 j (armHead j (cancelTray k (modifyChute j (Chute.cancel k) s)))
      else cancelTray k (modifyChute j (Chute.cancel k) s)
    else s

/-- Cancels the whole queue of chute j, head first; no order arms (R112, R113). The FULL test of R124 follows at a chute in OPEN or FULL, also where the queue held no order (DESIGN CHOICE, log 39). -/
def cancelQueue (j : Nat) (s : State) : State :=
  match s.chute? j with
  | none => s
  | some c =>
    modifyChute j (fun c => { c with queue := [], mon := none }.fullTest)
      (c.queue.foldl (fun s o => cancelTray o.tray s) s)

/-- Cancels every order of every chute, in chute number order (R114; the FULL test at a chute without orders, log 39). -/
def cancelAll (s : State) : State :=
  (List.range s.carts.chutes.length).foldl (fun s j => cancelQueue j s) s

/-! ## Withdrawal of DROP frames (R111) -/

/-- The confirmation of this drop leaves the awaiting list and its tray becomes DOUBT (R111, R129). -/
def endConfirmation (j k seq : Nat) (s : State) : State :=
  match s.chute? j with
  | none => s
  | some c =>
    if c.awaiting.any (fun a => a.tray == k && a.seq == seq) then
      doubtTray k
        (modifyChute j (fun c => { c with awaiting := c.awaiting.eraseP (fun a => a.tray == k && a.seq == seq) }) s)
    else s

/-- The drop that was not sent (R111). -/
def dropNotSent (j k seq serial tag : Nat) (s : State) : State :=
  match s.chute? j with
  | none => s
  | some c => if c.cfg.confirm = 0 then undoDrop j serial k seq tag s else endConfirmation j k seq s

/-- The timing queue without its first DROP. -/
def dropFirst (s : State) : State :=
  { s with link := { s.link with timing := s.link.timing.eraseP (fun f => f.body.isDrop) } }

/-- WITHDRAWN rises (R111). -/
def countWithdrawn (s : State) : State :=
  withSched { s.sched with withdrawn := satInc Config.tallyMax s.sched.withdrawn } s

/-- Withdraws the DROP frames of this list, from its head on (DESIGN CHOICE, log 36), each with its effect on the confirmation or the cart entry and an evaluation of the drain watch (R111, R169). -/
def withdrawEach : List TimedFrame → State → State
  | [], s => s
  | f :: rest, s =>
    match f.body with
    | .drop j k _ seq serial tag =>
      withdrawEach rest (drainWatch (dropNotSent j k seq serial tag (countWithdrawn (dropFirst s))))
    | .lnch .. => withdrawEach rest s
    | .scan .. => withdrawEach rest s

/-- Withdraws every DROP waiting in the timing queue (R111). -/
def withdrawDrops (s : State) : State := withdrawEach s.link.timing s

/-! ## Manifest changes against the fire (R116 to R118) -/

/-- The notice of a change answered as too late (R117). -/
def ChangeKind.late : ChangeKind → NoticeKind
  | .hold => .holdTooLate
  | .delete => .amendAfterDrop .delete
  | .amend => .amendAfterDrop .amend

/-- Answers a change as too late: the notice, TOO_LATE and the AMENDED mark (R117, R118). -/
def answerLate (kind : ChangeKind) (k tag j serial seq : Nat) (s : State) : State :=
  markAmended j serial k seq
    (withSched { s.sched with tooLate := satInc Config.tallyMax s.sched.tooLate }
      (notify { Notice.of kind.late with tray := some k, tag := tag, chute := some j, serial := some serial } s))

/-- Searches the open carts for a change that found no tray routed, dropping or in doubt (R118). -/
def changeInCarts (kind : ChangeKind) (tag : Nat) (s : State) : State :=
  match s.cartOfTag tag with
  | some (j, serial, e) => answerLate kind e.tray tag j serial e.seq s
  | none => s

/-- Takes a manifest change handed on by the Manifest Store (R116). -/
def manifestChange (kind : ChangeKind) (tag : Nat) (s : State) : State :=
  match s.trayOfTag tag with
  | none => changeInCarts kind tag s
  | some (k, t) =>
    match t.state with
    | .routed => cancelOne (t.target.getD 0) k s
    | .dropping => answerLate kind k tag (t.target.getD 0) (t.serial.getD 0) (t.seq.getD 0) s
    | .doubt => answerLate kind k tag (t.target.getD 0) (t.serial.getD 0) (t.seq.getD 0) s
    | .empty => changeInCarts kind tag s
    | .reserved => changeInCarts kind tag s
    | .launching => changeInCarts kind tag s
    | .loaded => changeInCarts kind tag s
    | .recirculate => changeInCarts kind tag s
    | .disabled => changeInCarts kind tag s

end Sys2Proof.Machine
end

