-- ==== Sys2Proof/Machine/Induction.lean ====
section
/-! DEFINITION. The Induction Merge Unit: allocation, launch and its outcome, the yield bar, interruptions, and the rows BRDY and LDON (chapter 2). -/

namespace Sys2Proof.Machine

open Sys2Proof

/-! ## Notices and refusals -/

/-- INDUCT_PROTOCOL (R30, R198). -/
def inductNotice (reason : InductReason) (line : Nat) (tray : Option Nat) (tag : Nat) : Notice :=
  { Notice.of (.inductProtocol reason) with tray := tray, tag := tag, detail1 := line }

/-- The line's request is dropped with IREF, reason MODE, and the line becomes FREE (R36, R40, R41). -/
def refuseLine (i t1 t2 : Nat) (s : State) : State :=
  raiseIref i t1 t2 .mode (modifyLine i (fun l => { l with state := .free }) s)

/-- A request that comes back from a reservation: HELD again in SORTING, dropped with IREF in any other mode (R36, R41). -/
def holdAgain (i t1 t2 : Nat) (s : State) : State :=
  if s.mode = .sorting then modifyLine i (fun l => { l with state := .held t1 t2 }) s else refuseLine i t1 t2 s

/-- Releases the reservation of a line: the monitor is disarmed, the tray returns to EMPTY, the request is held again or dropped (R36, R41). -/
def releaseLine (i : Nat) (s : State) : State :=
  match (s.lines[i]?).map Line.state with
  | some (.reserved k t1 t2) =>
    holdAgain i t1 t2
      (changeTray k .reserved (fun _ => Tray.blank .empty) (modifyLine i (fun l => { l with mon := none }) s))
  | _ => s

/-- Releases every reservation, in line number order (R41; the order, DESIGN CHOICE, log 38). -/
def releaseReservations (s : State) : State := (List.range s.lines.length).foldl (fun s i => releaseLine i s) s

/-- Drops the held request of a line (R40). -/
def dropHeldLine (i : Nat) (s : State) : State :=
  match (s.lines[i]?).map Line.state with
  | some (.held t1 t2) => refuseLine i t1 t2 s
  | _ => s

/-- Drops every held request when the mode leaves SORTING, in line number order (R40; the order, DESIGN CHOICE, log 38). -/
def dropHeld (s : State) : State := (List.range s.lines.length).foldl (fun s i => dropHeldLine i s) s

/-! ## The launch monitor (R34 to R36) -/

/-- A line with its launch monitor armed on a tray at speed v (R12, R34). -/
def Line.arm (l : Line) (k v : Nat) : Line :=
  match l.cfg with
  | some c => { l with mon := some { tray := k, lead := leadOf v c.delay }, clamped := countClamp v c.delay l.clamped }
  | none => l

/-- What the evaluation of line i's launch monitor decides; its window is floor(P/2) (R2, R14). -/
def State.launchDecision (s : State) (adv i : Nat) : Decision :=
  match s.tracker.geo, s.lines[i]? with
  | some g, some l =>
    match l.cfg, l.mon with
    | some c, some m => decideMonitor (g.evalApproach s.tracker.disp adv m.tray c.loc) m.lead g.centre
    | _, _ => .stay
  | _, _ => .stay

/-- LNCH joins the timing queue, the tray becomes LAUNCHING and the line LAUNCHED (R35). -/
def sendLaunch (i k t1 t2 : Nat) (s : State) : State :=
  modifyLine i (fun l => { l with state := .launched k t1 t2, mon := none })
    (changeTray k .reserved (fun t => { t with state := .launching }) (queueTimed (s.lineStation i) (.lnch i k) s))

/-- A fire of line i's launch monitor; a full timing queue makes it a miss (R35, R36). -/
def launchFire (i : Nat) (s : State) : State :=
  match (s.lines[i]?).map Line.state with
  | some (.reserved k t1 t2) => if s.timingRoom then sendLaunch i k t1 t2 s else releaseLine i s
  | _ => modifyLine i (fun l => { l with mon := none }) s

/-- Evaluates line i's launch monitor (R14, R35, R36). -/
def evalLaunch (adv i : Nat) (s : State) : State :=
  match s.launchDecision adv i with
  | .stay => s
  | .fire => launchFire i s
  | .miss => releaseLine i s

/-- Evaluates the launch monitors of the lines listed, in that order. -/
def evalLaunches (adv : Nat) (is : List Nat) (s : State) : State := is.foldl (fun s i => evalLaunch adv i s) s

/-- The lead of line i's monitor computed afresh from a new speed sample, and the monitor evaluated (R11, R12). -/
def resampleLaunch (i : Nat) (s : State) : State :=
  evalLaunch 0 i
    (modifyLine i
      (fun l =>
        match l.mon with
        | some m => l.arm m.tray s.tracker.speed
        | none => l) s)

/-! ## Allocation (R32 to R34) -/

/-- Places a tray with its approach distance into a list in increasing order of that distance. -/
def insertNear (x : Nat × Nat) : List (Nat × Nat) → List (Nat × Nat)
  | [] => [x]
  | y :: rest => if x.1 < y.1 then x :: y :: rest else y :: insertNear x rest

/-- The trays in increasing order of their approach distance to a location, each with that distance. -/
def Geometry.byApproach (g : Geometry) (d loc : Nat) : List (Nat × Nat) :=
  (List.range g.trays).foldl (fun acc k => insertNear (g.approach d k loc, k) acc) []

/-- The candidates of a search: approach distance at least the margin, the nearest first, no more than 16 (R33). -/
def Geometry.candidates (g : Geometry) (d loc margin : Nat) : List Nat :=
  (((g.byApproach d loc).filter (fun x => decide (margin ≤ x.1))).take Config.candidatesMax).map Prod.snd

/-- The tray is EMPTY (R33). -/
def State.trayEmpty (s : State) (k : Nat) : Bool := (s.trays[k]?).any (fun t => t.state == .empty)

/-- The tray that a search of line i chooses (R33). -/
def State.searchTray (s : State) (g : Geometry) (l : Line) (c : LineCfg) : Option Nat :=
  (g.candidates s.tracker.disp c.loc (leadOf s.tracker.speed c.delay + g.pitch)).find?
    (fun k => s.trayEmpty k && !l.bar.contains k)

/-- An attempt may be made: TRACKING, no STOP seen, the DOWN port UP (R32). -/
def State.mayAllocate (s : State) : Bool := s.isTracking && !s.stopSeen && s.downUp

/-- Reserves tray k for line i and arms the launch monitor, which is evaluated at once (R34). -/
def reserveTray (i k t1 t2 : Nat) (s : State) : State :=
  evalLaunch 0 i
    (modifyLine i (fun l => { l with state := .reserved k t1 t2 }.arm k s.tracker.speed)
      (changeTray k .empty (fun _ => { Tray.blank .reserved with source := some i }) s))

/-- One attempt of line i to allocate a tray (R32, R33). -/
def attempt (i : Nat) (s : State) : State :=
  if s.mayAllocate then
    match s.tracker.geo, s.lines[i]? with
    | some g, some l =>
      match l.cfg, l.state with
      | some c, .held t1 t2 =>
        match s.searchTray g l c with
        | some k => reserveTray i k t1 t2 s
        | none => s
      | _, _ => s
    | _, _ => s
  else s

/-- A tray passes line i's location: it leaves the yield bar, and an attempt is made (R32, R39). -/
def passLine (i k : Nat) (s : State) : State :=
  attempt i (modifyLine i (fun l => { l with bar := l.bar.filter (fun x => x != k) }) s)

/-! ## The outcome of a launch (R37 to R39) -/

/-- The trays k+1 to k+g, each mod T (R39). -/
def yieldBar (trays gap k : Nat) : List Nat := (List.range gap).map (fun x => (k + 1 + x) % trays)

/-- The line is FREE with its yield bar set from tray k (R37, R39). -/
def freeWithBar (i k gap : Nat) (s : State) : State :=
  modifyLine i (fun l => { l with state := .free, bar := yieldBar s.trays.length gap k }) s

/-- The record of a tray that a launch has loaded (R37, R38): tag 1 is subject to R24. -/
def State.loadedTray (s : State) (k i t1 t2 : Nat) : Tray :=
  { Tray.blank .loaded with tag := s.claimTag k none t1, tag2 := t2, source := some i }

/-- A matching LDON (R37); outcome 1 is OK, 2 is FAILED. -/
def launchDone (i k t1 t2 gap outcome : Nat) (s : State) : State :=
  freeWithBar i k gap
    (if outcome = 1 then putTray k (s.loadedTray k i t1 t2) s else settleTray k (Tray.blank .empty) s)

/-- An LDON that matches no launch is dropped with INDUCT_PROTOCOL (R37). -/
def ldonUnmatched (line tray : Nat) (s : State) : State := notify (inductNotice .ldonUnmatched line (some tray) 0) s

/-- The tray is LAUNCHING with this line as its source line. -/
def State.launchingFrom (s : State) (k i : Nat) : Bool :=
  (s.trays[k]?).any (fun t => t.state == .launching && t.source == some i)

/-- Takes an LDON (R37). -/
def takeLdon (src : Nat) (b : LdonBody) (s : State) : State :=
  match s.lines[b.line]? with
  | none => ldonUnmatched b.line b.tray s
  | some l =>
    match l.cfg, l.state with
    | some c, .launched k t1 t2 =>
      if c.station = src ∧ k = b.tray ∧ s.launchingFrom k b.line = true ∧ (b.outcome = 1 ∨ b.outcome = 2) then
        launchDone b.line k t1 t2 c.gap b.outcome s
      else ldonUnmatched b.line b.tray s
    | _, _ => ldonUnmatched b.line b.tray s

/-- The tags of the launch of tray k at line i; 0 if the line is no longer LAUNCHED with it (R38, log 18). -/
def State.launchTags (s : State) (k : Nat) (i : Option Nat) : Nat × Nat :=
  match (i.bind (fun i => s.lines[i]?)).map Line.state with
  | some (.launched k' t1 t2) => if k' = k then (t1, t2) else (0, 0)
  | _ => (0, 0)

/-- The line of a launch decided at the arch becomes FREE; a line no longer LAUNCHED with this tray is left as it stands (R38). -/
def freeLaunch (k : Nat) (i : Option Nat) (s : State) : State :=
  match i with
  | none => s
  | some i =>
    modifyLine i
      (fun l =>
        match l.state with
        | .launched k' _ _ => if k' = k then { l with state := .free } else l
        | _ => l) s

/-- INDUCT_PROTOCOL LDON_ABSENT with the line and the tray (R38). -/
def absentNotice (k : Nat) (i : Option Nat) : Notice := inductNotice .ldonAbsent (i.getD 0) (some k) 0

/-- Decides a launch at the arch with a bag aboard or not known: the tray is LOADED (R38). -/
def loadAtArch (k : Nat) (i : Option Nat) (s : State) : State :=
  notify (absentNotice k i)
    (freeLaunch k i
      (putTray k
        { Tray.blank .loaded with
          tag := s.claimTag k none (s.launchTags k i).1
          tag2 := (s.launchTags k i).2
          source := i } s))

/-- Decides a launch at the arch as EMPTY (R38). -/
def emptyAtArch (k : Nat) (i : Option Nat) (s : State) : State :=
  notify (absentNotice k i) (freeLaunch k i (settleTray k (Tray.blank .empty) s))

/-! ## BRDY (R30) -/

/-- Takes a BRDY (R30). -/
def takeBrdy (src line t1 t2 : Nat) (s : State) : State :=
  match s.lines[line]? with
  | none => notify (inductNotice .wrongNode line none t1) s
  | some l =>
    match l.cfg with
    | none => notify (inductNotice .wrongNode line none t1) s
    | some c =>
      if c.station ≠ src then notify (inductNotice .wrongNode line none t1) s
      else if s.mode ≠ .sorting then raiseIref line t1 t2 .mode s
      else if c.enable = false then raiseIref line t1 t2 .lineOff s
      else if l.state ≠ .free then notify (inductNotice .brdyBusy line none t1) (raiseIref line t1 t2 .busy s)
      else attempt line (modifyLine line (fun l => { l with state := .held t1 t2 }) s)

/-- A byte of a payload too short, or a free value in its place (log 12). -/
def shortByte (bytes : List Byte) (n free : Nat) : Nat :=
  match bytes[n]? with
  | some b => b.toNat
  | none => free % 256

/-- Tag 1 of a BRDY too short for its layout: bytes 1 to 4, or a free value where the payload ends before them (R30, log 12). -/
def shortTag (bytes : List Byte) (free : Nat) : Nat :=
  match rd32 (bytes.drop 1) with
  | some (tag, _) => normTag tag
  | none => free % (Config.tagMax + 1)

/-- A BRDY too short for its layout names no valid line: WRONG_NODE; the fields it does not hold are free values (R30, R179, log 12). -/
def shortBrdy (bytes : List Byte) (s : State) : State :=
  notify
    (inductNotice .wrongNode (shortByte bytes 0 (drawFree s).1) none (shortTag bytes (drawFree (drawFree s).2).1))
    (drawFree (drawFree s).2).2

/-- An LDON too short for its layout matches no launch: LDON_UNMATCHED; the fields it does not hold are free values (R179, log 12). -/
def shortLdon (bytes : List Byte) (s : State) : State :=
  ldonUnmatched (shortByte bytes 0 (drawFree s).1)
    (match bytes with
     | _ :: h :: l :: _ => h.toNat * 256 + l.toNat
     | _ => (drawFree (drawFree s).2).1 % 65536) (drawFree (drawFree s).2).2

/-- BRDY handed to its owner (R30). -/
def brdyOp (src : Nat) (body : Body BrdyBody) (s : State) : State :=
  match body with
  | .full b => takeBrdy src b.line (normTag b.tag1) (normTag b.tag2) s
  | .short bytes => shortBrdy bytes s

/-- LDON handed to its owner (R37). -/
def ldonOp (src : Nat) (body : Body LdonBody) (s : State) : State :=
  match body with
  | .full b => takeLdon src b s
  | .short bytes => shortLdon bytes s

/-- BRDY (R30). -/
def execBrdy (src : Nat) (body : Body BrdyBody) (s : State) : Host.Outcome State Fault Refusal := done (brdyOp src body s)

/-- LDON (R37). -/
def execLdon (src : Nat) (body : Body LdonBody) (s : State) : Host.Outcome State Fault Refusal := done (ldonOp src body s)

/-! ## Line reset (R42) -/

/-- IREF for a line that is HELD or RESERVED at a line reset (R42). -/
def resetIref (i : Nat) (s : State) : State :=
  match (s.lines[i]?).map Line.state with
  | some (.held t1 t2) => raiseIref i t1 t2 .mode s
  | some (.reserved _ t1 t2) => raiseIref i t1 t2 .mode s
  | _ => s

/-- A line after a line reset: configuration and tally kept (R42). -/
def Line.reset (l : Line) : Line := { l with state := .free, bar := [], mon := none }

/-- Applies a line reset to the Induction Merge Unit; the IREF frames are raised in line number order (R42; the order, DESIGN CHOICE, log 38). -/
def resetLines (s : State) : State :=
  let s1 := (List.range s.lines.length).foldl (fun s i => resetIref i s) s
  { s1 with lines := s1.lines.map Line.reset }

end Sys2Proof.Machine
end

