-- ==== Sys2Proof/Machine/ArchPass.lean ====
section
/-! DEFINITION. The Scan Reconciler: the tag set, the verdict, the verification pass, the scan monitor and the row TSCN (chapter 3). -/

namespace Sys2Proof.Machine

open Sys2Proof

/-- Occupancies of a pass (section 3.3). -/
inductive Occupancy where
  | occupied
  | empty
  | unknown
  deriving DecidableEq, Repr

/-! ## The tag set (R55) -/

/-- One tag of the set, with whether the scan read it. -/
structure SetTag where
  tag : Nat
  scanned : Bool
  deriving DecidableEq, Repr

/-- Adds a source to the tag set (R55). -/
def addTag (set : List SetTag) (tag : Nat) (scanned : Bool) : List SetTag :=
  if tag = 0 then set
  else if set.any (fun x => x.tag == tag) then
    set.map (fun x => if x.tag = tag then { x with scanned := x.scanned || scanned } else x)
  else set ++ [{ tag := tag, scanned := scanned }]

/-- The tag set from the induction or stored tags and the scan tags, in the order of R55. -/
def tagSet (t1 t2 s1 s2 : Nat) : List SetTag := addTag (addTag (addTag (addTag [] t1 false) t2 false) s1 true) s2 true

/-! ## The verdict (R56 to R59) -/

/-- A verdict with what the tag field and the second tag field are to hold. -/
structure Reading where
  verdict : Verdict
  tag : Nat
  tag2 : Nat
  deriving DecidableEq, Repr

/-- A stray verdict with its tags. -/
def Reading.ofStray (reason : StrayReason) (tag tag2 : Nat) : Reading := { verdict := .stray reason, tag := tag, tag2 := tag2 }

/-- An identified verdict by an entry (R57, R58). -/
def Reading.ofEntry (tag : Nat) (e : Entry) : Reading :=
  { verdict := .identified tag e.cabin e.group e.priority e.oversize, tag := tag, tag2 := 0 }

/-- The verdict of one tag by its lookup (R57). -/
def readOne (tag : Nat) : Lookup → Reading
  | .found e => .ofEntry tag e
  | .notOnManifest => .ofStray .notOnManifest tag 0
  | .cabinUnassigned _ => .ofStray .cabinUnassigned tag 0
  | .screeningHold _ => .ofStray .screeningHold tag 0

/-- The verdict of two tags that are one bag (R58). -/
def readBag (a b : SetTag) (ea eb : Entry) : Reading :=
  if ea.hold then .ofStray .screeningHold a.tag 0
  else if eb.hold then .ofStray .screeningHold b.tag 0
  else if a.scanned || !b.scanned then .ofEntry a.tag ea
  else .ofEntry b.tag eb

/-- The verdict of two tags by their lookups (R58). -/
def readTwo (a b : SetTag) (la lb : Lookup) : Reading :=
  match la.entry, lb.entry with
  | some ea, some eb => if ea.cabin = eb.cabin ∧ ea.cabin ≠ 0 then readBag a b ea eb else .ofStray .tagConflict a.tag b.tag
  | _, _ => .ofStray .tagConflict a.tag b.tag

/-- Identification (R57, R58). -/
def identify (m : Manifest) : List SetTag → Reading
  | [] => .ofStray .noRead 0 0
  | [a] => readOne a.tag (m.lookupResult a.tag)
  | [a, b] => readTwo a b (m.lookupResult a.tag) (m.lookupResult b.tag)
  | a :: b :: _ => .ofStray .tagConflict a.tag b.tag

/-- The lap is greater than the lap limit (R56). -/
def State.overLimit (s : State) (lap : Nat) : Bool := s.arch.lapLimit.any (fun l => l < lap)

/-- The verdict before the check of R59 (R56 to R58). -/
def State.reading (s : State) (lap : Nat) (set : List SetTag) : Reading :=
  if s.overLimit lap then .ofStray .lapLimit ((set.head?.map SetTag.tag).getD 0) 0 else identify s.manifest set

/-- The lookup tallies after the lookups of a verdict: one for one tag, two for two (R56 to R58). -/
def countLookups (lap : Nat) (set : List SetTag) (s : State) : State :=
  if s.overLimit lap then s
  else
    match set with
    | [a] => countLookup a.tag s
    | [a, b] => countLookup b.tag (countLookup a.tag s)
    | _ => s

/-- The check of R59: a doubled tag is not written. -/
def State.checkDoubled (s : State) (k : Nat) (r : Reading) : Reading :=
  if s.tagDoubled k none r.tag then
    match r.verdict with
    | .identified .. => .ofStray .tagConflict 0 r.tag
    | .stray reason => .ofStray reason 0 r.tag2
  else r

/-! ## The pass (R50 to R54, R60) -/

/-- Replaces what the Scan Reconciler holds. -/
def withArch (a : Arch) (s : State) : State := { s with arch := a }

/-- The cabin of a verdict: the entry's for an identified verdict, 0 for a stray (R57, R58). -/
def Verdict.cabin : Verdict → Nat
  | .identified _ cabin _ _ _ => cabin
  | .stray _ => 0

/-- The stray reason of a verdict (R60). -/
def Verdict.reason : Verdict → Option StrayReason
  | .identified .. => none
  | .stray r => some r

/-- The record of a RECIRCULATE tray after its pass (R22, R60). -/
def passedTray (r : Reading) (lap : Nat) (source : Option Nat) (cabin : Nat) (zone : Option Nat)
    (reason : Option StrayReason) : Tray :=
  { Tray.blank .recirculate with
    tag := r.tag, tag2 := r.tag2, cabin := cabin, zone := zone, lap := lap, source := source, reason := reason }

/-- A passed tray ROUTED to a chute with an order sequence (R101 step 4). -/
def Tray.route (j seq : Nat) (t : Tray) : Tray := { t with state := .routed, target := some j, seq := some seq }

/-- Passes are routed: the mode SHADOW, SORTING or DRAINING, TRACKING, and the DOWN port UP (R60). -/
def State.routes (s : State) : Bool :=
  (s.mode == .shadow || s.mode == .sorting || s.mode == .draining) && s.isTracking && s.downUp

/-- The Stray List is told of a deck route; a stray route tells it nothing (R92, R153, log 22). -/
def tellDeck (k tag j : Nat) (kind : RouteKind) (s : State) : State :=
  match kind with
  | .deck => reinduct k tag j s
  | .stray => s

/-- The stray reason of an order: none for DECK (R99). -/
def RouteKind.orderReason (kind : RouteKind) (reason : Option StrayReason) : Option StrayReason :=
  match kind with
  | .deck => none
  | .stray => reason

/-- Applies a route result to tray k whose record after the pass is t (R60, R92, R101). -/
def applyRoute (k : Nat) (t : Tray) (route : Route) (s : State) : State :=
  match route with
  | .recirculate => putTray k t s
  | .chute j kind =>
    queueOrder j k kind (kind.orderReason t.reason) t.tag (fun seq s => putTray k (t.route j seq) s)
      (tellDeck k t.tag j kind s)

/-- The record of a tray whose verdict has been resolved (R60, R92). -/
def routedTray (r : Reading) (lap : Nat) (source : Option Nat) (x : Resolved) : Tray :=
  passedTray r lap source x.cabin x.zone x.reason

/-- Stage 5: the verdict is routed, or the tray recirculates with the verdict's fields (R60). -/
def handOn (k lap : Nat) (source : Option Nat) (r : Reading) (s : State) : State :=
  if s.routes then
    applyRoute k (routedTray r lap source (resolveRoute k r.tag r.verdict s).2) (resolveRoute k r.tag r.verdict s).2.route
      (resolveRoute k r.tag r.verdict s).1
  else putTray k (passedTray r lap source r.verdict.cabin none r.verdict.reason) s

/-- Stages 3 to 5 for a bag aboard (R55 to R60). -/
def passBag (k lap : Nat) (source : Option Nat) (set : List SetTag) (s : State) : State :=
  handOn k lap source (s.checkDoubled k (s.reading lap set)) (countLookups lap set s)

/-- A lap raised by 1, to at most 15 (R21). -/
def raiseLap (lap : Nat) : Nat := min 15 (lap + 1)

/-- FOUND_BAG (R51) and LOST_BAG (R52, R53). -/
def foundNotice (k tag : Nat) : Notice := { Notice.of .foundBag with tray := some k, tag := tag }
def lostInduction (k : Nat) (t : Tray) : Notice :=
  { Notice.of (.lostBag false) with tray := some k, tag := t.tag, detail1 := (t.source.getD 0 : Nat) }
def lostLoop (k : Nat) (t : Tray) : Notice := { Notice.of (.lostBag true) with tray := some k, tag := t.tag }

/-- An EMPTY tray (R51). -/
def passEmpty (k : Nat) (occ : Occupancy) (s1 s2 : Nat) (s : State) : State :=
  match occ with
  | .occupied => passBag k 1 none (tagSet 0 0 s1 s2) (notify (foundNotice k s1) s)
  | .empty => s
  | .unknown => s

/-- A LOADED tray (R52). -/
def passLoaded (k : Nat) (t : Tray) (occ : Occupancy) (s1 s2 : Nat) (s : State) : State :=
  match occ with
  | .occupied => passBag k 1 t.source (tagSet t.tag t.tag2 s1 s2) s
  | .unknown => passBag k 1 t.source (tagSet t.tag t.tag2 0 0) s
  | .empty => notify (lostInduction k t) (settleTray k (Tray.blank .empty) s)

/-- A RECIRCULATE tray (R53). -/
def passRecirculate (k : Nat) (t : Tray) (occ : Occupancy) (s1 s2 : Nat) (s : State) : State :=
  match occ with
  | .occupied => passBag k (raiseLap t.lap) t.source (tagSet t.tag t.tag2 s1 s2) s
  | .unknown => passBag k (raiseLap t.lap) t.source (tagSet t.tag t.tag2 0 0) s
  | .empty => notify (lostLoop k t) (settleTray k (Tray.blank .empty) s)

/-- A DOUBT tray (R54); the tray goes on as RECIRCULATE when its bag is still aboard. -/
def passDoubt (k : Nat) (t : Tray) (occ : Occupancy) (s1 s2 : Nat) (s : State) : State :=
  match occ with
  | .occupied =>
    passBag k (raiseLap t.lap) t.source (tagSet t.tag t.tag2 s1 s2)
      (undoDrop (t.target.getD 0) (t.serial.getD 0) k (t.seq.getD 0) t.tag s)
  | .empty =>
    settleTray k (Tray.blank .empty) (presumeDrop (t.target.getD 0) (t.serial.getD 0) k (t.seq.getD 0) s)
  | .unknown => s

/-- A LAUNCHING tray: the launch is decided first, and a tray decided LOADED goes on as LOADED (R38, R50). -/
def passLaunching (k : Nat) (t : Tray) (occ : Occupancy) (s1 s2 : Nat) (s : State) : State :=
  match occ with
  | .empty => emptyAtArch k t.source s
  | .occupied => passLoaded k ((loadAtArch k t.source s).trays.getD k (Tray.blank .loaded)) occ s1 s2 (loadAtArch k t.source s)
  | .unknown => passLoaded k ((loadAtArch k t.source s).trays.getD k (Tray.blank .loaded)) occ s1 s2 (loadAtArch k t.source s)

/-- A pass that makes no change to its tray (R50). -/
def passSkipped (s : State) : State :=
  withArch { s.arch with skipped := satInc Config.tallyMax s.arch.skipped } s

/-- The verification pass of tray k with an occupancy and two scan tags (R50). -/
def passTray (k : Nat) (occ : Occupancy) (s1 s2 : Nat) (s : State) : State :=
  match s.trays[k]? with
  | none => s
  | some t =>
    match t.state with
    | .empty => passEmpty k occ s1 s2 s
    | .launching => passLaunching k t occ s1 s2 s
    | .loaded => passLoaded k t occ s1 s2 s
    | .recirculate => passRecirculate k t occ s1 s2 s
    | .doubt => passDoubt k t occ s1 s2 s
    | .reserved => passSkipped s
    | .routed => passSkipped s
    | .dropping => passSkipped s
    | .disabled => passSkipped s

/-! ## The scan monitor (R44 to R46) -/

/-- The scan monitor armed on a tray: its lead is computed, and counted when clamped (R12, R44). -/
def armScan (k : Nat) (s : State) : State :=
  match s.tracker.geo with
  | some g =>
    { s with
      arch := { s.arch with mon := some { tray := k, lead := leadOf s.tracker.speed g.archDelay } }
      tracker :=
        { s.tracker with archClamped := countClamp s.tracker.speed g.archDelay s.tracker.archClamped } }
  | none => s

/-- The scan monitor disarmed. -/
def disarmScan (s : State) : State := withArch { s.arch with mon := none } s

/-- The tray is DISABLED. -/
def State.trayDisabled (s : State) (k : Nat) : Bool := (s.trays[k]?).any (fun t => t.state == .disabled)

/-- The following tray: the first after k in number order that is not DISABLED; k itself if every other tray is DISABLED (R45). -/
def State.followingTray (s : State) (k : Nat) : Option Nat :=
  ((List.range s.trays.length).map (fun x => (k + 1 + x) % s.trays.length)).find? (fun x => !s.trayDisabled x)

/-- What the evaluation of the scan monitor decides; its window is floor(P/2) (R2, R14). -/
def State.scanDecision (s : State) (adv : Nat) : Decision :=
  match s.tracker.geo, s.arch.mon with
  | some g, some m => decideMonitor (g.evalApproach s.tracker.disp adv m.tray g.archLoc) m.lead g.centre
  | _, _ => .stay

/-- A pass with occupancy UNKNOWN and no scan tags, counted in SCAN_MISSED (R45, R46). -/
def missScan (k : Nat) (s : State) : State :=
  passTray k .unknown 0 0 (withArch { s.arch with missed := satInc Config.tallyMax s.arch.missed } s)

/-- Step 1 of R45: an earlier outstanding scan is passed as UNKNOWN, counted in SCAN_REPLACED. -/
def replaceScan (s : State) : State :=
  match s.arch.outstanding with
  | none => s
  | some k =>
    passTray k .unknown 0 0
      (withArch { s.arch with outstanding := none, replaced := satInc Config.tallyMax s.arch.replaced } s)

/-- Step 2 of R45: tray k becomes the outstanding scan. -/
def markScan (k : Nat) (s : State) : State :=
  withArch { s.arch with outstanding := some k, sent := satInc Config.tallyMax s.arch.sent } s

/-- The arch station. -/
def State.archStation (s : State) : Nat := (s.tracker.geo.map Geometry.archStation).getD 0

/-- A fire of the scan monitor on tray k: SCAN and steps 1 and 2, or a pass as UNKNOWN when the timing queue is full (R45). -/
def fireScan (k : Nat) (s : State) : State :=
  if s.timingRoom then markScan k (replaceScan (queueTimed s.archStation (.scan k) s)) else missScan k s

/-- Step 3 of R45: the monitor arms on the following tray, unless that is the tray on which the run began (R46). -/
def armFollowing (start k : Nat) (s : State) : State :=
  match s.followingTray k with
  | some n => if n = start then disarmScan s else armScan n s
  | none => disarmScan s

/-- A run of decisions of the scan monitor that began on tray `start`: it ends at the first arming that stays armed, or before a second decision of `start` (R45, R46, log 7). An arming within the run is evaluated as it happens, with no movement since (R14, log 25). -/
def runScan : Nat → Nat → Nat → State → State
  | 0, _, _, s => s
  | fuel + 1, adv, start, s =>
    match s.arch.mon with
    | none => s
    | some m =>
      match s.scanDecision adv with
      | .stay => s
      | .fire => runScan fuel 0 start (armFollowing start m.tray (fireScan m.tray s))
      | .miss => runScan fuel 0 start (armFollowing start m.tray (missScan m.tray s))

/-- Evaluates the scan monitor; a run makes at most one decision per tray (R14, R46). -/
def evalScan (adv : Nat) (s : State) : State :=
  match s.arch.mon with
  | none => s
  | some m => runScan s.trays.length adv m.tray s

/-- The trays that a fresh arming may choose, nearest first: approach distance at least the lead, not DISABLED (R44). -/
def State.freshTray (s : State) (g : Geometry) : Option Nat :=
  (((g.byApproach s.tracker.disp g.archLoc).filter
      (fun x => decide (leadOf s.tracker.speed g.archDelay ≤ x.1) && !s.trayDisabled x.2)).head?).map Prod.snd

/-- Arms the scan monitor afresh, provided TRACKING, the DOWN port UP and the monitor disarmed (R44). -/
def freshArm (s : State) : State :=
  if s.isTracking && s.downUp && s.arch.mon.isNone then
    match s.tracker.geo with
    | some g =>
      match s.freshTray g with
      | some k => evalScan 0 (armScan k s)
      | none => s
    | none => s
  else s

/-- The scan monitor at a new speed sample: the lead computed afresh and evaluated if armed, armed afresh if not (R11, R12, R44). -/
def resampleScan (s : State) : State :=
  match s.arch.mon with
  | some m => evalScan 0 (armScan m.tray s)
  | none => freshArm s

/-- TCMD DISABLE of the tray that the scan monitor watches moves it to the next tray that is not DISABLED, where it is evaluated at once; with every tray DISABLED it is disarmed (R44). -/
def moveScan (k : Nat) (s : State) : State :=
  if s.arch.mon.any (fun m => m.tray == k) then
    match s.followingTray k with
    | some n => evalScan 0 (armScan n s)
    | none => disarmScan s
  else s

/-! ## TSCN (R48) -/

/-- TSCN dropped: SCAN_REJECTED rises. -/
def rejectScan (s : State) : State :=
  withArch { s.arch with rejected := satInc Config.tallyMax s.arch.rejected } s

/-- TSCN dropped as stale: SCAN_STALE rises. -/
def staleScan (s : State) : State := withArch { s.arch with stale := satInc Config.tallyMax s.arch.stale } s

/-- Takes a TSCN (R48); occupancy 1 is OCCUPIED, 2 is EMPTY. -/
def takeTscn (src : Nat) (b : TscnBody) (s : State) : State :=
  match s.tracker.geo with
  | none => rejectScan s
  | some g =>
    if src ≠ g.archStation ∨ s.trays.length ≤ b.tray ∨ (b.occupancy ≠ 1 ∧ b.occupancy ≠ 2) then rejectScan s
    else if s.arch.outstanding ≠ some b.tray then staleScan s
    else
      passTray b.tray (if b.occupancy = 1 then .occupied else .empty) (normTag b.tag1) (normTag b.tag2)
        (withArch { s.arch with outstanding := none } s)

/-- TSCN handed to its owner (R48); a payload too short names no valid tray (R179). -/
def tscnOp (src : Nat) (body : Body TscnBody) (s : State) : State :=
  match body with
  | .full b => takeTscn src b s
  | .short _ => rejectScan s

/-- TSCN (R48). -/
def execTscn (src : Nat) (body : Body TscnBody) (s : State) : Host.Outcome State Fault Refusal := done (tscnOp src body s)

end Sys2Proof.Machine
end

