-- ==== Sys2Proof/Machine/ChuteFrames.lean ====
section
/-! DEFINITION. The rows CEYE, COUT, CIN, CFLT and CCLR, and the effects on a chute that they share with CCMD and with session close (sections 7.5 to 7.9). -/

namespace Sys2Proof.Machine

open Sys2Proof

/-! ## The check of R127 -/

/-- A frame from a chute node dropped: CHUTE_REJECTED rises (R127). -/
def rejectChute (s : State) : State :=
  { s with carts := { s.carts with rejected := satInc Config.tallyMax s.carts.rejected } }

/-- The chute that a frame names, if the frame passes the checks of R127. -/
def State.frameChute (s : State) (src : Nat) (body : Body Nat) : Option (Nat × Chute) :=
  match body with
  | .full j =>
    match s.chute? j with
    | some c => if c.cfg.station = src then some (j, c) else none
    | none => none
  | .short _ => none

/-- Hands a chute frame to its entry, or drops it (R127); a payload too short names no valid chute (R179). -/
def chuteFrame (src : Nat) (body : Body Nat) (entry : Nat → Chute → State → State) (s : State) : State :=
  match s.frameChute src body with
  | some (j, c) => entry j c s
  | none => rejectChute s

/-! ## CEYE (R130) -/

/-- UNEXPECTED_DROP's notice: the cart serial, or none in a chute without a current cart (R130); a FAULTED chute whose prior state is CLOSED or SWAP counts as such (DEDUCED, log 34). -/
def Chute.unexpectedNotice (c : Chute) (j : Nat) : Notice :=
  { Notice.of .unexpectedDrop with chute := some j, serial := if c.hasCart then c.serial else none }

/-- The entry of a confirmation becomes CONFIRMED if its cart is still current (R130). -/
def Chute.confirm (a : Confirmation) (c : Chute) : Chute :=
  if c.isCurrent a.serial then
    { c with cart := c.cart.map (fun e => if e.names a.tray a.seq then { e with status := .confirmed } else e) }
  else c

/-- Confirms the oldest drop of a chute, or counts an unexpected one (R130). -/
def eyeSaw (j : Nat) (c : Chute) (s : State) : State :=
  match c.awaiting with
  | [] =>
    notify (c.unexpectedNotice j)
      (modifyChute j (fun c => { c with unexpected := satInc Config.tallyMax c.unexpected }) s)
  | a :: rest =>
    changeTray a.tray .dropping (fun _ => Tray.blank .empty)
      (modifyChute j (fun c => { c with awaiting := rest }.confirm a) s)

/-! ## Swaps and closes (R135, R136, R140, R141) -/

/-- A chute in use begins a swap: SWAP, cart present cleared, its queue cancelled and its cart closed (R113, R135). -/
def beginSwap (j : Nat) (s : State) : State :=
  closeCart j (cancelQueue j (modifyChute j (fun c => { c with state := .swap, present := false }) s))

/-- A FAULTED chute whose prior state is OPEN or FULL begins a swap and stays FAULTED (R135). -/
def beginPriorSwap (j : Nat) (s : State) : State :=
  closeCart j (modifyChute j (fun c => { c with prior := some .swap, present := false }) s)

/-- Cart present is cleared. -/
def clearPresent (j : Nat) (s : State) : State := modifyChute j (fun c => { c with present := false }) s

/-- Cart present is set. -/
def setPresent (j : Nat) (s : State) : State := modifyChute j (fun c => { c with present := true }) s

/-- The effect of COUT (R135). -/
def cartOut (j : Nat) (c : Chute) (s : State) : State :=
  match c.state with
  | .opened => beginSwap j s
  | .full => beginSwap j s
  | .swap => clearPresent j s
  | .closed => s
  | .faulted =>
    match c.prior with
    | some .opened => beginPriorSwap j s
    | some .full => beginPriorSwap j s
    | some .swap => clearPresent j s
    | some .closed => s
    | some .faulted => s
    | none => s

/-- The effect of CIN (R136). -/
def cartIn (j : Nat) (c : Chute) (s : State) : State :=
  match c.state with
  | .swap => swapTest j (setPresent j s)
  | .faulted => if c.prior = some .swap then setPresent j s else s
  | .closed => s
  | .opened => s
  | .full => s

/-! ## Faults (R137, R138) -/

/-- The STOP latch is set when stop_on_fault is set (R137). -/
def stopOnFault (j : Nat) (c : Chute) (s : State) : State := if c.cfg.stopOnFault then setLatch (.chuteFault j) s else s

/-- The effect of CFLT (R137). -/
def faultChute (j : Nat) (c : Chute) (s : State) : State :=
  if c.state = .faulted then stopOnFault j c s
  else
    stopOnFault j c
      (cancelQueue j (modifyChute j (fun c => { c with state := .faulted, prior := some c.state }) s))

/-- A chute takes its prior state back, and the FULL test of an OPEN or FULL one follows (R138). -/
def Chute.restore (c : Chute) : Chute := { c with state := c.prior.getD .closed, prior := none }.fullTest

/-- The effect of CCLR (R138). -/
def clearFault (j : Nat) (c : Chute) (s : State) : State :=
  if c.state = .faulted then swapTest j (modifyChute j Chute.restore s) else s

/-! ## CLOSE and session close (R140, R143) -/

/-- The current cart is closed if its count is above 0 and discarded otherwise (R140). -/
def closeOrDiscard (j : Nat) (c : Chute) (s : State) : State := if c.cart = [] then s else closeCart j s

/-- A chute in use is CLOSED by CCMD CLOSE (R140). -/
def closeInUse (j : Nat) (c : Chute) (s : State) : State :=
  closeOrDiscard j c (cancelQueue j (modifyChute j (fun c => { c with state := .closed, present := false }) s))

/-- The effect of CCMD CLOSE (R140). -/
def closeChute (j : Nat) (c : Chute) (s : State) : State :=
  match c.state with
  | .opened => closeInUse j c s
  | .full => closeInUse j c s
  | .swap => modifyChute j (fun c => { c with state := .closed, present := false }) s
  | .closed => s
  | .faulted =>
    match c.prior with
    | some .opened => closeOrDiscard j c (modifyChute j (fun c => { c with prior := some .closed }) s)
    | some .full => closeOrDiscard j c (modifyChute j (fun c => { c with prior := some .closed }) s)
    | some .swap => modifyChute j (fun c => { c with prior := some .closed, present := false }) s
    | some .closed => s
    | some .faulted => s
    | none => s

/-- A FAULTED chute at session close: its current cart, if any, is closed or discarded, and the fault is cleared to CLOSED (R143). -/
def closeFaulted (j : Nat) (c : Chute) (s : State) : State :=
  modifyChute j (fun c => { c with state := .closed, prior := none }) (if c.priorInUse then closeOrDiscard j c s else s)

/-- A chute at session close (R143). -/
def closeAtEnd (j : Nat) (s : State) : State :=
  match s.chute? j with
  | none => s
  | some c => if c.state = .faulted then closeFaulted j c s else closeChute j c s

/-- Every chute at session close, in chute number order (R143). -/
def closeAllChutes (s : State) : State := (List.range s.carts.chutes.length).foldl (fun s j => closeAtEnd j s) s

/-! ## The rows -/

/-- CEYE handed to its owner. -/
def ceyeOp (src : Nat) (body : Body Nat) (s : State) : State := chuteFrame src body eyeSaw s
/-- COUT handed to its owner. -/
def coutOp (src : Nat) (body : Body Nat) (s : State) : State := chuteFrame src body cartOut s
/-- CIN handed to its owner. -/
def cinOp (src : Nat) (body : Body Nat) (s : State) : State := chuteFrame src body cartIn s
/-- CFLT handed to its owner. -/
def cfltOp (src : Nat) (body : Body Nat) (s : State) : State := chuteFrame src body faultChute s
/-- CCLR handed to its owner. -/
def cclrOp (src : Nat) (body : Body Nat) (s : State) : State := chuteFrame src body clearFault s

/-- CEYE (R130). -/
def execCeye (src : Nat) (chute : Body Nat) (s : State) : Host.Outcome State Fault Refusal := done (ceyeOp src chute s)
/-- COUT (R135). -/
def execCout (src : Nat) (chute : Body Nat) (s : State) : Host.Outcome State Fault Refusal := done (coutOp src chute s)
/-- CIN (R136). -/
def execCin (src : Nat) (chute : Body Nat) (s : State) : Host.Outcome State Fault Refusal := done (cinOp src chute s)
/-- CFLT (R137). -/
def execCflt (src : Nat) (chute : Body Nat) (s : State) : Host.Outcome State Fault Refusal := done (cfltOp src chute s)
/-- CCLR (R138). -/
def execCclr (src : Nat) (chute : Body Nat) (s : State) : Host.Outcome State Fault Refusal := done (cclrOp src chute s)

end Sys2Proof.Machine
end

