-- ==== Sys2Proof/Machine/Tracker.lean ====
section
/-! DEFINITION. The Chain Tracker: steps, encoder faults, home pulses, entry to LOST, speed samples, and the rows ENCODER_STEP, BOTH_PHASES_CHANGE_TOGETHER, HOME_PULSE, SPEED_SAMPLE, STOP_LEVEL_CHANGE and POWER_ON_RESET (chapter 1). -/

namespace Sys2Proof.Machine

open Sys2Proof

/-- Replaces what the Chain Tracker holds. -/
def withTracker (t : Tracker) (s : State) : State := { s with tracker := t }

/-! ## Passings (R13) and the evaluation of every monitor (R14) -/

/-- The passings of one line's location by a movement of `adv` steps forward, the tray with the larger approach distance before it first (R13). -/
def Geometry.passings (g : Geometry) (d adv loc : Nat) : List Nat :=
  (((g.byApproach ((d + g.loop - adv % g.loop) % g.loop) loc).filter
      (fun x => decide (1 ≤ x.1) && decide (x.1 ≤ adv))).map Prod.snd).reverse

/-- Announces the passings of line i (R13, R32). -/
def announceLine (adv i : Nat) (s : State) : State :=
  match s.tracker.geo, (s.lines[i]?).bind Line.cfg with
  | some g, some c => (g.passings s.tracker.disp adv c.loc).foldl (fun s k => passLine i k s) s
  | _, _ => s

/-- Announces the passings of every line, in line number order (log 6). -/
def announce (adv : Nat) (s : State) : State :=
  (List.range s.lines.length).foldl (fun s i => announceLine adv i s) s

/-- The lines whose launch monitors are armed. -/
def State.armedLines (s : State) : List Nat :=
  (List.range s.lines.length).filter (fun i => (s.lines[i]?).any (fun l => l.mon.isSome))

/-- The chutes whose monitors are armed. -/
def State.armedChutes (s : State) : List Nat :=
  (List.range s.carts.chutes.length).filter (fun j => (s.carts.chutes[j]?).any (fun c => c.mon.isSome))

/-- The scan monitor evaluated, if it was armed before the event. -/
def evalScanIf (armed : Bool) (adv : Nat) (s : State) : State := if armed then evalScan adv s else s

/-- Evaluates the monitors that were armed before the event: lines, arch, chutes, in number order (R14, log 6). A monitor armed within the event was evaluated at its arming. -/
def evalAll (adv : Nat) (before : State) (s : State) : State :=
  evalHeads adv before.armedChutes
    (evalScanIf before.arch.mon.isSome adv (evalLaunches adv before.armedLines s))

/-- The effects of a movement of `adv` steps forward: passings, then evaluations (R3, R6). -/
def movedForward (adv : Nat) (s : State) : State := evalAll adv s (announce adv s)

/-! ## Steps (R3, R4) -/

/-- The place of a phase pair in the forward order of section 1.2, counted from 0. -/
def phasePlace (a b : Bool) : Nat :=
  match a, b with
  | false, false => 0
  | true, false => 1
  | true, true => 2
  | false, true => 3

/-- The pins after one phase has changed. -/
def Pins.toggle (p : Pins) : EncPhase → Pins
  | .a => { p with encA := !p.encA }
  | .b => { p with encB := !p.encB }

/-- The change moves the pair one place along the forward order. -/
def Pins.forward (p : Pins) (ph : EncPhase) : Bool :=
  phasePlace (p.toggle ph).encA (p.toggle ph).encB == (phasePlace p.encA p.encB + 1) % 4

/-- D after one step: 0 stays in UNCONFIGURED (R3). -/
def Tracker.stepDisp (t : Tracker) (fwd : Bool) : Nat :=
  match t.state, t.geo with
  | .unconfigured, _ => t.disp
  | _, none => t.disp
  | _, some g => if fwd then (t.disp + 1) % g.loop else (t.disp + g.loop - 1) % g.loop

/-- Counts one step: the net count and D (R3). -/
def Tracker.count (t : Tracker) (fwd : Bool) : Tracker :=
  { t with net := if fwd then t.net + 1 else t.net - 1, disp := t.stepDisp fwd }

/-- Replaces the levels of the lines that others drive. -/
def withPins (p : Pins) (s : State) : State := { s with pins := p }

/-- A forward or a reverse step; a reverse step leaves every monitor armed (R3, R15). -/
def countStep (fwd : Bool) (s : State) : State :=
  if s.isTracking && fwd then movedForward 1 (withTracker (s.tracker.count fwd) s)
  else withTracker (s.tracker.count fwd) s

/-- One change of one phase (R3). -/
def encoderStep (ph : EncPhase) (s : State) : State :=
  countStep (s.pins.forward ph) (withPins (s.pins.toggle ph) s)

/-! ## Entry to LOST (R8) -/

/-- Disarms every approach monitor (R8 step 1, R9, R183 step 1). -/
def disarmAll (s : State) : State :=
  { s with
    lines := s.lines.map (fun l => { l with mon := none })
    arch := { s.arch with mon := none }
    carts := { s.carts with chutes := s.carts.chutes.map (fun c => { c with mon := none }) } }

/-- The notice of entry to LOST (R7). -/
def lostNotice : StopCause → Notice
  | .drift e => { Notice.of (.trackLost (.drift e)) with detail1 := e }
  | c => Notice.of (.trackLost c)

/-- Entry to LOST with its cause, in the order of R8. -/
def enterLost (cause : StopCause) (s : State) : State :=
  setLatch cause
    (notify (lostNotice cause)
      (releaseReservations
        (withdrawDrops (cancelAll (disarmAll (withTracker { s.tracker with state := .lost } s))))))

/-- An encoder fault by tracking state (R4). -/
def encoderFault (s : State) : State :=
  match s.tracker.state with
  | .unconfigured => s
  | .tracking => enterLost .encoder s
  | .unsynced => setLatch .encoder s
  | .lost => setLatch .encoder s

/-- Both phases have changed together: counting goes on from the new pair (R4). -/
def bothChange (s : State) : State :=
  encoderFault (withPins { s.pins with encA := !s.pins.encA, encB := !s.pins.encB } s)

/-! ## Home pulses (R5, R6) -/

/-- The signed error e (R6). -/
def Geometry.error (g : Geometry) (d : Nat) : Int := if d ≤ g.loop / 2 then (d : Int) else (d : Int) - g.loop

/-- Entry to TRACKING at a HOME pulse: D becomes 0, TRACK_SYNC is queued and the scan monitor is armed afresh (R5, R44). -/
def resync (left : TrackState) (s : State) : State :=
  freshArm (notify (Notice.of (.trackSync left)) (withTracker { s.tracker with disp := 0, state := .tracking } s))

/-- A home correction: D becomes 0, e is stored, and the chain is taken as moved by −e steps (R6). -/
def correctHome (e : Int) (s : State) : State :=
  movedForward (-e).toNat (withTracker { s.tracker with disp := 0, homeCorrection := e } s)

/-- A HOME pulse in TRACKING: the drift check (R6). -/
def driftCheck (g : Geometry) (s : State) : State :=
  if (g.error s.tracker.disp).natAbs ≤ g.driftTol then correctHome (g.error s.tracker.disp) s
  else enterLost (.drift (g.error s.tracker.disp)) s

/-- A HOME pulse (R5). -/
def homePulse (s : State) : State :=
  match s.tracker.state with
  | .unconfigured => s
  | .unsynced => resync .unsynced s
  | .lost => resync .lost s
  | .tracking =>
    match s.tracker.geo with
    | some g => driftCheck g s
    | none => s

/-! ## Speed samples (R11) -/

/-- v from the net count of a window, between 0 and 4,095 (R11). -/
def speedOf (net : Int) : Nat := min 4095 net.toNat

/-- The tracker after a sample at time `now` (R11). -/
def Tracker.sample (t : Tracker) (now : Nat) : Tracker :=
  { t with
    speed := speedOf t.net
    speedClamps := if 4095 < t.net then satInc Config.tallyMax t.speedClamps else t.speedClamps
    net := 0
    windowStart := now }

/-- Every monitor armed before the sample takes its new lead and is evaluated: lines, arch, chutes (R11, R12, R14); a scan monitor not armed is armed afresh (R44). -/
def resampleAll (s : State) : State :=
  s.armedChutes.foldl (fun s j => resampleHead j s)
    (resampleScan (s.armedLines.foldl (fun s i => resampleLaunch i s) s))

/-- The end of a speed window (R11). -/
def speedSample (s : State) : State :=
  if s.isTracking then resampleAll (withTracker (s.tracker.sample s.now) s) else withTracker (s.tracker.sample s.now) s

/-! ## STOP by another party (R17), and the rows -/

/-- The other parties' hold on STOP changes (R17). -/
def stopChange (held : Bool) (s : State) : State := noticeLevel s.stopLevel (withPins { s.pins with stopHeld := held } s)

/-- ENCODER_STEP (R3). -/
def execEncoderStep (ph : EncPhase) (s : State) : Host.Outcome State Fault Refusal := done (encoderStep ph s)

/-- BOTH_PHASES_CHANGE_TOGETHER (R4). -/
def execBothPhases (s : State) : Host.Outcome State Fault Refusal := done (bothChange s)

/-- HOME_PULSE (R5). -/
def execHomePulse (s : State) : Host.Outcome State Fault Refusal := done (homePulse s)

/-- SPEED_SAMPLE (R11; taken when commanded, log 4). -/
def execSpeedSample (s : State) : Host.Outcome State Fault Refusal := done (speedSample s)

/-- STOP_LEVEL_CHANGE (R17). -/
def execStopLevelChange (held : Bool) (s : State) : Host.Outcome State Fault Refusal := done (stopChange held s)

/-- POWER_ON_RESET with the straps it samples: every value as after power-on, the outside lines as they stand (R10, R173). The commands that wait and the model's count of free values drawn are no part of the part. -/
def execPowerOnReset (straps : Nat) (s : State) : Host.Outcome State Fault Refusal :=
  done { State.powerOn straps s.pins with free := s.free, pending := s.pending }

end Sys2Proof.Machine
end

