-- ==== Sys2Proof/Machine/Requests.lean ====
section
/-! DEFINITION. The Management Unit: the request queue, the execution of a request at the head of the queue, the reply list, and the row REQUEST_INTAKE (sections 11.1, 11.2). -/

namespace Sys2Proof.Machine

open Sys2Proof

/-- A reply joins the reply list (R188). -/
def pushReply (hdr : ReqHdr) (r : Request) (status : Status) (results : List Datum) (s : State) : State :=
  { s with
    mgmt :=
      { s.mgmt with
        replies := s.mgmt.replies ++ [{ hdr := hdr, kind := requestKind r, status := status, results := results }] } }

/-- The reply list has room for one more reply (R188). -/
def State.replyRoom (s : State) : Bool := s.mgmt.replies.length < Config.repliesMax

/-- A request joins the request queue (R187). -/
def queueRequest (hdr : ReqHdr) (r : Request) (s : State) : State :=
  { s with mgmt := { s.mgmt with requests := s.mgmt.requests ++ [{ hdr := hdr, request := r }] } }

/-- A request dropped for want of a place for its reply: REPLY_LOST rises (R188). -/
def loseReply (s : State) : State :=
  { s with mgmt := { s.mgmt with replyLost := satInc Config.tallyMax s.mgmt.replyLost } }

/-- Takes a request that the Link Interface hands on (R187, R188). -/
def takeRequest (hdr : ReqHdr) (r : Request) (s : State) : State :=
  if s.mgmt.requests.length < Config.requestsMax then queueRequest hdr r s
  else if s.replyRoom then pushReply hdr r .busy [] s
  else loseReply s

/-- REQUEST_INTAKE (R187). -/
def execRequestIntake (hdr : ReqHdr) (request : Request) (s : State) : Host.Outcome State Fault Refusal :=
  done (takeRequest hdr request s)

/-! ## Execution at the head of the request queue (R187, log 1) -/

/-- The request leaves the request queue. -/
def dropRequest (s : State) : State := { s with mgmt := { s.mgmt with requests := s.mgmt.requests.tail } }

/-- The request may be executed: the reply list has room, and it heads the request queue or the queue holds none (R187, log 1). -/
def State.mayServe (s : State) (hdr : ReqHdr) (r : Request) : Bool :=
  s.replyRoom &&
    match s.mgmt.requests with
    | [] => true
    | q :: _ => q == { hdr := hdr, request := r }

/-- What the execution of a request at its owner gives: the state, the status and the results of its reply. -/
structure Served where
  state : State
  status : Status
  results : List Datum
  deriving DecidableEq, Repr

/-- A request carried out with results. -/
def doneWith (results : List Datum) (s : State) : Served := { state := s, status := .done, results := results }

/-- A refused request changes nothing (R189). -/
def refuse (status : Status) (s : State) : Served := { state := s, status := status, results := [] }

/-- The reply of a served request joins the reply list (R188). -/
def reply (hdr : ReqHdr) (r : Request) (x : Served) : State := pushReply hdr r x.status x.results x.state

/-- Executes a request whose turn has come, as one event, and forms its reply at the end; otherwise it waits (R187, log 1). -/
def serve (hdr : ReqHdr) (r : Request) (owner : State → Served) (s : State) : Host.Outcome State Fault Refusal :=
  done (if s.mayServe hdr r then reply hdr r (owner (dropRequest s)) else s)

/-- The mode is not IDLE (R190). -/
def State.notIdle (s : State) : Bool := s.mode != .idle

end Sys2Proof.Machine
end

