-- ==== Sys2Proof/Machine/LinkPorts.lean ====
section
/-! DEFINITION. The two ports of the line link: link states, reception, forwarding, intake and transmission, and their rows (chapter 10). -/

namespace Sys2Proof.Machine

open Sys2Proof

/-- The port that faces the other way. -/
def otherPort : PortId → PortId
  | .up => .down
  | .down => .up

/-- The port named. -/
def State.port (s : State) (p : PortId) : Port := s.link.port p

/-- Replaces the Link Interface's values. -/
def withLink (l : Link) (s : State) : State := { s with link := l }

/-- LINK_STATE: port, state left, state entered (R175, R198). -/
def linkNotice (p : PortId) (left entered : LinkState) : Notice :=
  { Notice.of .linkState with
    detail1 := (portCode p : Nat), detail2 := (left.code : Nat), detail3 := (entered.code : Nat) }

/-- Queues LINK_STATE for a port (R175). -/
def noticeLink (p : PortId) (left entered : LinkState) (s : State) : State := notify (linkNotice p left entered) s

/-! ## Link states (R175, R176, R183, R184) -/

/-- A valid frame has been received: the 50 ms measure restarts (R176). -/
def Port.heard (now : Nat) (x : Port) : Port := { x with lastValid := now }

/-- A port brought to UP by a valid training frame (R175). -/
def Port.enterUp (now : Nat) (x : Port) : Port :=
  { x with state := .up, since := now, lastValid := now, trainDue := false }

/-- The DOWN port's return arms the scan monitor afresh (R184). -/
def onUp (p : PortId) (s : State) : State :=
  match p with
  | .down => freshArm s
  | .up => s

/-- A valid training frame received at a port (R175, R176). -/
def trainingReceived (p : PortId) (s : State) : State :=
  match (s.port p).state with
  | .down => s
  | .training => onUp p (noticeLink p .training .up (modifyPort p (Port.enterUp s.now) s))
  | .up => modifyPort p (fun x => { x.heard s.now with answer := true }) s

/-- An IDLE frame received at a port: it only restarts the measure of an UP port (R175, R176). -/
def idleReceived (p : PortId) (s : State) : State :=
  match (s.port p).state with
  | .down => s
  | .training => s
  | .up => modifyPort p (Port.heard s.now) s

/-- A port in DOWN: its transmission is abandoned, and what it transmitted stays in the place it came from, a training frame in answer too (R180, R184, log 11). -/
def Port.enterDown (now : Nat) (x : Port) : Port := { x with state := .down, since := now, tx := none, trainDue := false }

/-- The forward queue that leads to a port is emptied and counted (R178). -/
def Port.emptyForward (x : Port) : Port :=
  { x with forward := [], forwardDropped := min Config.tallyMax (x.forwardDropped + x.forward.length) }

/-- No unsent IREF is in transmission any more. -/
def abandonIref (s : State) : State :=
  withLink { s.link with irefs := s.link.irefs.map (fun r => { r with begun := false }) } s

/-- The DOWN port leaves UP: a field link fault, in the order of R183. -/
def fieldLinkFault (s : State) : State :=
  setLatch .linkDown
    (noticeLink .down .up .down
      (releaseReservations
        (modifyPort .down Port.emptyForward
          (discardTimed
            (withdrawDrops (cancelAll (disarmAll (abandonIref (modifyPort .down (Port.enterDown s.now) s)))))))))

/-- The UP port leaves UP (R184). -/
def hostLinkFault (s : State) : State :=
  noticeLink .up .up .down (modifyPort .up (fun x => (x.enterDown s.now).emptyForward) s)

/-- An UP port has received no valid frame for 50 ms (R175); a port in another state has no such measure. -/
def linkTimeout (p : PortId) (s : State) : State :=
  match (s.port p).state with
  | .down => s
  | .training => s
  | .up =>
    match p with
    | .down => fieldLinkFault s
    | .up => hostLinkFault s

/-- A port that enters TRAINING, where its first training frame is due (R175). -/
def Port.enterTraining (now : Nat) (x : Port) : Port :=
  { x with state := .training, since := now, trainFrom := now, trainDue := true }

/-- The hold-off of a port in DOWN has ended (R175). -/
def holdoffEnd (p : PortId) (s : State) : State :=
  match (s.port p).state with
  | .down => noticeLink p .down .training (modifyPort p (Port.enterTraining s.now) s)
  | .training => s
  | .up => s

/-- A port in TRAINING is due to send a training frame (R175). -/
def trainingSend (p : PortId) (s : State) : State :=
  match (s.port p).state with
  | .training => modifyPort p (fun x => { x with trainFrom := s.now, trainDue := true }) s
  | .down => s
  | .up => s

/-- The IDLE frame of a port (R176). -/
def Port.idleTx (x : Port) (own : Nat) : Tx :=
  { cls := .idle, frame := { dst := 127, src := own, kind := 0, seq := x.seq, payload := [] } }

/-- What the arbiter of a port would begin next. -/
def State.nextFor (s : State) : PortId → Option Tx
  | .up => s.nextUp
  | .down => s.nextDown

/-- An UP port that has been idle for 10 ms begins an IDLE frame, if its transmitter is free and no frame waits (R176). -/
def idleSend (p : PortId) (s : State) : State :=
  if (s.port p).state = .up ∧ (s.port p).tx = none ∧ s.nextFor p = none then
    modifyPort p (fun x => { x with tx := some (x.idleTx s.link.own) }) s
  else s

/-! ## Reception (R177 to R179) -/

/-- Forwards a frame through the queue that leads to a port (R178). -/
def forwardTo (q : PortId) (f : Frame) (s : State) : State :=
  modifyPort q
    (fun x =>
      if x.state = .up ∧ x.forward.length < Config.forwardMax then { x with forward := x.forward ++ [f] }
      else { x with forwardDropped := satInc Config.tallyMax x.forwardDropped }) s

/-- A field kind (section 10.7). -/
def isFieldKind (kind : Nat) : Bool := 0x10 ≤ kind && kind ≤ 0x17

/-- The station is a configured field node (R179). -/
def State.fieldNode (s : State) (station : Nat) : Bool :=
  s.tracker.geo.any (fun g => g.archStation == station) ||
    s.lines.any (fun l => l.cfg.any (fun c => c.station == station)) ||
    s.carts.chutes.any (fun c => c.cfg.station == station)

/-- Hands a field frame to its owner (R179). -/
def fieldFrame (f : Frame) (s : State) : State :=
  match f.kind with
  | 0x10 => brdyOp f.src (readBrdy f.payload) s
  | 0x11 => ldonOp f.src (readLdon f.payload) s
  | 0x12 => tscnOp f.src (readTscn f.payload) s
  | 0x13 => ceyeOp f.src (readChute f.payload) s
  | 0x14 => coutOp f.src (readChute f.payload) s
  | 0x15 => cinOp f.src (readChute f.payload) s
  | 0x16 => cfltOp f.src (readChute f.payload) s
  | 0x17 => cclrOp f.src (readChute f.payload) s
  | _ => s

/-- KIND_REJECTED, WRONG_PORT and FOREIGN rise (R179), and SELF (R177). -/
def countKind (s : State) : State :=
  withLink { s.link with kindRejected := satInc Config.tallyMax s.link.kindRejected } s
def countWrongPort (s : State) : State := withLink { s.link with wrongPort := satInc Config.tallyMax s.link.wrongPort } s
def countForeign (s : State) : State := withLink { s.link with foreign := satInc Config.tallyMax s.link.foreign } s
def countSelf (s : State) : State := withLink { s.link with selfCount := satInc Config.tallyMax s.link.selfCount } s

/-- A field frame addressed to the part (R179). -/
def intakeField (p : PortId) (f : Frame) (s : State) : State :=
  match p with
  | .up => countWrongPort s
  | .down => if s.fieldNode f.src then fieldFrame f s else countForeign s

/-- A management request addressed to the part: the host station becomes its source (R179). -/
def intakeRequest (p : PortId) (f : Frame) (r : Request) (s : State) : State :=
  match p with
  | .down => countWrongPort s
  | .up => takeRequest { src := f.src, seq := f.seq } r (withLink { s.link with host := some f.src } s)

/-- Takes a frame addressed to the part (R179). -/
def intake (p : PortId) (f : Frame) (s : State) : State :=
  if isFieldKind f.kind then intakeField p f s
  else
    match readRequest f.kind f.payload with
    | some r => intakeRequest p f r s
    | none => countKind s

/-- Decides a valid frame at an UP port, after its measure has restarted (R177). -/
def decideFrame (p : PortId) (f : Frame) (s : State) : State :=
  if f.kind = 1 then trainingReceived p s
  else if f.kind = 0 then s
  else if f.src = s.link.own then countSelf s
  else if f.dst = s.link.own then intake p f s
  else if f.dst = 127 then intake p f (forwardTo (otherPort p) f s)
  else forwardTo (otherPort p) f s

/-- A frame received at an UP port (R177). -/
def receiveUp (p : PortId) (r : Received) (s : State) : State :=
  match r with
  | .malformed => modifyPort p (fun x => { x with formatErrors := satInc Config.tallyMax x.formatErrors }) s
  | .badCheck => modifyPort p (fun x => { x with checkErrors := satInc Config.tallyMax x.checkErrors }) s
  | .valid f => decideFrame p f (modifyPort p (Port.heard s.now) s)

/-- A frame received at a port in TRAINING: only a valid training frame counts (R175). -/
def receiveTraining (p : PortId) (r : Received) (s : State) : State :=
  match r with
  | .malformed => s
  | .badCheck => s
  | .valid f => if f.kind = 1 then trainingReceived p s else s

/-- A frame received whole at a port (R175, R177). -/
def frameReceived (p : PortId) (r : Received) (s : State) : State :=
  match (s.port p).state with
  | .down => s
  | .training => receiveTraining p r s
  | .up => receiveUp p r s

/-! ## Transmission (R174, R180 to R182) -/

/-- The frame is one that takes a number of the port's sequence: every frame that the part originates but RPLY (R174). -/
def TxClass.numbered : TxClass → Bool
  | .forward => false
  | .reply => false
  | .training => true
  | .idle => true
  | .answer => true
  | .timing => true
  | .iref _ => true
  | .cart => true
  | .note => true

/-- A port whose frame in transmission has been transmitted (R174, R176). -/
def Port.sent (cls : TxClass) (now : Nat) (x : Port) : Port :=
  { x with
    tx := none
    lastSent := now
    seq := if cls.numbered then (x.seq + 1) % 256 else x.seq
    answer := if cls = .answer then false else x.answer
    forward := if cls = .forward then x.forward.tail else x.forward }

/-- The head of the timing queue leaves it, if it is the frame that was in transmission; the transmission of a DROP evaluates the drain watch (R169, R180, log 10). -/
def timedSent (s : State) : State :=
  match s.link.timing with
  | [] => s
  | t :: rest =>
    if t.begun then
      if t.body.isDrop then drainWatch (withLink { s.link with timing := rest } s)
      else withLink { s.link with timing := rest } s
    else s

/-- The unsent IREF that was in transmission leaves; one that has replaced it meanwhile stays (R31, log 10). -/
def irefSent (s : State) : State := withLink { s.link with irefs := s.link.irefs.eraseP (fun r => r.begun) } s

/-- The oldest reply, and the oldest notice, leave (R188, R197). -/
def replySent (s : State) : State := { s with mgmt := { s.mgmt with replies := s.mgmt.replies.tail } }
def noteSent (s : State) : State := { s with mgmt := { s.mgmt with notices := s.mgmt.notices.tail } }

/-- What leaves its holding place outside the port when a frame of this class has been transmitted (R180 to R182). -/
def leavePlace (cls : TxClass) (s : State) : State :=
  match cls with
  | .timing => timedSent s
  | .iref _ => irefSent s
  | .reply => replySent s
  | .cart => cartFrameSent s
  | .note => noteSent s
  | .training => s
  | .idle => s
  | .answer => s
  | .forward => s

/-- The frame in transmission at a port has been transmitted (R180). -/
def frameSent (p : PortId) (s : State) : State :=
  match (s.port p).tx with
  | none => s
  | some t => leavePlace t.cls (modifyPort p (Port.sent t.cls s.now) s)

/-! ## The rows -/

/-- FRAME_RECEIVED: the bytes received whole at a port, with the line coding broken or not (R177). -/
def execFrameReceived (port : PortId) (broken : Bool) (bytes : List Byte) (s : State) : Host.Outcome State Fault Refusal :=
  done (frameReceived port (receiveFrame broken bytes) s)

/-- TRAINING_FRAME (R175). -/
def execTrainingFrame (port : PortId) (s : State) : Host.Outcome State Fault Refusal := done (trainingReceived port s)

/-- IDLE_FRAME (R176). -/
def execIdleFrame (port : PortId) (s : State) : Host.Outcome State Fault Refusal := done (idleReceived port s)

/-- LINK_TIMEOUT (R175; taken when commanded, log 4). -/
def execLinkTimeout (port : PortId) (s : State) : Host.Outcome State Fault Refusal := done (linkTimeout port s)

/-- LINK_HOLDOFF_END (R175; taken when commanded, log 4). -/
def execLinkHoldoffEnd (port : PortId) (s : State) : Host.Outcome State Fault Refusal := done (holdoffEnd port s)

/-- TRAINING_SEND (R175; taken when commanded, log 4). -/
def execTrainingSend (port : PortId) (s : State) : Host.Outcome State Fault Refusal := done (trainingSend port s)

/-- IDLE_SEND (R176; taken when commanded, log 4). -/
def execIdleSend (port : PortId) (s : State) : Host.Outcome State Fault Refusal := done (idleSend port s)

/-- DOWN_FRAME_TRANSMITTED (R180, R181). -/
def execDownFrameTransmitted (s : State) : Host.Outcome State Fault Refusal := done (frameSent .down s)

/-- UP_FRAME_TRANSMITTED (R180, R182). -/
def execUpFrameTransmitted (s : State) : Host.Outcome State Fault Refusal := done (frameSent .up s)

end Sys2Proof.Machine
end

