-- ==== Sys2Proof/Machine/Modes.lean ====
section
/-! DEFINITION. Session Control: the six actions of MODE, the line reset LRST, the session clock tick, and the rows SSTP, CLRS, TCMD (chapter 9, sections 11.5 and 11.6). -/

namespace Sys2Proof.Machine

open Sys2Proof

/-- Replaces what Session Control holds. -/
def withSession (x : Session) (s : State) : State := { s with session := x }

/-- MODE_CHANGED: mode left, mode entered, voyage number (R163). -/
def modeNotice (left entered : Mode) (voyage : Nat) : Notice :=
  { Notice.of .modeChanged with
    detail1 := (left.code : Nat), detail2 := (entered.code : Nat), detail3 := (voyage : Nat) }

/-- The mode field, with the voyage number kept. -/
def setMode (m : Mode) (s : State) : State := withSession { s.session with mode := m } s

/-- A mode other than SORTING and DRAINING is entered: a DROP that waits is withdrawn (R111). -/
def enterQuiet (m : Mode) (s : State) : State := withdrawDrops (setMode m s)

/-- MODE_CHANGED is queued with the voyage number in force after the change (R163). -/
def noticeMode (left entered : Mode) (s : State) : State := notify (modeNotice left entered s.session.voyage) s

/-- The chute staging list and the rule staging list become CLOSED (R93, R121). -/
def closeChuteStaging (s : State) : State := { s with carts := { s.carts with staging := [] } }
def closeRuleStaging (s : State) : State := withRouter { s.router with staging := [] } s

/-! ## The changes (R164 to R168, R171) -/

/-- Opens a session with a voyage number (R164). -/
def openSession (voyage : Nat) (s : State) : State :=
  noticeMode .idle .setup
    (enterQuiet .setup
      { s with
        session := { s.session with voyage := voyage, clock := 0, secondStart := s.now }
        carts := { s.carts with nextSerial := 1 }
        strays := { s.strays with recs := [], nextSerial := 1, lost := 0 } })

/-- Begins a dry run (R165). -/
def beginShadow (s : State) : State := noticeMode .setup .shadow (enterQuiet .shadow (closeChuteStaging s))

/-- Ends a dry run (R166). -/
def endShadow (s : State) : State := noticeMode .shadow .setup (enterQuiet .setup (cancelAll s))

/-- Begins or resumes the sort (R167). -/
def beginSort (s : State) : State := noticeMode s.mode .sorting (setMode .sorting (closeRuleStaging (closeChuteStaging s)))

/-- The drain watch becomes ARMED (R168). -/
def armWatch (s : State) : State := withSession { s.session with watch := true } s

/-- Begins the drain (R168). -/
def beginDrain (s : State) : State :=
  drainWatch (noticeMode .sorting .draining (armWatch (dropHeld (closeRuleStaging (setMode .draining s)))))

/-- The manifest emptied at session close (R78). -/
def closeManifest (s : State) : State := { s with manifest := s.manifest.close }

/-- Closes a session (R171). -/
def closeSession (s : State) : State :=
  noticeMode s.mode .idle
    (enterQuiet .idle
      (withSession { (closeManifest (closeAllChutes s)).session with voyage := 0 } (closeManifest (closeAllChutes s))))

/-! ## MODE (R163) -/

/-- The conditions of MODE SORT that fail, as their places in R167's table. -/
def State.sortMissing (s : State) : List Nat :=
  (if s.carts.loaded then [] else [1]) ++ (if s.router.zonesLoaded then [] else [2]) ++
    (if s.router.rulesLoaded then [] else [3]) ++
    (if s.carts.chutes.any (fun c => c.state == .opened) then [] else [4])

/-- A request refused with NOT_READY, listing the conditions that failed (R163, log 14). -/
def notReady (codes : List Nat) (s : State) : Served :=
  { state := s, status := .notReady, results := .u8 codes.length :: codes.map .u8 }

/-- MODE OPEN, and a MODE whose action is none of the six or is missing (R163, R164, log 13). -/
def serveOpen (arg : ModeOpenArg) (s : State) : Served :=
  match arg with
  | .badAction _ => refuse .range s
  | .short => if s.mode = .idle then refuse .range s else refuse .mode s
  | .voyage n =>
    if s.mode ≠ .idle then refuse .mode s
    else if n = 0 ∨ 65535 < n then refuse .range s
    else doneWith [] (openSession n s)

/-- MODE SHADOW (R163, R165). -/
def serveShadow (s : State) : Served :=
  if s.mode ≠ .setup then refuse .mode s
  else if s.configured then doneWith [] (beginShadow s)
  else notReady [1] s

/-- MODE SETUP (R163, R166). -/
def serveSetup (s : State) : Served := if s.mode ≠ .shadow then refuse .mode s else doneWith [] (endShadow s)

/-- MODE SORT (R163, R167). -/
def serveSort (s : State) : Served :=
  if s.mode ≠ .setup ∧ s.mode ≠ .drained then refuse .mode s
  else if s.sortMissing = [] then doneWith [] (beginSort s)
  else notReady s.sortMissing s

/-- MODE DRAIN (R163, R168). -/
def serveDrain (s : State) : Served := if s.mode ≠ .sorting then refuse .mode s else doneWith [] (beginDrain s)

/-- MODE CLOSE (R163, R171). -/
def serveClose (s : State) : Served :=
  if s.mode ≠ .setup ∧ s.mode ≠ .drained then refuse .mode s else doneWith [] (closeSession s)

/-- MODE OPEN (R164). -/
def execModeOpen (hdr : ReqHdr) (arg : ModeOpenArg) (s : State) : Host.Outcome State Fault Refusal :=
  serve hdr (.modeOpen arg) (serveOpen arg) s
/-- MODE SHADOW (R165). -/
def execModeShadow (hdr : ReqHdr) (s : State) : Host.Outcome State Fault Refusal := serve hdr .modeShadow serveShadow s
/-- MODE SETUP (R166). -/
def execModeSetup (hdr : ReqHdr) (s : State) : Host.Outcome State Fault Refusal := serve hdr .modeSetup serveSetup s
/-- MODE SORT (R167). -/
def execModeSort (hdr : ReqHdr) (s : State) : Host.Outcome State Fault Refusal := serve hdr .modeSort serveSort s
/-- MODE DRAIN (R168). -/
def execModeDrain (hdr : ReqHdr) (s : State) : Host.Outcome State Fault Refusal := serve hdr .modeDrain serveDrain s
/-- MODE CLOSE (R171). -/
def execModeClose (hdr : ReqHdr) (s : State) : Host.Outcome State Fault Refusal := serve hdr .modeClose serveClose s

/-! ## SESSION_CLOCK_TICK (R162) -/

/-- The end of a second of the time base (R162). -/
def clockTick (s : State) : State :=
  withSession { s.session with clock := satInc Config.longMax s.session.clock, secondStart := s.now } s

/-- SESSION_CLOCK_TICK (R162; taken when commanded, log 4). -/
def execSessionClockTick (s : State) : Host.Outcome State Fault Refusal := done (clockTick s)

/-! ## SSTP and CLRS (R18, R19) -/

/-- SSTP (R18). -/
def serveSstp (s : State) : Served := doneWith [] (setLatch .sstp s)

/-- CLRS (R19). -/
def serveClrs (s : State) : Served := if s.downUp then doneWith [] (releaseLatch s) else refuse .linkDown s

/-- SSTP (R18). -/
def execSstp (hdr : ReqHdr) (s : State) : Host.Outcome State Fault Refusal := serve hdr .sstp serveSstp s
/-- CLRS (R19). -/
def execClrs (hdr : ReqHdr) (s : State) : Host.Outcome State Fault Refusal := serve hdr .clrs serveClrs s

/-! ## TCMD (R26, R27) -/

/-- TCMD DISABLE of a tray (R26, R44). -/
def disableTray (k : Nat) (s : State) : Served :=
  match s.trays[k]? with
  | none => refuse .range s
  | some t =>
    if t.state = .empty then doneWith [] (moveScan k (settleTray k (Tray.blank .disabled) s))
    else if t.state = .disabled then doneWith [] s
    else refuse .busy s

/-- TCMD ENABLE of a tray (R27, R44). -/
def enableTray (k : Nat) (s : State) : Served :=
  match s.trays[k]? with
  | none => refuse .range s
  | some t =>
    if t.state = .disabled then doneWith [] (freshArm (settleTray k (Tray.blank .empty) s)) else doneWith [] s

/-- TCMD DISABLE, and a TCMD whose action is neither or is missing (R26, R194, log 13). -/
def serveTcmdDisable (arg : ActionArg) (s : State) : Served :=
  match arg with
  | .of k => disableTray k s
  | .short => refuse .range s
  | .badAction _ => refuse .range s

/-- TCMD DISABLE (R26). -/
def execTcmdDisable (hdr : ReqHdr) (arg : ActionArg) (s : State) : Host.Outcome State Fault Refusal :=
  serve hdr (.tcmdDisable arg) (serveTcmdDisable arg) s
/-- TCMD ENABLE (R27). -/
def execTcmdEnable (hdr : ReqHdr) (tray : Nat) (s : State) : Host.Outcome State Fault Refusal :=
  serve hdr (.tcmdEnable tray) (enableTray tray) s

/-! ## LRST (R196) -/

/-- The Scan Reconciler at a line reset (R49). -/
def resetArch (s : State) : State := withArch { s.arch with mon := none, outstanding := none } s

/-- A chute at a line reset: its queue emptied without cancellation, its monitor disarmed, its awaiting list emptied without expiry (R115, R145); its state is kept (log 27). -/
def Chute.lineReset (c : Chute) : Chute := { c with queue := [], mon := none, awaiting := [] }

/-- The chutes at a line reset. -/
def resetChutes (s : State) : State :=
  { s with carts := { s.carts with chutes := s.carts.chutes.map Chute.lineReset } }

/-- The DROP frames withdrawn at a line reset: each counted in WITHDRAWN, the cart entries as they stand (R111, R196 step 3). -/
def resetDrops (s : State) : State :=
  withSched { s.sched with withdrawn := min Config.tallyMax (s.sched.withdrawn + s.dropsWaiting) }
    (withLink { s.link with timing := s.link.timing.filter (fun f => !f.body.isDrop) } s)

/-- A tray record at a line reset (R25). -/
def Tray.lineReset (t : Tray) : Tray := if t.state = .disabled then t else Tray.blank .empty

/-- The trays at a line reset (R25). -/
def resetTrays (s : State) : State := { s with trays := s.trays.map Tray.lineReset }

/-- A running rebuild abandoned (R77). -/
def abandonRebuild (s : State) : State := { s with manifest := s.manifest.abandon }

/-- The tracking state after a line reset (R10). -/
def TrackState.lineReset : TrackState → TrackState
  | .unconfigured => .unconfigured
  | .unsynced => .unsynced
  | .tracking => .unsynced
  | .lost => .unsynced

/-- The Chain Tracker at a line reset: a new speed window starts and the latch is released (R10). -/
def resetTracker (s : State) : State :=
  releaseLatch
    (withTracker
      { s.tracker with state := s.tracker.state.lineReset, disp := 0, speed := 0, net := 0, windowStart := s.now } s)

/-- The line reset, in the order of R196. -/
def lineReset (s : State) : State :=
  drainWatch
    (resetTracker (abandonRebuild (resetTrays (discardTimed (resetDrops (resetChutes (resetArch (resetLines s))))))))

/-- LRST: the reply is formed first, then the reset is made, within the same event (R196). -/
def execLrst (hdr : ReqHdr) (s : State) : Host.Outcome State Fault Refusal :=
  done (if s.mayServe hdr .lrst then lineReset (pushReply hdr .lrst .done [] (dropRequest s)) else s)

end Sys2Proof.Machine
end

