-- ==== Sys2Proof/Machine/Tables.lean ====
section
/-! DEFINITION. The rows LCFG, CCFG, ZLOAD, RLOAD and RSET: the loop configuration and the tables (sections 11.4, 7.2, 5.1, 5.6). -/

namespace Sys2Proof.Machine

open Sys2Proof

/-- A location's distance past the arch on a loop of lu steps (R122, R192). -/
def pastArch (lu arch x : Nat) : Nat := (x + lu - arch) % lu

/-! ## LCFG (R192, R193) -/

/-- Set or clear is carried as 1 or 0; another value is out of range (log 23). -/
def flagOk (n : Nat) : Bool := n ≤ 1

/-- Rows 2 to 5 of R192: the ranges of single values. -/
def loopRanges (a : LoopArg) : Bool :=
  16 ≤ a.trays && a.trays ≤ 512 && 200 ≤ a.pitch && a.pitch ≤ 2000 && a.trays * a.pitch ≤ 1024000 &&
    (a.driftTol ≤ 255 && a.lapLimit ≤ 15 && a.lines.length ≤ 4 && (a.dflt == 1 || a.dflt == 2) &&
      (a.policy == 1 || a.policy == 2) && flagOk a.stopOut && flagOk a.stopIn && a.lines.all (fun l => flagOk l.enable)) &&
    (a.archLoc < a.trays * a.pitch && a.lines.all (fun l => decide (l.loc < a.trays * a.pitch))) &&
    (1 ≤ a.archStation && a.archStation ≤ 126 &&
      a.lines.all (fun l => decide (1 ≤ l.station) && decide (l.station ≤ 126)))

/-- Row 6 of R192: the stray set. -/
def straySetOk (set : List Nat) : Bool := set.length ≤ 4 && set.all (fun j => decide (j ≤ 63)) && distinct set

/-- Locations of which each is at least `pitch` steps forward from every other (R192). -/
def spaced (lu pitch : Nat) : List Nat → Bool
  | [] => true
  | x :: rest =>
    rest.all (fun y => decide (pitch ≤ (y + lu - x) % lu) && decide (pitch ≤ (x + lu - y) % lu)) && spaced lu pitch rest

/-- Row 7 of R192: the loop order of the lines and of the chutes in force. -/
def loopOrder (a : LoopArg) (chutes : List Chute) : Bool :=
  a.lines.all (fun l => decide (1 ≤ pastArch (a.trays * a.pitch) a.archLoc l.loc)) &&
    spaced (a.trays * a.pitch) a.pitch (a.lines.map LineArg.loc) &&
    chutes.all
      (fun c =>
        decide (c.cfg.loc < a.trays * a.pitch) &&
          decide (a.pitch ≤ pastArch (a.trays * a.pitch) a.archLoc c.cfg.loc) &&
          a.lines.all
            (fun l =>
              decide (pastArch (a.trays * a.pitch) a.archLoc c.cfg.loc < pastArch (a.trays * a.pitch) a.archLoc l.loc)))

/-- Row 8 of R192: no two of the stations are equal. -/
def State.stationsDistinct (s : State) (a : LoopArg) : Bool :=
  distinct
    ([a.archStation] ++ a.lines.map LineArg.station ++ s.carts.chutes.map (fun c => c.cfg.station) ++ [s.link.own])

/-- The geometry of an accepted LCFG; a delay above 250 is stored as 250 (R1, R2). -/
def loopGeometry (a : LoopArg) : Geometry :=
  { trays := a.trays, pitch := a.pitch, driftTol := a.driftTol, archLoc := a.archLoc, archDelay := min 250 a.archDelay,
    archStation := a.archStation }

/-- The tracker after an accepted LCFG (R9). -/
def Tracker.configure (a : LoopArg) (t : Tracker) : Tracker :=
  { t with
    state := .unsynced
    geo := some (loopGeometry a)
    disp := 0
    homeCorrection := 0
    stopOut := a.stopOut == 1
    stopIn := a.stopIn == 1
    archClamped := 0 }

/-- A configured line; delay and yield gap are stored to at most 250 and 7 (R2, R28, R193). -/
def configuredLine (l : LineArg) : Line :=
  { Line.powerOn with
    cfg := some { loc := l.loc, delay := min 250 l.delay, gap := min 7 l.gap, station := l.station, enable := l.enable == 1 } }

/-- The four lines after an accepted LCFG; those beyond the line count are unconfigured (R193). -/
def configuredLines (a : LoopArg) : List Line :=
  a.lines.map configuredLine ++ List.replicate (4 - a.lines.length) Line.powerOn

/-- The Scan Reconciler after an accepted LCFG; a lap limit of 0 is stored as 1 (R49, R56). -/
def configuredArch (a : LoopArg) : Arch := { Arch.powerOn with lapLimit := some (max 1 a.lapLimit) }

/-- The resolver's two values (R97); default action 1 RECIRCULATE, 2 STRAY. -/
def Router.configure (a : LoopArg) (r : Router) : Router :=
  { r with dflt := if a.dflt = 1 then .recirculate else .stray, straySet := a.straySet }

/-- The full-list policy (R159); 1 KEEP_OLDEST, 2 DROP_OLDEST. -/
def StrayList.configure (a : LoopArg) (l : StrayList) : StrayList :=
  { l with policy := if a.policy = 1 then .keepOldest else .dropOldest }

/-- The blocks' values of an accepted LCFG, the timing queue apart (R193). -/
def configureBlocks (a : LoopArg) (s : State) : State :=
  { s with
    tracker := s.tracker.configure a
    trays := List.replicate a.trays (Tray.blank .empty)
    lines := configuredLines a
    arch := configuredArch a
    router := s.router.configure a
    strays := s.strays.configure a
    link := { s.link with irefs := [] } }

/-- Applies an accepted LCFG; it queues no notice, not for a change of level by its output enable either (R193, log 8). -/
def applyLoop (a : LoopArg) (s : State) : State := configureBlocks a (discardTimed (disarmAll s))

/-- LCFG (R192, R193). -/
def serveLcfg (arg : Option LoopArg) (s : State) : Served :=
  if s.mode ≠ .idle ∧ s.mode ≠ .setup then refuse .mode s
  else
    match arg with
    | none => refuse .range s
    | some a =>
      if (loopRanges a && straySetOk a.straySet && loopOrder a s.carts.chutes) = false then refuse .range s
      else if s.stationsDistinct a = false then refuse .duplicate s
      else doneWith [.u32 (a.trays * a.pitch), .u8 a.lines.length, .u8 (max 1 a.lapLimit)] (applyLoop a s)

/-- LCFG. -/
def execLcfg (hdr : ReqHdr) (arg : Option LoopArg) (s : State) : Host.Outcome State Fault Refusal :=
  serve hdr (.lcfg arg) (serveLcfg arg) s

/-! ## CCFG (R121 to R123) -/

/-- The values of one chute carried are in range on a loop of lu steps (R121). -/
def chuteArgOk (lu : Nat) (c : ChuteArg) : Bool :=
  c.loc < lu && 1 ≤ c.window && c.window ≤ 255 && (c.side == 1 || c.side == 2) && 1 ≤ c.capacity && c.capacity ≤ 255 &&
    (c.confirm == 0 || (50 ≤ c.confirm && c.confirm ≤ 2000)) && 1 ≤ c.station && c.station ≤ 126 && flagOk c.stopOnFault

/-- First number and count of a part of a table of 64, carried with its FINAL marker and as many items (R94, R121). -/
def partOk (first count final items : Nat) : Bool :=
  1 ≤ count && count ≤ 16 && first ≤ 63 && first + count ≤ 64 && flagOk final && items == count

/-- The staging list after a part: afresh from number 0, continued from any other (R94, R121). -/
def stagePart {α : Type} (first : Nat) (staged items : List α) : List α := if first = 0 then items else staged ++ items

/-- The staged list that a part does not fit: a first number that is not 0 and not the staged count (R94, R121). -/
def partGap {α : Type} (first : Nat) (staged : List α) : Bool := first != 0 && staged.length != first

/-- A chute of the table in force keeps an installation waiting (R122). -/
def Chute.holdsTable (c : Chute) : Bool := c.state != .closed || c.report != .none || !c.awaiting.isEmpty

/-- The staged chute stands in loop order (R122). -/
def State.chuteInOrder (s : State) (g : Geometry) (c : ChuteArg) : Bool :=
  g.pitch ≤ pastArch g.loop g.archLoc c.loc &&
    s.lines.all
      (fun l => l.cfg.all (fun x => decide (pastArch g.loop g.archLoc c.loc < pastArch g.loop g.archLoc x.loc)))

/-- The stations that a staged chute may not take: the arch's, the lines', the part's own (R122). -/
def State.takenStations (s : State) (g : Geometry) : List Nat :=
  [g.archStation] ++ s.lines.filterMap (fun l => l.cfg.map LineCfg.station) ++ [s.link.own]

/-- No staged station is shared with another staged chute or already taken (R122). -/
def State.chuteStationsOk (s : State) (g : Geometry) (cs : List ChuteArg) : Bool :=
  distinct (cs.map ChuteArg.station) && cs.all (fun c => !(s.takenStations g).contains c.station)

/-- An installed chute (R122): CLOSED, with its region from `first` (R123). -/
def installChute (c : ChuteArg) (first : Nat) : Chute :=
  { cfg :=
      { loc := c.loc, delay := min 250 c.delay, window := c.window, side := if c.side = 1 then .left else .right,
        capacity := c.capacity, watermark := min c.capacity c.watermark, confirm := c.confirm, station := c.station,
        stopOnFault := c.stopOnFault == 1, first := first }
    state := .closed, prior := none, serial := none, cart := [], nearFull := false, present := false, report := .none,
    awaiting := [], queue := [], mon := none, fired := 0, missed := 0, shadow := 0, clamped := 0, unexpected := 0,
    timedOut := 0 }

/-- The installed chutes with regions one after another (R123). -/
def installChutes : Nat → List ChuteArg → List Chute
  | _, [] => []
  | first, c :: rest => installChute c first :: installChutes (first + c.capacity) rest

/-- The slots that a table uses (R122, R123). -/
def slotsOf (cs : List ChuteArg) : Nat := (cs.map ChuteArg.capacity).sum

/-- The chute staging list. -/
def setChuteStaging (cs : List ChuteArg) (s : State) : State := { s with carts := { s.carts with staging := cs } }

/-- The installed table (R122). -/
def installTable (cs : List ChuteArg) (s : State) : State :=
  { s with carts := { s.carts with chutes := installChutes 0 cs, loaded := true, staging := [] } }

/-- A refused final part is taken back out of the staging list (R122). -/
def refuseInstall (status : Status) (first : Nat) (s : State) : Served :=
  if first = 0 then refuse status (setChuteStaging [] s) else refuse status s

/-- Checks and installs a staged table whose final part begins at `first` (R122). -/
def installStaged (g : Geometry) (first : Nat) (cs : List ChuteArg) (s : State) : Served :=
  if s.carts.chutes.any Chute.holdsTable then refuseInstall .busy first s
  else if Config.cartSlots < slotsOf cs then refuseInstall .full first s
  else if cs.all (s.chuteInOrder g) = false then refuseInstall .range first s
  else if s.chuteStationsOk g cs = false then refuseInstall .duplicate first s
  else doneWith [.u8 cs.length, .u16 (slotsOf cs)] (installTable cs s)

/-- One part of a chute table, after the mode and the configuration have been checked (R121). -/
def takeChutes (g : Geometry) (a : CcfgArg) (s : State) : Served :=
  if partOk a.first a.count a.final a.chutes.length = false then refuse .range s
  else if a.chutes.all (chuteArgOk g.loop) = false then refuse .range s
  else if partGap a.first s.carts.staging = true then refuse .range s
  else if a.final = 1 then installStaged g a.first (stagePart a.first s.carts.staging a.chutes) s
  else
    doneWith [.u8 (stagePart a.first s.carts.staging a.chutes).length]
      (setChuteStaging (stagePart a.first s.carts.staging a.chutes) s)

/-- CCFG (R121, R122). -/
def serveCcfg (arg : Option CcfgArg) (s : State) : Served :=
  if s.mode ≠ .idle ∧ s.mode ≠ .setup then refuse .mode s
  else
    match s.tracker.geo with
    | none => refuse .notReady s
    | some g =>
      match arg with
      | none => refuse .range s
      | some a => takeChutes g a s

/-- CCFG. -/
def execCcfg (hdr : ReqHdr) (arg : Option CcfgArg) (s : State) : Host.Outcome State Fault Refusal :=
  serve hdr (.ccfg arg) (serveCcfg arg) s

/-! ## ZLOAD (R82) -/

/-- The mode is IDLE, SETUP or SHADOW, in which ZLOAD and RLOAD are taken (R190). -/
def State.loadsTables (s : State) : Bool := s.mode == .idle || s.mode == .setup || s.mode == .shadow

/-- The zone table replaced (R82). -/
def installZones (zones : List Zone) (s : State) : State :=
  withRouter { s.router with zones := zones, zonesLoaded := true } s

/-- ZLOAD (R82). -/
def serveZload (arg : Option (List Zone)) (s : State) : Served :=
  if s.loadsTables = false then refuse .mode s
  else
    match arg with
    | none => refuse .range s
    | some zones =>
      if zones.length = 32 ∧ zones.all zoneOk = true then
        doneWith [.u8 (coveringZones 0 zones), .u16 (highestEnding zones)] (installZones zones s)
      else refuse .range s

/-- ZLOAD. -/
def execZload (hdr : ReqHdr) (arg : Option (List Zone)) (s : State) : Host.Outcome State Fault Refusal :=
  serve hdr (.zload arg) (serveZload arg) s

/-! ## RLOAD (R94, R95) -/

/-- A reply of RLOAD carries the staged count as it stands (R94). -/
def stagedReply (status : Status) (s : State) : Served :=
  { state := s, status := status, results := [.u8 s.router.staging.length] }

/-- The installed rule list (R95). -/
def installRules (rules : List Rule) (s : State) : State :=
  withRouter
    { s.router with
      rules := rules ++ List.replicate (64 - rules.length) Rule.blank, rulesLoaded := true, staging := [] } s

/-- The rule staging list. -/
def setRuleStaging (rules : List Rule) (s : State) : State := withRouter { s.router with staging := rules } s

/-- A taken part of a rule list (R94, R95). -/
def takeRules (a : RloadArg) (rules : List Rule) (s : State) : Served :=
  if a.final = 1 then
    doneWith [.u8 (stagePart a.first s.router.staging rules).length]
      (installRules (stagePart a.first s.router.staging rules) s)
  else stagedReply .done (setRuleStaging (stagePart a.first s.router.staging rules) s)

/-- RLOAD (R94). -/
def serveRload (arg : Option RloadArg) (s : State) : Served :=
  if s.loadsTables = false then stagedReply .mode s
  else
    match arg with
    | none => stagedReply .range s
    | some a =>
      if partOk a.first a.count a.final a.rules.length = false then stagedReply .range s
      else
        match checkRules a.rules with
        | none => stagedReply .range s
        | some rules => if partGap a.first s.router.staging = true then stagedReply .range s else takeRules a rules s

/-- RLOAD. -/
def execRload (hdr : ReqHdr) (arg : Option RloadArg) (s : State) : Host.Outcome State Fault Refusal :=
  serve hdr (.rload arg) (serveRload arg) s

/-! ## RSET (R96) -/

/-- One rule replaced (R96). -/
def putRule (n : Nat) (r : Rule) (s : State) : State := withRouter { s.router with rules := s.router.rules.set n r } s

/-- RSET (R96). -/
def serveRset (arg : Option RsetArg) (s : State) : Served :=
  if s.mode = .idle then refuse .mode s
  else
    match arg with
    | none => refuse .range s
    | some a =>
      if 63 < a.number then refuse .range s
      else
        match checkRule a.rule with
        | none => refuse .range s
        | some r => doneWith [] (putRule a.number r s)

/-- RSET. -/
def execRset (hdr : ReqHdr) (arg : Option RsetArg) (s : State) : Host.Outcome State Fault Refusal :=
  serve hdr (.rset arg) (serveRset arg) s

end Sys2Proof.Machine
end

