-- ==== Sys2Proof/Machine/Entries.lean ====
section
/-! DEFINITION. The rows MPUT, MDEL, MGET, HOLD, RLSE and FBLD of the Manifest Store, and SRD, SRES and SDEL of the Stray List (chapters 4 and 8). -/

namespace Sys2Proof.Machine

open Sys2Proof

/-- Replaces the Manifest Store. -/
def withManifest (m : Manifest) (s : State) : State := { s with manifest := m }

/-! ## MPUT (R67) -/

/-- Outcomes of an entry of MPUT, in the order of R67's table. -/
inductive PutOutcome where
  | range
  | amended
  | full
  | inserted
  deriving DecidableEq, Repr

/-- The code of an outcome (R185). -/
def PutOutcome.code : PutOutcome → Nat
  | .range => 1
  | .amended => 2
  | .full => 3
  | .inserted => 4

/-- An entry carried by MPUT is in range (R67; flags: log 23). -/
def putOk (p : PutArg) : Bool :=
  tagOk p.tag && p.cabin ≤ Config.cabinMax && p.group ≤ 255 && flagOk p.priority && flagOk p.oversize

/-- The entry that MPUT inserts (R67). -/
def putEntry (p : PutArg) : Entry :=
  { tag := p.tag, cabin := p.cabin, group := p.group, hold := false, priority := p.priority == 1,
    oversize := p.oversize == 1 }

/-- A cabin change is handed to the Scheduler (R66). -/
def handAmend (old new tag : Nat) (s : State) : State := if old = new then s else manifestChange .amend tag s

/-- Amends the entry in a way: HOLD is kept (R67). -/
def amendPut (key : Nat) (e : Entry) (p : PutArg) (s : State) : State :=
  handAmend e.cabin p.cabin p.tag
    (withManifest (s.manifest.amendAt key { putEntry p with hold := e.hold }) s)

/-- The way of a tag's live entry, with the entry (R62). -/
def Manifest.live (m : Manifest) (tag : Nat) : Option (Nat × Entry) :=
  (m.findKey tag).bind (fun k => (Table.get m.entries k).map (fun e => (k, e)))

/-- Inserts an entry in the lowest free way; none when the bucket is full (R62). -/
def insertEntry (e : Entry) (s : State) : Option State :=
  (s.manifest.freeKey e.tag).map (fun k => withManifest (s.manifest.insertAt k e) s)

/-- Deals with one entry of MPUT (R67). -/
def putOne (p : PutArg) (s : State) : State × PutOutcome :=
  if putOk p = false then (s, .range)
  else
    match s.manifest.live p.tag with
    | some (key, e) => (amendPut key e p s, .amended)
    | none =>
      match insertEntry (putEntry p) s with
      | some s1 => (s1, .inserted)
      | none => (s, .full)

/-- Deals with the entries of MPUT in the order carried (R65, R67). -/
def putAll : List PutArg → State → State × List PutOutcome
  | [], s => (s, [])
  | p :: rest, s => ((putAll rest (putOne p s).1).1, (putOne p s).2 :: (putAll rest (putOne p s).1).2)

/-- MPUT (R67): the count is checked before the mode (R190); a payload too short, after it (DEDUCED, log 13). -/
def serveMput (arg : Option MputArg) (s : State) : Served :=
  match arg with
  | none => if s.mode = .idle then refuse .mode s else refuse .range s
  | some a =>
    if a.count = 0 ∨ 16 < a.count then refuse .range s
    else if s.mode = .idle then refuse .mode s
    else if a.entries.length ≠ a.count then refuse .range s
    else doneWith (.u8 a.count :: (putAll a.entries s).2.map (fun o => .u8 o.code)) (putAll a.entries s).1

/-- MPUT. -/
def execMput (hdr : ReqHdr) (arg : Option MputArg) (s : State) : Host.Outcome State Fault Refusal :=
  serve hdr (.mput arg) (serveMput arg) s

/-! ## MDEL (R68) -/

/-- Deals with one tag of MDEL (R68): outcomes 1 RANGE, 2 NOT_FOUND, 3 REMOVED. -/
def deleteOne (tag : Nat) (s : State) : State × Nat :=
  if tagOk tag = false then (s, 1)
  else
    match s.manifest.findKey tag with
    | some key => (manifestChange .delete tag (withManifest (s.manifest.removeAt key tag) s), 3)
    | none => (s, 2)

/-- Deals with the tags of MDEL in the order carried (R68). -/
def deleteAll : List Nat → State → State × List Nat
  | [], s => (s, [])
  | t :: rest, s => ((deleteAll rest (deleteOne t s).1).1, (deleteOne t s).2 :: (deleteAll rest (deleteOne t s).1).2)

/-- MDEL (R68): its entry gives no order of checks, so the mode is checked first (R190). -/
def serveMdel (arg : Option MdelArg) (s : State) : Served :=
  if s.mode = .idle then refuse .mode s
  else
    match arg with
    | none => refuse .range s
    | some a =>
      if a.count = 0 ∨ 32 < a.count ∨ a.tags.length ≠ a.count then refuse .range s
      else doneWith (.u8 a.count :: (deleteAll a.tags s).2.map .u8) (deleteAll a.tags s).1

/-- MDEL. -/
def execMdel (hdr : ReqHdr) (arg : Option MdelArg) (s : State) : Host.Outcome State Fault Refusal :=
  serve hdr (.mdel arg) (serveMdel arg) s

/-! ## HOLD and RLSE (R69, R70) -/

/-- The entry that HOLD inserts (R69). -/
def heldEntry (tag : Nat) : Entry :=
  { tag := tag, cabin := 0, group := 0, hold := true, priority := false, oversize := false }

/-- HOLD of a tag in range (R69); the reply carries whether an entry was inserted. -/
def holdTag (tag : Nat) (s : State) : Served :=
  match s.manifest.live tag with
  | some (key, e) =>
    if e.hold then doneWith [Datum.flag false] s
    else
      doneWith [Datum.flag false]
        (manifestChange .hold tag (withManifest (s.manifest.amendAt key { e with hold := true }) s))
  | none =>
    match insertEntry (heldEntry tag) s with
    | some s1 => doneWith [Datum.flag true] (manifestChange .hold tag s1)
    | none => refuse .full s

/-- HOLD (R69). -/
def serveHold (arg : Option Nat) (s : State) : Served :=
  if s.mode = .idle then refuse .mode s
  else
    match arg with
    | none => refuse .range s
    | some tag => if tagOk tag then holdTag tag s else refuse .range s

/-- HOLD. -/
def execHold (hdr : ReqHdr) (arg : Option Nat) (s : State) : Host.Outcome State Fault Refusal :=
  serve hdr (.hold arg) (serveHold arg) s

/-- RLSE of a tag in range (R70). -/
def releaseTag (tag : Nat) (s : State) : Served :=
  match s.manifest.live tag with
  | some (key, e) =>
    doneWith [] (releaseStray tag e.cabin (withManifest (s.manifest.amendAt key { e with hold := false }) s))
  | none => refuse .notFound s

/-- RLSE (R70). -/
def serveRlse (arg : Option Nat) (s : State) : Served :=
  if s.mode = .idle then refuse .mode s
  else
    match arg with
    | none => refuse .range s
    | some tag => if tagOk tag then releaseTag tag s else refuse .range s

/-- RLSE. -/
def execRlse (hdr : ReqHdr) (arg : Option Nat) (s : State) : Host.Outcome State Fault Refusal :=
  serve hdr (.rlse arg) (serveRlse arg) s

/-! ## FBLD (R73) -/

/-- A rebuild that starts (R73). -/
def startRebuild (s : State) : State :=
  withManifest { s.manifest with rebuild := some { scanPoint := 0, fresh := [] } } s

/-- FBLD (R73). -/
def serveFbld (s : State) : Served :=
  if s.mode = .idle then refuse .mode s
  else if s.manifest.rebuild.isSome then refuse .busy s
  else doneWith [] (startRebuild s)

/-- FBLD. -/
def execFbld (hdr : ReqHdr) (s : State) : Host.Outcome State Fault Refusal := serve hdr .fbld serveFbld s

/-! ## MGET (R72) -/

/-- A tray state's code, in the order of R21. -/
def TrayState.code : TrayState → Nat
  | .empty => 1
  | .reserved => 2
  | .launching => 3
  | .loaded => 4
  | .routed => 5
  | .recirculate => 6
  | .dropping => 7
  | .doubt => 8
  | .disabled => 9

/-- A stray reason in a reply: 0 for none (R185). -/
def reasonDatum (r : Option StrayReason) : Datum := .u8 ((r.map StrayReason.code).getD 0)

/-- The entry part of MGET; an absent one is its first field's none (R72, log 14). -/
def entryPart : Option Entry → List Datum
  | none => [.u32 0]
  | some e => [.u32 e.tag, .u16 e.cabin, .u8 e.group, Datum.flag e.hold, Datum.flag e.priority, Datum.flag e.oversize]

/-- The tray part of MGET. -/
def trayPart : Option (Nat × Tray) → List Datum
  | none => [Datum.opt16 none]
  | some (k, t) => [.u16 k, .u8 t.state.code, .u8 t.lap, Datum.opt8 t.zone, reasonDatum t.reason, Datum.opt8 t.target]

/-- The cart part of MGET. -/
def cartPart : Option (Nat × Nat × CartEntry) → List Datum
  | none => [Datum.opt8 none]
  | some (j, serial, e) => [.u8 j, .u16 serial, .u8 e.status.code, Datum.flag e.amended]

/-- A stray record's state: 1 OPEN, 2 RESOLVED. -/
def StrayRec.stateCode (r : StrayRec) : Nat := if r.resolved then 2 else 1

/-- The stray part of MGET. -/
def strayPart : Option StrayRec → List Datum
  | none => [.u16 0]
  | some r => [.u16 r.serial, .u8 r.stateCode, .u8 r.reason.code]

/-- Nothing holds the tag (R72). -/
def State.tagNowhere (s : State) (tag : Nat) : Bool :=
  (s.manifest.find tag).isNone && (s.trayOfTag tag).isNone && (s.cartOfTag tag).isNone && (s.strays.find tag).isNone

/-- The results of MGET (R72). -/
def State.mgetParts (s : State) (tag : Nat) : List Datum :=
  entryPart (s.manifest.find tag) ++ trayPart (s.trayOfTag tag) ++ cartPart (s.cartOfTag tag) ++
    strayPart (s.strays.find tag)

/-- MGET (R72). -/
def serveMget (arg : Option Nat) (s : State) : Served :=
  match arg with
  | none => refuse .range s
  | some tag =>
    if tagOk tag = false then refuse .range s
    else if s.tagNowhere tag then refuse .notFound s
    else doneWith (s.mgetParts tag) s

/-- MGET. -/
def execMget (hdr : ReqHdr) (arg : Option Nat) (s : State) : Host.Outcome State Fault Refusal :=
  serve hdr (.mget arg) (serveMget arg) s

/-! ## SRD (R155) -/

/-- A record of a reply, every field of R146; the reason by the code of R83's row (DEDUCED, log 35). -/
def StrayRec.data (r : StrayRec) : List Datum :=
  [.u16 r.serial, .u32 r.tag, .u32 r.tag2, .u8 r.reason.code, .u16 r.tray, .u8 r.lap, .u8 r.chute, .u32 r.second,
    .u8 r.repeats, .u8 r.stateCode, .u32 r.resolvedTag, .u16 r.resolvedCabin]

/-- Records of one SRD reply: no more than fit a frame (R155, log 15). -/
def strayPage : Nat := 8

/-- The records from the one that bears a serial onward; all of them from serial 0; none when no record bears it (R155). -/
def StrayList.pageFrom (l : StrayList) (serial : Nat) : Option (List StrayRec) :=
  if serial = 0 then some l.recs
  else if l.recs.any (fun r => r.serial == serial) then some (l.recs.dropWhile (fun r => r.serial != serial))
  else none

/-- The number of OPEN records (R155, R160). -/
def StrayList.openCount (l : StrayList) : Nat := (l.recs.filter (fun r => !r.resolved)).length

/-- The results of SRD for a page that begins a list of records (R155). -/
def StrayList.pageData (l : StrayList) (page : List StrayRec) (n : Nat) : List Datum :=
  .u8 (page.take n).length :: (page.take n).flatMap StrayRec.data ++
    [.u16 l.recs.length, .u16 l.openCount, .u16 (((page.drop n).head?.map StrayRec.serial).getD 0)]

/-- SRD (R155). -/
def serveSrd (arg : Option SrdArg) (s : State) : Served :=
  match arg with
  | none => refuse .range s
  | some a =>
    if a.count = 0 ∨ 16 < a.count then refuse .range s
    else
      match s.strays.pageFrom a.serial with
      | none => refuse .notFound s
      | some page => doneWith (s.strays.pageData page (min strayPage a.count)) s

/-- SRD. -/
def execSrd (hdr : ReqHdr) (arg : Option SrdArg) (s : State) : Host.Outcome State Fault Refusal :=
  serve hdr (.srd arg) (serveSrd arg) s

/-! ## SRES (R71, R156) -/

/-- Another record than the one named holds the tag (R156). -/
def StrayList.heldByOther (l : StrayList) (serial tag : Nat) : Bool :=
  l.recs.any (fun r => r.serial != serial && r.holds tag)

/-- The record that bears this serial, if one does, becomes RESOLVED (R156, log 37). -/
def resolveRecord (serial tag cabin : Nat) (s : State) : State :=
  withStrays
    { s.strays with recs := updateFirst (fun r => r.serial == serial) (StrayRec.resolve tag cabin) s.strays.recs } s

/-- The entry that SRES inserts (R71). -/
def strayEntry (tag cabin : Nat) : Entry :=
  { tag := tag, cabin := cabin, group := 0, hold := false, priority := false, oversize := false }

/-- The manifest change of SRES and the marking of the record (R71, R156): results 1 inserted, 2 amended. Where a stray fire that the amend set off has removed the record, the reply is the same and no record is marked (DESIGN CHOICE, log 37). -/
def resolveStray (a : SresArg) (s : State) : Served :=
  if s.mode = .idle then refuse .mode s
  else if tagOk a.tag = false ∨ Config.cabinMax < a.cabin then refuse .range s
  else
    match s.manifest.live a.tag with
    | some (key, e) =>
      doneWith [.u8 2]
        (resolveRecord a.serial a.tag a.cabin
          (handAmend e.cabin a.cabin a.tag (withManifest (s.manifest.amendAt key { e with cabin := a.cabin }) s)))
    | none =>
      match insertEntry (strayEntry a.tag a.cabin) s with
      | some s1 => doneWith [.u8 1] (resolveRecord a.serial a.tag a.cabin s1)
      | none => refuse .full s

/-- SRES (R156): the record checks, then the mode (R190). A payload too short is refused with RANGE before them, in every mode (DEDUCED, log 13). -/
def serveSres (arg : Option SresArg) (s : State) : Served :=
  match arg with
  | none => refuse .range s
  | some a =>
    if a.serial = 0 then refuse .range s
    else if s.strays.recs.any (fun r => r.serial == a.serial) = false then refuse .notFound s
    else if s.strays.heldByOther a.serial a.tag then refuse .duplicate s
    else resolveStray a s

/-- SRES. -/
def execSres (hdr : ReqHdr) (arg : Option SresArg) (s : State) : Host.Outcome State Fault Refusal :=
  serve hdr (.sres arg) (serveSres arg) s

/-! ## SDEL (R157) -/

/-- SDEL (R157). -/
def serveSdel (arg : Option Nat) (s : State) : Served :=
  match arg with
  | none => refuse .range s
  | some serial =>
    if serial = 0 then refuse .range s
    else if s.strays.recs.any (fun r => r.serial == serial) then
      doneWith [] (withStrays { s.strays with recs := s.strays.recs.eraseP (fun r => r.serial == serial) } s)
    else refuse .notFound s

/-- SDEL. -/
def execSdel (hdr : ReqHdr) (arg : Option Nat) (s : State) : Host.Outcome State Fault Refusal :=
  serve hdr (.sdel arg) (serveSdel arg) s

end Sys2Proof.Machine
end

