-- ==== Sys2Proof/Machine/Reports.lean ====
section
/-! DEFINITION. The rows of CCMD, CRD and STAT: chute commands and reports of the part's state (sections 7.8, 7.10, 11.3). -/

namespace Sys2Proof.Machine

open Sys2Proof

/-! ## CCMD (R139 to R142) -/

/-- The checks of CCMD before its action: the mode, the chute number, the chute table (section 7.8). -/
def commandChute (j : Nat) (action : Nat → Chute → State → Served) (s : State) : Served :=
  if s.mode = .idle then refuse .mode s
  else if 63 < j then refuse .range s
  else
    match s.chute? j with
    | none => refuse .notFound s
    | some c => action j c s

/-- CCMD OPEN by chute state (R139); the reply to an opening carries the new cart serial. -/
def openCommand (j : Nat) (c : Chute) (s : State) : Served :=
  match c.state with
  | .closed => if c.report = .none then doneWith [.u16 s.carts.nextSerial] (openWithCart j s) else refuse .busy s
  | .opened => doneWith [] s
  | .full => doneWith [] s
  | .swap => refuse .busy s
  | .faulted => refuse .busy s

/-- CCMD CLOSE (R140). -/
def closeCommand (j : Nat) (c : Chute) (s : State) : Served := doneWith [] (closeChute j c s)

/-- CCMD FORCE_CLOSE: as COUT where the chute has a current cart, BUSY otherwise (R141). -/
def forceCommand (j : Nat) (c : Chute) (s : State) : Served :=
  if c.hasCart then doneWith [] (cartOut j c s) else refuse .busy s

/-- CCMD CLEAR_FAULT (R142). -/
def clearCommand (j : Nat) (c : Chute) (s : State) : Served := doneWith [] (clearFault j c s)

/-- CCMD OPEN, and a CCMD whose action is none of the four or is missing (R139, log 13). -/
def serveCcmdOpen (arg : ActionArg) (s : State) : Served :=
  match arg with
  | .of j => commandChute j openCommand s
  | .short => if s.mode = .idle then refuse .mode s else refuse .range s
  | .badAction _ => if s.mode = .idle then refuse .mode s else refuse .range s

/-- CCMD OPEN. -/
def execCcmdOpen (hdr : ReqHdr) (arg : ActionArg) (s : State) : Host.Outcome State Fault Refusal :=
  serve hdr (.ccmdOpen arg) (serveCcmdOpen arg) s
/-- CCMD CLOSE. -/
def execCcmdClose (hdr : ReqHdr) (chute : Nat) (s : State) : Host.Outcome State Fault Refusal :=
  serve hdr (.ccmdClose chute) (commandChute chute closeCommand) s
/-- CCMD FORCE_CLOSE. -/
def execCcmdForceClose (hdr : ReqHdr) (chute : Nat) (s : State) : Host.Outcome State Fault Refusal :=
  serve hdr (.ccmdForceClose chute) (commandChute chute forceCommand) s
/-- CCMD CLEAR_FAULT. -/
def execCcmdClearFault (hdr : ReqHdr) (chute : Nat) (s : State) : Host.Outcome State Fault Refusal :=
  serve hdr (.ccmdClearFault chute) (commandChute chute clearCommand) s

/-! ## Codes of states in replies (R185) -/

/-- A chute state's code, in the order of R120's row. -/
def ChuteState.code : ChuteState → Nat
  | .closed => 1
  | .opened => 2
  | .full => 3
  | .swap => 4
  | .faulted => 5

def ReportState.code : ReportState → Nat
  | .none => 1
  | .waiting => 2
  | .queued => 3

def RouteKind.code : RouteKind → Nat
  | .deck => 1
  | .stray => 2

def TrackState.code : TrackState → Nat
  | .unconfigured => 1
  | .unsynced => 2
  | .tracking => 3
  | .lost => 4

/-- An optional state in a reply: 0 for none. -/
def priorDatum (p : Option ChuteState) : Datum := .u8 ((p.map ChuteState.code).getD 0)

/-- A list in a reply: its count in one byte, then its items (R185). -/
def listData {α : Type} (f : α → List Datum) (l : List α) : List Datum := .u8 l.length :: l.flatMap f

/-- ARMED or DISARMED (R14). -/
def monDatum (m : Option Monitor) : Datum := .u8 (if m.isSome then 1 else 2)

/-! ## CRD (R144) -/

/-- An order, a confirmation and an entry in CRD's reply. -/
def Order.data (o : Order) : List Datum := [.u16 o.tray, .u16 o.seq, .u8 o.kind.code, .u32 o.tag]
def Confirmation.data (a : Confirmation) : List Datum := [.u16 a.tray, .u16 a.seq, .u16 a.serial]
def CartEntry.data (e : CartEntry) : List Datum :=
  [.u32 e.tag, .u16 e.cabin, .u16 e.tray, .u16 e.seq, .u8 e.status.code, Datum.flag e.amended]

/-- CRD's results (R144). -/
def Chute.crdData (c : Chute) (first : Nat) : List Datum :=
  [.u8 c.state.code, priorDatum c.prior, .u8 c.cfg.capacity, .u8 c.count, .u16 (c.serial.getD 0), Datum.flag c.present,
    .u8 c.report.code] ++
    listData Order.data c.queue ++ listData Confirmation.data c.awaiting ++
    listData CartEntry.data ((c.cart.drop first).take 8) ++ [.u8 c.cart.length]

/-- CRD (R144). -/
def serveCrd (arg : Option CrdArg) (s : State) : Served :=
  match arg with
  | none => refuse .range s
  | some a =>
    if 63 < a.chute ∨ 254 < a.first then refuse .range s
    else
      match s.chute? a.chute with
      | none => refuse .notFound s
      | some c => doneWith (c.crdData a.first) s

/-- CRD. -/
def execCrd (hdr : ReqHdr) (arg : Option CrdArg) (s : State) : Host.Outcome State Fault Refusal :=
  serve hdr (.crd arg) (serveCrd arg) s

/-! ## STAT (R191) -/

/-- SESSION: R161, R160, R199. -/
def State.sessionPart (s : State) : List Datum :=
  [.u8 s.mode.code, .u16 s.session.voyage, .u32 s.session.clock] ++
    (if s.mode = .draining then [.u16 s.inFlightCount] else []) ++
    [.u16 s.strays.recs.length, .u16 s.strays.openCount, .u16 s.strays.lost,
      .u8 (if s.strays.policy = .keepOldest then 1 else 2), .u16 s.strays.nextSerial] ++
    [.u8 s.mgmt.requests.length, .u8 s.mgmt.replies.length, .u8 s.mgmt.notices.length, .u16 s.mgmt.dropped,
      .u16 s.mgmt.replyLost]

/-- The STOP latch in TRACKER: set, its cause, the chute of CHUTE_FAULT and e of DRIFT (R20, log 14). -/
def latchData : Option StopCause → List Datum
  | none => [Datum.flag false, .u8 0, Datum.opt8 none, .s32 0]
  | some (.drift e) => [Datum.flag true, .u8 2, Datum.opt8 none, .s32 e]
  | some (.chuteFault j) => [Datum.flag true, .u8 4, Datum.opt8 (some j), .s32 0]
  | some .encoder => [Datum.flag true, .u8 1, Datum.opt8 none, .s32 0]
  | some .linkDown => [Datum.flag true, .u8 3, Datum.opt8 none, .s32 0]
  | some .sstp => [Datum.flag true, .u8 5, Datum.opt8 none, .s32 0]

/-- TRACKER: R20, with T and P as the geometry (R191, log 14). -/
def State.trackerPart (s : State) : List Datum :=
  [.u8 s.tracker.state.code, .u32 s.tracker.disp, .u16 s.tracker.speed, .s32 s.tracker.homeCorrection] ++
    latchData s.tracker.latch ++
    [.u8 (if s.stopLevel then 1 else 2), Datum.flag s.tracker.stopOut, Datum.flag s.tracker.stopIn,
      .u16 s.tracker.speedClamps, .u16 s.tracker.archClamped] ++
    s.lines.map (fun l => .u16 l.clamped) ++
    [.u16 ((s.tracker.geo.map Geometry.trays).getD 0), .u16 ((s.tracker.geo.map Geometry.pitch).getD 0)]

/-- A line state with what goes with it (R43). -/
def lineStateData : LineState → List Datum
  | .free => [.u8 1]
  | .held t1 t2 => [.u8 2, .u32 t1, .u32 t2]
  | .reserved k t1 t2 => [.u8 3, .u16 k, .u32 t1, .u32 t2]
  | .launched k t1 t2 => [.u8 4, .u16 k, .u32 t1, .u32 t2]

/-- Whether an IREF is unsent, with its reason (R43). -/
def irefData (r : Option Iref) : List Datum := [Datum.flag r.isSome, .u8 ((r.map (fun x => x.reason.code)).getD 0)]

/-- One line of LINES (R43). -/
def State.lineData (s : State) (i : Nat) (l : Line) : List Datum :=
  [Datum.flag (l.cfg.any (fun c => c.enable))] ++ lineStateData l.state ++ listData (fun k => [.u16 k]) l.bar ++
    irefData (s.link.irefs.find? (fun r => r.line == i)) ++ [.u16 l.clamped]

/-- LINES: R43. -/
def State.linesPart (s : State) : List Datum := s.lines.zipIdx.flatMap (fun x => s.lineData x.2 x.1)

/-- ARCH: R49. -/
def State.archPart (s : State) : List Datum :=
  [.u16 s.arch.sent, .u16 s.arch.missed, .u16 s.arch.replaced, .u16 s.arch.stale, .u16 s.arch.rejected,
    .u16 s.arch.skipped, .u8 (s.arch.lapLimit.getD 0), Datum.opt16 s.arch.outstanding, monDatum s.arch.mon,
    Datum.opt16 (s.arch.mon.map Monitor.tray), .u16 s.tracker.archClamped]

/-- The rebuild state, and the scan point while RUNNING (R79). -/
def rebuildData : Option Rebuild → List Datum
  | none => [.u8 1]
  | some r => [.u8 2, .u16 r.scanPoint]

/-- MANIFEST: R79. -/
def Manifest.statPart (m : Manifest) : List Datum :=
  [.u16 m.entries.length, .u16 m.fullBuckets, .u16 m.stickyCells, .u16 m.nonzeroCells] ++ rebuildData m.rebuild ++
    [.u32 m.lookups, .u32 m.filterAbsent, .u32 m.filterFalse, .u16 m.rebuildsDone, .u16 m.rebuildsAbandoned]

/-- A staging list: CLOSED or OPEN, and its staged count (R93, R145). -/
def stagingData (n : Nat) : List Datum := [.u8 (if n = 0 then 1 else 2), .u8 n]

/-- ROUTES: R98, R93, and the tallies of up to 32 rules (R191). -/
def Router.statPart (r : Router) (first : Nat) : List Datum :=
  [.u16 r.defaults, .u16 r.straySets, .u16 r.blocked, .u16 r.drainReplaced, Datum.flag r.zonesLoaded,
    Datum.flag r.rulesLoaded] ++
    stagingData r.staging.length ++
    listData (fun x : Rule => [.u16 x.taken, .u16 x.passed]) ((r.rules.drop first).take 32)

/-- One configured chute of CHUTES: R145, then R119's values not already given (log 14). -/
def Chute.statData (c : Chute) : List Datum :=
  [.u8 c.state.code, priorDatum c.prior, .u8 c.cfg.capacity, .u8 c.cfg.watermark, .u8 c.count, .u8 c.queued,
    .u16 (c.serial.getD 0), Datum.flag c.present, .u8 c.report.code, .u8 c.awaiting.length, .u16 c.fired, .u16 c.missed,
    .u16 c.shadow, .u16 c.clamped, .u16 c.unexpected, .u16 c.timedOut, Datum.opt16 (c.queue.head?.map Order.tray),
    .u16 ((c.queue.head?.map Order.seq).getD 0), monDatum c.mon, Datum.opt16 (c.mon.map Monitor.lead)]

/-- One chute of CHUTES: configured or not, and its values where it is. -/
def State.chuteData (s : State) (j : Nat) : List Datum :=
  match s.chute? j with
  | some c => Datum.flag true :: c.statData
  | none => [Datum.flag false]

/-- The numbers of up to 4 chutes from the first (R191). -/
def chuteRange (first : Nat) : List Nat := ((List.range 64).drop first).take 4

/-- CHUTES: R145, R119 (R191). -/
def State.chutesPart (s : State) (first : Nat) : List Datum :=
  [Datum.flag s.carts.loaded] ++ stagingData s.carts.staging.length ++
    [.u16 s.carts.slotsUsed, .u8 s.carts.reports.length, .u8 s.carts.waiting.length, .u16 s.carts.nextSerial,
      .u16 s.carts.rejected] ++
    [.u16 s.sched.nextSeq, .u16 s.sched.cancelled, .u16 s.sched.tooLate, .u16 s.sched.withdrawn, .u16 s.sched.queueFull] ++
    listData s.chuteData (chuteRange first)

/-- LINK: R186; the ports in the order UP, DOWN, the forward queues toward DOWN, then toward UP (log 14). -/
def Link.statPart (l : Link) : List Datum :=
  [.u8 l.own, .u8 (l.host.getD 0), .u8 l.up.state.code, .u8 l.down.state.code, .u8 l.down.forward.length,
    .u8 l.up.forward.length, .u8 l.timing.length, .u8 l.irefs.length, .u16 l.up.formatErrors, .u16 l.up.checkErrors,
    .u16 l.down.formatErrors, .u16 l.down.checkErrors, .u16 l.down.forwardDropped, .u16 l.up.forwardDropped,
    .u16 l.selfCount, .u16 l.kindRejected, .u16 l.wrongPort, .u16 l.foreign, .u16 l.timingDiscarded]

/-- The parts of STAT: 1 SESSION, 2 TRACKER, 3 LINES, 4 ARCH, 5 MANIFEST, 6 ROUTES, 7 CHUTES, 8 LINK (R191). -/
def State.statPart (s : State) (a : StatArg) : Option (List Datum) :=
  match a.part with
  | 1 => some (.u8 1 :: Datum.opt8 none :: s.sessionPart)
  | 2 => some (.u8 2 :: Datum.opt8 none :: s.trackerPart)
  | 3 => some (.u8 3 :: Datum.opt8 none :: s.linesPart)
  | 4 => some (.u8 4 :: Datum.opt8 none :: s.archPart)
  | 5 => some (.u8 5 :: Datum.opt8 none :: s.manifest.statPart)
  | 6 => if a.first ≤ 63 then some (.u8 6 :: .u8 a.first :: s.router.statPart a.first) else none
  | 7 => if a.first ≤ 63 then some (.u8 7 :: .u8 a.first :: s.chutesPart a.first) else none
  | 8 => some (.u8 8 :: Datum.opt8 none :: s.link.statPart)
  | _ => none

/-- STAT (R191). -/
def serveStat (arg : Option StatArg) (s : State) : Served :=
  match arg with
  | none => refuse .range s
  | some a =>
    match s.statPart a with
    | some d => doneWith d s
    | none => refuse .range s

/-- STAT. -/
def execStat (hdr : ReqHdr) (arg : Option StatArg) (s : State) : Host.Outcome State Fault Refusal :=
  serve hdr (.stat arg) (serveStat arg) s

/-! ## The tick of the time base (log 3) -/

/-- Takes a time-driven event if it is due. -/
def whenDue (due : Bool) (event : State → State) (s : State) : State := if due then event s else s

/-- The confirmations of chute j that have run out, oldest first (R129). -/
def expireDue (j : Nat) (s : State) : State :=
  match s.chute? j with
  | none => s
  | some c => (c.awaiting.filter (fun a => decide (a.expiry ≤ s.now))).foldl (fun s _ => expireOldest j s) s

/-- The time-driven events of one port that are due (R175, R176). -/
def portDue (p : PortId) (s : State) : State :=
  match (s.port p).state with
  | .up =>
    whenDue
      ((s.port p).lastSent + Config.tenMs ≤ s.now && (s.port p).state == .up) (idleSend p)
      (whenDue ((s.port p).lastValid + Config.linkLoss ≤ s.now) (linkTimeout p) s)
  | .down => whenDue ((s.port p).since + Config.holdOff ≤ s.now) (holdoffEnd p) s
  | .training => whenDue ((s.port p).trainFrom + Config.tenMs ≤ s.now) (trainingSend p) s

/-- One tick of 0.1 ms: the time base advances, then the time-driven events that are due are taken in this order: the bucket scan, the speed sample, the session clock, the confirmations chute by chute, the two ports (DESIGN CHOICE, log 3). -/
def tick (s : State) : State :=
  let s0 := { s with now := s.now + 1 }
  let s1 := bucketScan s0
  let s2 := whenDue (s1.tracker.windowStart + Config.tenMs ≤ s1.now) speedSample s1
  let s3 := whenDue (s2.session.secondStart + Config.second ≤ s2.now) clockTick s2
  let s4 := (List.range s3.carts.chutes.length).foldl (fun s j => expireDue j s) s3
  settle (portDue .down (portDue .up s4))

end Sys2Proof.Machine
end

