-- ==== Sys2Proof/Machine/Dispatch.lean ====
section
/-! DEFINITION. The dispatch of a command to its meaning: one arm per constructor of Instr. -/

namespace Sys2Proof.Machine

open Sys2Proof

def exec (i : Instr) (s : State) : Host.Outcome State Fault Refusal :=
  match i with
  | .encoderStep phase => Sys2Proof.Machine.execEncoderStep phase s
  | .homePulse => Sys2Proof.Machine.execHomePulse s
  | .stopLevelChange held => Sys2Proof.Machine.execStopLevelChange held s
  | .powerOnReset straps => Sys2Proof.Machine.execPowerOnReset straps s
  | .speedSample => Sys2Proof.Machine.execSpeedSample s
  | .sessionClockTick => Sys2Proof.Machine.execSessionClockTick s
  | .confirmationExpiry chute => Sys2Proof.Machine.execConfirmationExpiry chute s
  | .bucketScan => Sys2Proof.Machine.execBucketScan s
  | .frameReceived port broken bytes => Sys2Proof.Machine.execFrameReceived port broken bytes s
  | .trainingFrame port => Sys2Proof.Machine.execTrainingFrame port s
  | .idleFrame port => Sys2Proof.Machine.execIdleFrame port s
  | .linkTimeout port => Sys2Proof.Machine.execLinkTimeout port s
  | .linkHoldoffEnd port => Sys2Proof.Machine.execLinkHoldoffEnd port s
  | .trainingSend port => Sys2Proof.Machine.execTrainingSend port s
  | .idleSend port => Sys2Proof.Machine.execIdleSend port s
  | .downFrameTransmitted => Sys2Proof.Machine.execDownFrameTransmitted s
  | .upFrameTransmitted => Sys2Proof.Machine.execUpFrameTransmitted s
  | .brdy src body => Sys2Proof.Machine.execBrdy src body s
  | .ldon src body => Sys2Proof.Machine.execLdon src body s
  | .tscn src body => Sys2Proof.Machine.execTscn src body s
  | .ceye src chute => Sys2Proof.Machine.execCeye src chute s
  | .cout src chute => Sys2Proof.Machine.execCout src chute s
  | .cin src chute => Sys2Proof.Machine.execCin src chute s
  | .cflt src chute => Sys2Proof.Machine.execCflt src chute s
  | .cclr src chute => Sys2Proof.Machine.execCclr src chute s
  | .requestIntake hdr request => Sys2Proof.Machine.execRequestIntake hdr request s
  | .stat hdr arg => Sys2Proof.Machine.execStat hdr arg s
  | .modeOpen hdr arg => Sys2Proof.Machine.execModeOpen hdr arg s
  | .modeShadow hdr => Sys2Proof.Machine.execModeShadow hdr s
  | .modeSetup hdr => Sys2Proof.Machine.execModeSetup hdr s
  | .modeSort hdr => Sys2Proof.Machine.execModeSort hdr s
  | .modeDrain hdr => Sys2Proof.Machine.execModeDrain hdr s
  | .modeClose hdr => Sys2Proof.Machine.execModeClose hdr s
  | .lcfg hdr arg => Sys2Proof.Machine.execLcfg hdr arg s
  | .ccfg hdr arg => Sys2Proof.Machine.execCcfg hdr arg s
  | .zload hdr arg => Sys2Proof.Machine.execZload hdr arg s
  | .rload hdr arg => Sys2Proof.Machine.execRload hdr arg s
  | .rset hdr arg => Sys2Proof.Machine.execRset hdr arg s
  | .mput hdr arg => Sys2Proof.Machine.execMput hdr arg s
  | .mdel hdr arg => Sys2Proof.Machine.execMdel hdr arg s
  | .mget hdr arg => Sys2Proof.Machine.execMget hdr arg s
  | .hold hdr arg => Sys2Proof.Machine.execHold hdr arg s
  | .rlse hdr arg => Sys2Proof.Machine.execRlse hdr arg s
  | .fbld hdr => Sys2Proof.Machine.execFbld hdr s
  | .ccmdOpen hdr arg => Sys2Proof.Machine.execCcmdOpen hdr arg s
  | .ccmdClose hdr chute => Sys2Proof.Machine.execCcmdClose hdr chute s
  | .ccmdForceClose hdr chute => Sys2Proof.Machine.execCcmdForceClose hdr chute s
  | .ccmdClearFault hdr chute => Sys2Proof.Machine.execCcmdClearFault hdr chute s
  | .tcmdDisable hdr arg => Sys2Proof.Machine.execTcmdDisable hdr arg s
  | .tcmdEnable hdr tray => Sys2Proof.Machine.execTcmdEnable hdr tray s
  | .crd hdr arg => Sys2Proof.Machine.execCrd hdr arg s
  | .srd hdr arg => Sys2Proof.Machine.execSrd hdr arg s
  | .sres hdr arg => Sys2Proof.Machine.execSres hdr arg s
  | .sdel hdr arg => Sys2Proof.Machine.execSdel hdr arg s
  | .sstp hdr => Sys2Proof.Machine.execSstp hdr s
  | .clrs hdr => Sys2Proof.Machine.execClrs hdr s
  | .lrst hdr => Sys2Proof.Machine.execLrst hdr s
  | .bothPhasesChangeTogether => Sys2Proof.Machine.execBothPhases s

end Sys2Proof.Machine
end

