-- ==== Sys2Proof/Safety.lean ====
section
/-! DEFINITION. What the statements speak of: how a command completes, and the laws that every step keeps. -/

namespace Sys2Proof.Machine

open Sys2Proof

/-! ## How a command completes -/

/-- Command c completes in s: its own changes lead to t, and the arbiters of the two ports then begin what free transmitters may send. -/
def Leads (c : Instr) (s t : State) : Prop := exec c s = .next (settle t)

/-- A request whose turn has come completes: its changes lead to t, and its reply with this status and these results joins the reply list. -/
def Answers (c : Instr) (hdr : ReqHdr) (r : Request) (s : State) (status : Status) (results : List Datum) (t : State) :
    Prop := Leads c s (pushReply hdr r status results t)

/-- A notice stamped with the session second. -/
def State.stamp (s : State) (n : Notice) : Notice := { n with second := s.session.clock }

/-- Port p at a tick leads from s to t: at an UP port the loss of the link 50 ms after the last valid frame, and else an IDLE frame 10 ms after the last transmission; in DOWN the end of the hold-off after 100 ms; in TRAINING a training frame each 10 ms (R175, R176; taken so at a tick, log 3). -/
def PortTicked (p : PortId) (s t : State) : Prop :=
  ((s.link.port p).state = .up →
    (s.now < (s.link.port p).lastValid + 500 →
      t = if (s.link.port p).lastSent + 100 ≤ s.now then idleSend p s else s) ∧
    ((s.link.port p).lastValid + 500 ≤ s.now → t = linkTimeout p s)) ∧
  ((s.link.port p).state = .down → t = if (s.link.port p).since + 1000 ≤ s.now then holdoffEnd p s else s) ∧
  ((s.link.port p).state = .training → t = if (s.link.port p).trainFrom + 100 ≤ s.now then trainingSend p s else s)

/-- The changes of one phase that move the pair one place along the forward order of section 1.2. -/
def forwardSteps : List (Bool × Bool × EncPhase) :=
  [(false, false, .a), (true, false, .b), (true, true, .a), (false, true, .b)]

/-- No approach monitor is armed. -/
def State.NoneArmed (s : State) : Prop :=
  s.arch.mon = none ∧ (∀ l ∈ s.lines, l.mon = none) ∧ (∀ c ∈ s.carts.chutes, c.mon = none)

/-! ## Frames -/

/-- What no operation of a monitor, a line, a pass, a fire or a cancellation changes; notices only join the queue's tail. -/
structure Kept (s t : State) : Prop where
  pins : t.pins = s.pins
  now : t.now = s.now
  free : t.free = s.free
  pending : t.pending = s.pending
  tracker : { t.tracker with archClamped := s.tracker.archClamped } = s.tracker
  link : { t.link with timing := s.link.timing, irefs := s.link.irefs } = s.link
  mgmt : { t.mgmt with notices := s.mgmt.notices, dropped := s.mgmt.dropped } = s.mgmt
  notices : s.mgmt.notices <+: t.mgmt.notices
  entries : t.manifest.entries = s.manifest.entries
  filter : t.manifest.filter = s.manifest.filter
  rebuild : t.manifest.rebuild = s.manifest.rebuild

/-! ## Withdrawn DROP frames (R111) -/

/-- A DROP that waits in the timing queue: its tray, order sequence, cart serial and tag. -/
structure WaitingDrop where
  tray : Nat
  seq : Nat
  serial : Nat
  tag : Nat
  deriving DecidableEq, Repr

/-- The DROP frames that wait for chute j, in queue order. -/
def State.dropsFor (s : State) (j : Nat) : List WaitingDrop :=
  s.link.timing.filterMap (fun f =>
    match f.body with
    | .drop i k _ seq serial tag => if i = j then some { tray := k, seq := seq, serial := serial, tag := tag } else none
    | _ => none)

/-- The cart list of an eyeless chute after these drops are withdrawn: the entry of each leaves the list while its cart is current (R111, R131). -/
def Chute.undone (c : Chute) (drops : List WaitingDrop) : List CartEntry :=
  drops.foldl
    (fun l x =>
      if c.hasCart = true ∧ c.serial = some x.serial then l.eraseP (fun e => e.tray == x.tray && e.seq == x.seq) else l)
    c.cart

/-- The awaiting list of a chute with an eye after these drops are withdrawn: the confirmation of each ends (R111). -/
def Chute.unawaited (c : Chute) (drops : List WaitingDrop) : List Confirmation :=
  drops.foldl (fun l x => l.eraseP (fun a => a.tray == x.tray && a.seq == x.seq)) c.awaiting

/-- A chute whose orders are cancelled and whose waiting drops are withdrawn, with the FULL test (R111, R112, R124; made where no order was cancelled too, log 39). -/
def Chute.emptied (c : Chute) (drops : List WaitingDrop) : Chute :=
  let cart := if c.cfg.confirm = 0 then c.undone drops else c.cart
  { c with
    queue := []
    mon := none
    cart := cart
    awaiting := if c.cfg.confirm = 0 then c.awaiting else c.unawaited drops
    state :=
      if c.state = .opened ∨ c.state = .full then (if cart.length < c.cfg.capacity then .opened else .full) else c.state }

/-- A drop of tray k that is withdrawn ends a confirmation of its chute (R111). -/
def State.Doubted (s : State) (k : Nat) : Prop :=
  ∃ (j : Nat) (c : Chute), s.carts.chutes[j]? = some c ∧ c.cfg.confirm ≠ 0 ∧
    ∃ x ∈ s.dropsFor j, x.tray = k ∧ ∃ a ∈ c.awaiting, a.tray = k ∧ a.seq = x.seq

/-- What leaving TRACKING for LOST, or the DOWN port's leaving UP, takes away: every armed monitor, every order with its ROUTED tray, every waiting DROP with its confirmation or its cart entry, every reservation with its RESERVED tray (R8, R41, R111, R114, R131, R183). Every other tray stands. -/
structure Emptied (s t : State) : Prop where
  monitors : t.NoneArmed
  orders : ∀ c ∈ t.carts.chutes, c.queue = []
  drops : ∀ f ∈ t.link.timing, f.body.isDrop = false
  carts : t.carts = { s.carts with chutes := s.carts.chutes.mapIdx (fun j c => c.emptied (s.dropsFor j)) }
  sched :
    t.sched =
      { s.sched with
        cancelled := Nat.repeat (satInc 65535) (s.carts.chutes.map (fun c => c.queue.length)).sum s.sched.cancelled
        withdrawn := Nat.repeat (satInc 65535) (s.link.timing.filter (fun f => f.body.isDrop)).length s.sched.withdrawn }
  routed :
    ∀ c ∈ s.carts.chutes, ∀ o ∈ c.queue, ∀ x, s.trays[o.tray]? = some x → x.state = .routed →
      t.trays[o.tray]? = some { x with state := .recirculate, target := none, seq := none }
  unordered :
    ∀ (k : Nat) (x : Tray), s.trays[k]? = some x → x.state = .routed →
      (∀ c ∈ s.carts.chutes, ∀ o ∈ c.queue, o.tray ≠ k) → t.trays[k]? = some x
  dropping :
    ∀ (k : Nat) (x : Tray), s.trays[k]? = some x → x.state = .dropping →
      (s.Doubted k → t.trays[k]? = some { x with state := .doubt }) ∧ (¬ s.Doubted k → t.trays[k]? = some x)
  lines :
    ∀ (i : Nat) (l : Line), s.lines[i]? = some l →
      match l.state with
      | .reserved k a b =>
        t.lines[i]? = some { l with state := if s.mode = .sorting then .held a b else .free, mon := none } ∧
          (s.mode ≠ .sorting → { line := i, tag1 := a, tag2 := b, reason := .mode, begun := false } ∈ t.link.irefs) ∧
          ∀ x, s.trays[k]? = some x → x.state = .reserved → t.trays[k]? = some (Tray.blank .empty)
      | _ => t.lines[i]? = some { l with mon := none }
  unreserved :
    ∀ (k : Nat) (x : Tray), s.trays[k]? = some x → x.state = .reserved →
      (∀ l ∈ s.lines, ∀ a b, l.state ≠ .reserved k a b) → t.trays[k]? = some x
  others :
    ∀ (k : Nat) (x : Tray), s.trays[k]? = some x → x.state ≠ .routed → x.state ≠ .reserved → x.state ≠ .dropping →
      t.trays[k]? = some x
  strays : t.strays = s.strays
  undoneNotices :
    t.mgmt.notices.length < 64 →
      ∀ (j : Nat) (c : Chute) (before after : List WaitingDrop) (x : WaitingDrop), s.carts.chutes[j]? = some c →
        c.cfg.confirm = 0 → s.dropsFor j = before ++ x :: after →
        (∀ e, c.hasCart = true → c.serial = some x.serial →
          (c.undone before).find? (fun e => e.tray == x.tray && e.seq == x.seq) = some e →
          s.stamp
              { Notice.of .dropFailed with
                tray := some x.tray, tag := e.tag, chute := some j, serial := some x.serial } ∈ t.mgmt.notices) ∧
        ((c.hasCart = false ∨ c.serial ≠ some x.serial ∨
            ∀ e ∈ c.undone before, e.tray = x.tray → e.seq ≠ x.seq) →
          s.stamp
              { Notice.of .correction with
                tray := some x.tray, tag := x.tag, chute := some j, serial := some x.serial } ∈ t.mgmt.notices)

/-! ## Cancellation of a queue (R112, R113) -/

/-- Every order of a chute's queue is cancelled: CANCELLED counts each, its ROUTED tray recirculates, and no other tray changes (R112, R113). -/
def OrdersCancelled (c : Chute) (s t : State) : Prop :=
  t.sched = { s.sched with cancelled := Nat.repeat (satInc 65535) c.queue.length s.sched.cancelled } ∧
  (∀ o ∈ c.queue, ∀ x, s.trays[o.tray]? = some x → x.state = .routed →
    t.trays[o.tray]? = some { x with state := .recirculate, target := none, seq := none }) ∧
    ∀ (k : Nat) (x : Tray), s.trays[k]? = some x → ((∀ o ∈ c.queue, o.tray ≠ k) ∨ x.state ≠ .routed) →
      t.trays[k]? = some x

/-! ## Monitors that arm (R12, R44, R45, R103) -/

/-- The lead at speed v with delay d (R12). -/
def leadAt (v d : Nat) : Nat := min 65535 ((v * d + 5) / 10)

/-- A LEAD_CLAMPED tally after that lead is computed once (R12). -/
def clampedAt (v d tally : Nat) : Nat := if 65535 < (v * d + 5) / 10 then satInc 65535 tally else tally

/-- A chute with its monitor armed on the head of its queue, if the tracker is in TRACKING; disarmed with no order (R7, R12, R103). -/
def Chute.headArmed (c : Chute) (tracking : Bool) (v : Nat) : Chute :=
  match c.queue with
  | [] => { c with mon := none }
  | o :: _ =>
    if tracking then
      { c with mon := some { tray := o.tray, lead := leadAt v c.cfg.delay }, clamped := clampedAt v c.cfg.delay c.clamped }
    else { c with mon := none }

/-- The monitor of chute j, if armed, watches a tray farther away than its lead: an evaluation leaves it armed (R14). -/
def State.HeadStays (s : State) (j : Nat) : Prop :=
  ∀ (g : Geometry) (c : Chute) (m : Monitor), s.tracker.geo = some g → s.carts.chutes[j]? = some c → c.mon = some m →
    m.lead < g.approach s.tracker.disp m.tray c.cfg.loc

/-- The scan monitor armed on tray k, its lead computed and counted when clamped (R12, R44). -/
def State.scanArmed (s : State) (g : Geometry) (k : Nat) : State :=
  { s with
    arch := { s.arch with mon := some { tray := k, lead := leadAt s.tracker.speed g.archDelay } }
    tracker := { s.tracker with archClamped := clampedAt s.tracker.speed g.archDelay s.tracker.archClamped } }

/-- An evaluation leaves the scan monitor armed on tray k: the tray is farther away than the lead (R14). -/
def State.ScanStays (s : State) (g : Geometry) (k : Nat) : Prop :=
  leadAt s.tracker.speed g.archDelay < g.approach s.tracker.disp k g.archLoc

/-- Tray k is DISABLED. -/
def State.OutOfService (s : State) (k : Nat) : Prop := ∃ x, s.trays[k]? = some x ∧ x.state = .disabled

/-- Tray n is the first after tray k in number order, mod T, that is not DISABLED (R44, R45). -/
def State.Following (s : State) (k n : Nat) : Prop :=
  ∃ i, i < s.trays.length ∧ n = (k + 1 + i) % s.trays.length ∧ ¬ s.OutOfService n ∧
    ∀ h, h < i → s.OutOfService ((k + 1 + h) % s.trays.length)

/-- Tray k is the one on which a fresh arming arms the scan monitor: not DISABLED, and the nearest of those whose approach distance is at least the lead (R44). -/
def State.FreshTray (s : State) (g : Geometry) (k : Nat) : Prop :=
  k < g.trays ∧ ¬ s.OutOfService k ∧ leadAt s.tracker.speed g.archDelay ≤ g.approach s.tracker.disp k g.archLoc ∧
    ∀ x, x < g.trays → ¬ s.OutOfService x →
      leadAt s.tracker.speed g.archDelay ≤ g.approach s.tracker.disp x g.archLoc →
      g.approach s.tracker.disp k g.archLoc ≤ g.approach s.tracker.disp x g.archLoc

/-- A fresh arming of the scan monitor leads from s to t: nothing outside TRACKING, while the DOWN port is not UP, with the monitor armed, or with no tray far enough; else the monitor arms on the fresh tray and is evaluated at once (R44). -/
def FreshlyArmed (s t : State) : Prop :=
  ((s.isTracking = false ∨ s.downUp = false ∨ s.arch.mon ≠ none) → t = s) ∧
    ∀ g, s.tracker.geo = some g → 0 < g.trays * g.pitch → s.isTracking = true → s.downUp = true → s.arch.mon = none →
      ((∀ k, ¬ s.FreshTray g k) → t = s) ∧
        ∀ k, s.FreshTray g k →
          t = evalScan 0 (s.scanArmed g k) ∧ ((s.scanArmed g k).ScanStays g k → t = s.scanArmed g k)

/-! ## Passings at the induction lines (R13, R32) -/

/-- Tray k passes a location in a movement of adv steps forward from displacement d (R6, R13). -/
def Geometry.Passes (g : Geometry) (d adv loc k : Nat) : Prop :=
  k < g.trays ∧ 1 ≤ g.approach d k loc ∧ g.approach d k loc ≤ adv

/-- A line after the passings of its location: the trays that passed have left its yield bar (R32, R39). -/
def Line.passed (g : Geometry) (d adv : Nat) (l : Line) : Line :=
  match l.cfg with
  | none => l
  | some c =>
    { l with
      bar := l.bar.filter (fun k =>
        !(decide (k < g.trays) && decide (1 ≤ g.approach d k c.loc) && decide (g.approach d k c.loc ≤ adv))) }

/-- Line i is RESERVED with tray k for the tags a and b, its launch monitor armed on the tray (R12, R34). -/
def State.reserved (s : State) (i k a b : Nat) (l : Line) (c : LineCfg) : State :=
  { s with
    trays := s.trays.set k { Tray.blank .reserved with source := some i }
    lines :=
      s.lines.set i
        { l with
          state := .reserved k a b
          mon := some { tray := k, lead := leadAt s.tracker.speed c.delay }
          clamped := clampedAt s.tracker.speed c.delay l.clamped } }

/-- The trays ks pass line i, which is HELD with the tags a and b, one after another, and w is the state with its yield bar left: at each passing an attempt is made with the bar that still stands then, and the first that finds a tray reserves it (R32 to R34). -/
def PassingsTried (g : Geometry) (i a b : Nat) (l : Line) (c : LineCfg) (ks : List Nat) (w t : State) : Prop :=
  (w.mayAllocate = false → t = w) ∧
    (w.mayAllocate = true →
      ((∀ n, n < ks.length →
          w.searchTray g { l with bar := l.bar.filter (fun k => !(ks.take (n + 1)).contains k) } c = none) → t = w) ∧
        ∀ n k, n < ks.length →
          (∀ h, h < n →
            w.searchTray g { l with bar := l.bar.filter (fun k => !(ks.take (h + 1)).contains k) } c = none) →
          w.searchTray g { l with bar := l.bar.filter (fun k => !(ks.take (n + 1)).contains k) } c = some k →
          t = w.reserved i k a b { l with bar := l.bar.filter (fun k => !ks.contains k) } c)

/-- The passings of line i in a movement of adv steps forward from displacement d lead from w to t: the trays that pass leave its yield bar, and a line that is HELD makes an attempt at each, in the order of R13; nothing else changes (R13, R32, R39). -/
def LinePassings (g : Geometry) (d adv i : Nat) (w t : State) : Prop :=
  ∀ l : Line, w.lines[i]? = some l →
    ((l.cfg = none ∨ ∀ a b, l.state ≠ .held a b) → t = { w with lines := w.lines.set i (l.passed g d adv) }) ∧
    ∀ (a b : Nat) (c : LineCfg) (ks : List Nat), l.cfg = some c → l.state = .held a b →
      (∀ k, k ∈ ks ↔ g.Passes d adv c.loc k) →
      ks.Pairwise (fun x y => g.approach d y c.loc < g.approach d x c.loc) →
      PassingsTried g i a b l c ks { w with lines := w.lines.set i (l.passed g d adv) } t

/-- The passings of the first n lines lead from s to t, line by line in number order (the order, log 6). -/
def LinesPassed (g : Geometry) (d adv : Nat) : Nat → State → State → Prop
  | 0, s, t => t = s
  | n + 1, s, t => ∃ w, LinesPassed g d adv n s w ∧ LinePassings g d adv n w t

/-- A movement of adv steps forward from displacement d leads from s to t, as far as the passings go: every yield bar is left by the trays that pass its line, and each line that is HELD and passed makes its attempts, on the state that the lines before it left (R13, R32, R39; log 6). -/
def PassingsMade (g : Geometry) (d adv : Nat) (s t : State) : Prop :=
  t.lines.map Line.bar = (s.lines.map (Line.passed g d adv)).map Line.bar ∧
    ((∀ l ∈ s.lines, ∀ c a b, l.cfg = some c → l.state = .held a b → ∀ k, ¬ g.Passes d adv c.loc k) →
      t = { s with lines := s.lines.map (Line.passed g d adv) }) ∧
    LinesPassed g d adv s.lines.length s t

/-! ## Evaluations of every armed monitor (R11, R14) -/

/-- The lines whose launch monitors are armed, by number. -/
def State.launchesArmed (s : State) : List Nat :=
  (List.range s.lines.length).filter (fun i => (s.lines[i]?).any (fun l => l.mon.isSome))

/-- The chutes whose monitors are armed, by number. -/
def State.headsArmed (s : State) : List Nat :=
  (List.range s.carts.chutes.length).filter (fun j => (s.carts.chutes[j]?).any (fun c => c.mon.isSome))

/-- Every monitor that is armed in s is evaluated once after a movement of adv steps forward, and leads from w to t: the launch monitors, the scan monitor, the chute monitors, each by number (R14; the order, log 6). -/
def MonitorsEvaluated (adv : Nat) (s w t : State) : Prop :=
  ∃ x y, x = s.launchesArmed.foldl (fun u i => evalLaunch adv i u) w ∧
    y = (if s.arch.mon = none then x else evalScan adv x) ∧ t = s.headsArmed.foldl (fun u j => evalHead adv j u) y

/-- A movement of adv steps forward from displacement d leads from s to t: the passings are made, and then every monitor armed before the movement is evaluated (R3, R6, R13, R14). -/
def ChainMoved (g : Geometry) (d adv : Nat) (s t : State) : Prop :=
  t.lines.map Line.bar = (s.lines.map (Line.passed g d adv)).map Line.bar ∧
    ∃ w, PassingsMade g d adv s w ∧ MonitorsEvaluated adv s w t

/-- Line i with the lead of its launch monitor, if armed, taken anew at the current speed (R11, R12). -/
def State.launchResampled (s : State) (i : Nat) : State :=
  { s with
    lines :=
      s.lines.modify i
        (fun l =>
          match l.cfg, l.mon with
          | some c, some m =>
            { l with
              mon := some { tray := m.tray, lead := leadAt s.tracker.speed c.delay }
              clamped := clampedAt s.tracker.speed c.delay l.clamped }
          | _, _ => l) }

/-- Chute j with the lead of its monitor, if armed, taken anew at the current speed (R11, R12). -/
def State.headResampled (s : State) (j : Nat) : State :=
  { s with
    carts :=
      { s.carts with
        chutes :=
          s.carts.chutes.modify j
            (fun c =>
              match c.mon with
              | some m =>
                { c with
                  mon := some { tray := m.tray, lead := leadAt s.tracker.speed c.cfg.delay }
                  clamped := clampedAt s.tracker.speed c.cfg.delay c.clamped }
              | none => c) } }

/-- A speed sample in TRACKING, taken in u, leads to t: every armed monitor takes its lead anew and is evaluated, the launch monitors, the scan monitor, the chute monitors, each by number, and a scan monitor that is disarmed is armed afresh (R11, R12, R14, R44; the order, log 6). -/
def MonitorsResampled (u t : State) : Prop :=
  ∃ x y, x = u.launchesArmed.foldl (fun w i => evalLaunch 0 i (w.launchResampled i)) u ∧
    (u.arch.mon = none → FreshlyArmed x y) ∧
    (∀ g m, u.tracker.geo = some g → u.arch.mon = some m → y = evalScan 0 (x.scanArmed g m.tray)) ∧
    t = u.headsArmed.foldl (fun w j => evalHead 0 j (w.headResampled j)) y

/-! ## Unsent IREF frames (R31, R181) -/

/-- An IREF raised for a line leads from the unsent frames l to m: it takes the place of the line's unsent one, and joins the end where the line has none (R31, R181). -/
def IrefPlaced (r : Iref) (l m : List Iref) : Prop :=
  ((∀ x ∈ l, x.line ≠ r.line) → m = l ++ [r]) ∧
    ∀ before x after, l = before ++ x :: after → x.line = r.line → (∀ y ∈ before ++ after, y.line ≠ r.line) →
      m = before ++ r :: after

/-! ## Passes that find a bag aboard (R38, R51 to R54) -/

/-- A pass of tray k, whose record in s is x, with occupancy OCCUPIED and the scan tags n1 and n2 finds a bag aboard: the lap, the source line and the tag set with which it goes on, and the state b that its tray's own decision leaves: FOUND_BAG for an EMPTY tray, LDON_ABSENT with the line FREE for a LAUNCHING one, the entry undone for a DOUBT one (R38, R51 to R55, R131). -/
def BagAboard (s : State) (k n1 n2 : Nat) (x : Tray) (lap : Nat) (source : Option Nat) (set : List SetTag) (b : State) :
    Prop :=
  (x.state = .empty ∧ lap = 1 ∧ source = none ∧ set = tagSet 0 0 n1 n2 ∧
    b = notify { Notice.of .foundBag with tray := some k, tag := n1 } s) ∨
  (x.state = .loaded ∧ lap = 1 ∧ source = x.source ∧ set = tagSet x.tag x.tag2 n1 n2 ∧ b = s) ∨
  (x.state = .recirculate ∧ lap = min 15 (x.lap + 1) ∧ source = x.source ∧ set = tagSet x.tag x.tag2 n1 n2 ∧ b = s) ∨
  (x.state = .launching ∧ lap = 1 ∧ source = x.source ∧
    ∃ (i : Nat) (l : Line) (t1 t2 own : Nat), x.source = some i ∧ s.lines[i]? = some l ∧ l.state = .launched k t1 t2 ∧
      own = (if s.tagDoubled k none t1 then 0 else t1) ∧ set = tagSet own t2 n1 n2 ∧
      b = notify { Notice.of (.inductProtocol .ldonAbsent) with tray := some k, detail1 := (i : Nat) }
        { s with
          trays := s.trays.set k { Tray.blank .loaded with tag := own, tag2 := t2, source := some i }
          lines := s.lines.set i { l with state := .free } }) ∨
  (x.state = .doubt ∧ lap = min 15 (x.lap + 1) ∧ source = x.source ∧ set = tagSet x.tag x.tag2 n1 n2 ∧
    ∃ (j serial seq : Nat) (c : Chute), x.target = some j ∧ x.serial = some serial ∧ x.seq = some seq ∧
      s.carts.chutes[j]? = some c ∧
      ((∃ e : CartEntry, c.hasCart = true ∧ c.serial = some serial ∧
          c.cart.find? (fun e => e.tray == k && e.seq == seq) = some e ∧
          b = notify
            { Notice.of .dropFailed with tray := some k, tag := e.tag, chute := some j, serial := some serial }
            { s with
              carts :=
                { s.carts with
                  chutes :=
                    s.carts.chutes.set j
                      { c with
                        cart := c.cart.eraseP (fun e => e.tray == k && e.seq == seq)
                        state :=
                          if c.state = .opened ∨ c.state = .full then
                            (if c.cart.length - 1 + c.queue.length < c.cfg.capacity then .opened else .full)
                          else c.state } } }) ∨
        ((c.hasCart = false ∨ c.serial ≠ some serial ∨ ∀ e ∈ c.cart, e.tray = k → e.seq ≠ seq) ∧
          b = notify
            { Notice.of .correction with tray := some k, tag := x.tag, chute := some j, serial := some serial } s)))

/-! ## Routes of strays (R88, R90, R91) -/

/-- The stray set is tried for a stray of tray k: its best accepting chute, counted in STRAY_SET, or else a block with STRAY_BLOCKED and recirculation (R91). -/
def StraySetTried (k tag : Nat) (reason : StrayReason) (s : State) (y : State × Route) : Prop :=
  (∀ j, chooseChute s.carts.chutes s.router.straySet = some j →
    y = ({ s with router := { s.router with straySets := satInc 65535 s.router.straySets } }, .chute j .stray)) ∧
  (chooseChute s.carts.chutes s.router.straySet = none →
    y = ({ s with
        router := { s.router with blocked := satInc 65535 s.router.blocked }
        mgmt := s.mgmt.push (s.stamp { Notice.of (.strayBlocked reason) with tray := some k, tag := tag }) },
      .recirculate))

/-- A stray verdict of tray k is routed: by the first REASON rule that can be carried out, a RECIRCULATE of which is replaced in DRAINING by the stray set; by the stray set for a rule with action STRAY, and with no rule (R88, R90, R91). -/
def StrayRouted (k tag : Nat) (reason : StrayReason) (s : State) (y : State × Route) : Prop :=
  ∀ (scan : List Rule × Option Taken) (u : State),
    scan = scanRules s.carts.chutes (Match.fitsStray reason) s.router.rules →
    u = { s with router := { s.router with rules := scan.1 } } →
    (∀ j, scan.2 = some (.chute j) → y = (u, .chute j .stray)) ∧
    (scan.2 = some .recirculate → s.mode ≠ .draining → y = (u, .recirculate)) ∧
    (scan.2 = some .recirculate → s.mode = .draining →
      StraySetTried k tag reason
        { u with router := { u.router with drainReplaced := satInc 65535 s.router.drainReplaced } } y) ∧
    ((scan.2 = some .stray ∨ scan.2 = none) → StraySetTried k tag reason u y)

/-! ## Carts, requests and configurations -/

/-- The unit after the cart of chute j, whose record was c, is closed: its report at the tail of the report queue, or of the waiting list when that holds 8, and the record d with its list empty and its report state set (R133). -/
def CartUnit.reported (u : CartUnit) (voyage j : Nat) (c d : Chute) : CartUnit :=
  if u.reports.length < 8 then
    { u with
      reports := u.reports ++ [{ voyage := voyage, chute := j, serial := c.serial.getD 0, entries := c.cart }]
      chutes := u.chutes.set j { d with cart := [], report := .queued } }
  else
    { u with
      waiting := u.waiting ++ [{ voyage := voyage, chute := j, serial := c.serial.getD 0, entries := c.cart }]
      chutes := u.chutes.set j { d with cart := [], report := .waiting } }

/-- The unit after a new cart starts at chute j, whose record becomes OPEN (R126). -/
def CartUnit.recarted (u : CartUnit) (j : Nat) (c : Chute) : CartUnit :=
  { u with
    chutes :=
      u.chutes.set j
        { c with state := .opened, serial := some u.nextSerial, cart := [], nearFull := false, present := false }
    nextSerial := if u.nextSerial < 65535 then u.nextSerial + 1 else 1 }

/-- A request, with its source and sequence, that a command carries out; none for a command that is no request. -/
def requestOf : Instr → Option (ReqHdr × Request)
  | .stat h a => some (h, .stat a)
  | .modeOpen h a => some (h, .modeOpen a)
  | .modeShadow h => some (h, .modeShadow)
  | .modeSetup h => some (h, .modeSetup)
  | .modeSort h => some (h, .modeSort)
  | .modeDrain h => some (h, .modeDrain)
  | .modeClose h => some (h, .modeClose)
  | .lcfg h a => some (h, .lcfg a)
  | .ccfg h a => some (h, .ccfg a)
  | .zload h a => some (h, .zload a)
  | .rload h a => some (h, .rload a)
  | .rset h a => some (h, .rset a)
  | .mput h a => some (h, .mput a)
  | .mdel h a => some (h, .mdel a)
  | .mget h a => some (h, .mget a)
  | .hold h a => some (h, .hold a)
  | .rlse h a => some (h, .rlse a)
  | .fbld h => some (h, .fbld)
  | .ccmdOpen h a => some (h, .ccmdOpen a)
  | .ccmdClose h j => some (h, .ccmdClose j)
  | .ccmdForceClose h j => some (h, .ccmdForceClose j)
  | .ccmdClearFault h j => some (h, .ccmdClearFault j)
  | .tcmdDisable h a => some (h, .tcmdDisable a)
  | .tcmdEnable h k => some (h, .tcmdEnable k)
  | .crd h a => some (h, .crd a)
  | .srd h a => some (h, .srd a)
  | .sres h a => some (h, .sres a)
  | .sdel h a => some (h, .sdel a)
  | .sstp h => some (h, .sstp)
  | .clrs h => some (h, .clrs)
  | .lrst h => some (h, .lrst)
  | .encoderStep _ => none
  | .homePulse => none
  | .stopLevelChange _ => none
  | .powerOnReset _ => none
  | .speedSample => none
  | .sessionClockTick => none
  | .confirmationExpiry _ => none
  | .bucketScan => none
  | .frameReceived .. => none
  | .trainingFrame _ => none
  | .idleFrame _ => none
  | .linkTimeout _ => none
  | .linkHoldoffEnd _ => none
  | .trainingSend _ => none
  | .idleSend _ => none
  | .downFrameTransmitted => none
  | .upFrameTransmitted => none
  | .brdy .. => none
  | .ldon .. => none
  | .tscn .. => none
  | .ceye .. => none
  | .cout .. => none
  | .cin .. => none
  | .cflt .. => none
  | .cclr .. => none
  | .requestIntake .. => none
  | .bothPhasesChangeTogether => none

/-! ## The values that STAT and CRD report (R144, R191), in the layout of log 14 -/

/-- SESSION (R160, R161, R199). -/
def sessionValues (s : State) : List Datum :=
  ([.u8 s.mode.code, .u16 s.session.voyage, .u32 s.session.clock] : List Datum) ++
    ((if s.mode = .draining then
      [.u16 ((s.trays.filter (fun x => x.state != .empty && x.state != .disabled)).length +
        (s.link.timing.filter (fun f => f.body.isDrop)).length)]
    else []) : List Datum) ++
    ([.u16 s.strays.recs.length, .u16 (s.strays.recs.filter (fun r => !r.resolved)).length, .u16 s.strays.lost,
      .u8 (if s.strays.policy = .keepOldest then 1 else 2), .u16 s.strays.nextSerial,
      .u8 s.mgmt.requests.tail.length, .u8 s.mgmt.replies.length, .u8 s.mgmt.notices.length, .u16 s.mgmt.dropped,
      .u16 s.mgmt.replyLost] : List Datum)

/-- The STOP latch in TRACKER: whether it is set, its cause, the chute of CHUTE_FAULT and e of DRIFT (R16, R20). -/
def latchValues : Option StopCause → List Datum
  | none => [.u8 0, .u8 0, .u8 255, .s32 0]
  | some .encoder => [.u8 1, .u8 1, .u8 255, .s32 0]
  | some (.drift e) => [.u8 1, .u8 2, .u8 255, .s32 e]
  | some .linkDown => [.u8 1, .u8 3, .u8 255, .s32 0]
  | some (.chuteFault j) => [.u8 1, .u8 4, .u8 j, .s32 0]
  | some .sstp => [.u8 1, .u8 5, .u8 255, .s32 0]

/-- TRACKER (R20): the latch, the level of the STOP line, the enables, the tallies of the arch and the lines, T and P. -/
def trackerValues (s : State) : List Datum :=
  ([.u8 s.tracker.state.code, .u32 s.tracker.disp, .u16 s.tracker.speed, .s32 s.tracker.homeCorrection] : List Datum) ++
    latchValues s.tracker.latch ++
    ([.u8 (if s.pins.stopHeld = true ∨ (s.tracker.latch ≠ none ∧ s.tracker.stopOut = true) then 1 else 2),
      .u8 (if s.tracker.stopOut then 1 else 0), .u8 (if s.tracker.stopIn then 1 else 0), .u16 s.tracker.speedClamps,
      .u16 s.tracker.archClamped] : List Datum) ++
    s.lines.map (fun l => Datum.u16 l.clamped) ++
    ([.u16 ((s.tracker.geo.map Geometry.trays).getD 0), .u16 ((s.tracker.geo.map Geometry.pitch).getD 0)] : List Datum)

/-- A line's state in LINES, with the tray and the tags that go with it (R43). -/
def lineValues : LineState → List Datum
  | .free => [.u8 1]
  | .held t1 t2 => [.u8 2, .u32 t1, .u32 t2]
  | .reserved k t1 t2 => [.u8 3, .u16 k, .u32 t1, .u32 t2]
  | .launched k t1 t2 => [.u8 4, .u16 k, .u32 t1, .u32 t2]

/-- Whether an IREF is unsent in LINES, with its reason (R43). -/
def irefValues : Option Iref → List Datum
  | none => [.u8 0, .u8 0]
  | some r => [.u8 1, .u8 r.reason.code]

/-- LINES (R43): line by line its enable, its state, its yield bar, its unsent IREF, its LEAD_CLAMPED tally. -/
def linesValues (s : State) : List Datum :=
  s.lines.zipIdx.flatMap (fun y =>
    Datum.u8 (if y.1.cfg.any LineCfg.enable then 1 else 0) ::
      (lineValues y.1.state ++ (Datum.u8 y.1.bar.length :: y.1.bar.map Datum.u16) ++
        irefValues (s.link.irefs.find? (fun r => r.line == y.2)) ++ [Datum.u16 y.1.clamped]))

/-- The rebuild in MANIFEST, with its scan point while it runs (R79). -/
def rebuildValues : Option Rebuild → List Datum
  | none => [.u8 1]
  | some r => [.u8 2, .u16 r.scanPoint]

/-- MANIFEST (R79): the entries, the full buckets, the counters at 15 and the counters not 0, the rebuild, the tallies. -/
def manifestValues (m : Manifest) : List Datum :=
  ([.u16 m.entries.length, .u16 ((List.range 1021).filter (fun b => (m.bucket b).length == 8)).length,
    .u16 (m.filter.filter (fun x => x.2 == 15)).length,
    .u16 (m.filter.filter (fun x => x.2 != 0)).length] : List Datum) ++
    rebuildValues m.rebuild ++
    ([.u32 m.lookups, .u32 m.filterAbsent, .u32 m.filterFalse, .u16 m.rebuildsDone,
      .u16 m.rebuildsAbandoned] : List Datum)

/-- ROUTES (R98), with TAKEN and PASSED of up to 32 rules from the first (R191). -/
def routesValues (r : Router) (first : Nat) : List Datum :=
  ([.u16 r.defaults, .u16 r.straySets, .u16 r.blocked, .u16 r.drainReplaced, .u8 (if r.zonesLoaded then 1 else 0),
    .u8 (if r.rulesLoaded then 1 else 0), .u8 (if r.staging = [] then 1 else 2), .u8 r.staging.length,
    .u8 (min 32 (r.rules.length - first))] : List Datum) ++
    ((r.rules.drop first).take 32).flatMap (fun x => [Datum.u16 x.taken, Datum.u16 x.passed])

/-- One chute of CHUTES, configured or not (R119, R145). -/
def chuteValues : Option Chute → List Datum
  | none => [.u8 0]
  | some c =>
    [.u8 1, .u8 c.state.code, .u8 ((c.prior.map ChuteState.code).getD 0), .u8 c.cfg.capacity, .u8 c.cfg.watermark,
      .u8 c.cart.length, .u8 c.queue.length, .u16 (c.serial.getD 0), .u8 (if c.present then 1 else 0), .u8 c.report.code,
      .u8 c.awaiting.length, .u16 c.fired, .u16 c.missed, .u16 c.shadow, .u16 c.clamped, .u16 c.unexpected,
      .u16 c.timedOut, .u16 ((c.queue.head?.map Order.tray).getD 65535), .u16 ((c.queue.head?.map Order.seq).getD 0),
      .u8 (if c.mon = none then 2 else 1), .u16 ((c.mon.map Monitor.lead).getD 65535)]

/-- CHUTES (R119, R145), with up to 4 chutes from the first (R191). -/
def chutesValues (s : State) (first : Nat) : List Datum :=
  ([.u8 (if s.carts.loaded then 1 else 0), .u8 (if s.carts.staging = [] then 1 else 2), .u8 s.carts.staging.length,
    .u16 ((s.carts.chutes.map (fun c => c.cart.length)).sum +
      ((s.carts.reports ++ s.carts.waiting).map (fun r => r.entries.length)).sum),
    .u8 s.carts.reports.length, .u8 s.carts.waiting.length, .u16 s.carts.nextSerial, .u16 s.carts.rejected,
    .u16 s.sched.nextSeq, .u16 s.sched.cancelled, .u16 s.sched.tooLate, .u16 s.sched.withdrawn,
    .u16 s.sched.queueFull, .u8 (min 4 (64 - first))] : List Datum) ++
    (List.range (min 4 (64 - first))).flatMap (fun n => chuteValues s.carts.chutes[first + n]?)

/-- What CRD reports of a chute (R144): its fields, its orders, its confirmations, up to 8 entries from the first, and the count (the layout, log 14). -/
def crdValues (c : Chute) (first : Nat) : List Datum :=
  ([.u8 c.state.code, .u8 ((c.prior.map ChuteState.code).getD 0), .u8 c.cfg.capacity, .u8 c.cart.length,
    .u16 (c.serial.getD 0), .u8 (if c.present then 1 else 0), .u8 c.report.code] : List Datum) ++
    (Datum.u8 c.queue.length ::
      c.queue.flatMap (fun o => [Datum.u16 o.tray, .u16 o.seq, .u8 o.kind.code, .u32 o.tag])) ++
    (Datum.u8 c.awaiting.length :: c.awaiting.flatMap (fun x => [Datum.u16 x.tray, .u16 x.seq, .u16 x.serial])) ++
    (Datum.u8 (min 8 (c.cart.length - first)) ::
      ((c.cart.drop first).take 8).flatMap
        (fun e =>
          [Datum.u32 e.tag, .u16 e.cabin, .u16 e.tray, .u16 e.seq, .u8 e.status.code,
            .u8 (if e.amended then 1 else 0)])) ++
    [Datum.u8 c.cart.length]

/-- One record of SRD: every field of R146 in its order, the reason by its code in R83's REASON row (log 35), the state OPEN 1 or RESOLVED 2 (log 14). -/
def strayValues (r : StrayRec) : List Datum :=
  [.u16 r.serial, .u32 r.tag, .u32 r.tag2,
    .u8 (match r.reason with
      | .noRead => 1
      | .tagConflict => 2
      | .notOnManifest => 3
      | .cabinUnassigned => 4
      | .outOfPlan => 5
      | .screeningHold => 6
      | .lapLimit => 7
      | .noRoute => 8),
    .u16 r.tray, .u8 r.lap, .u8 r.chute, .u32 r.second, .u8 r.repeats, .u8 (if r.resolved then 2 else 1),
    .u32 r.resolvedTag, .u16 r.resolvedCabin]

/-! ## Configuration requests -/

/-- A location's distance past the arch on the loop of an LCFG (R192). -/
def loopPast (a : LoopArg) (x : Nat) : Nat := (x + a.trays * a.pitch - a.archLoc) % (a.trays * a.pitch)

/-- The ranges of R192's rows 2 to 6. -/
def LoopInRange (a : LoopArg) : Prop :=
  (16 ≤ a.trays ∧ a.trays ≤ 512 ∧ 200 ≤ a.pitch ∧ a.pitch ≤ 2000 ∧ a.trays * a.pitch ≤ 1024000) ∧
    (a.driftTol ≤ 255 ∧ a.lapLimit ≤ 15 ∧ a.lines.length ≤ 4 ∧ (a.dflt = 1 ∨ a.dflt = 2) ∧ (a.policy = 1 ∨ a.policy = 2) ∧
      a.stopOut ≤ 1 ∧ a.stopIn ≤ 1 ∧ ∀ l ∈ a.lines, l.enable ≤ 1) ∧
    (a.archLoc < a.trays * a.pitch ∧ ∀ l ∈ a.lines, l.loc < a.trays * a.pitch) ∧
    (1 ≤ a.archStation ∧ a.archStation ≤ 126 ∧ ∀ l ∈ a.lines, 1 ≤ l.station ∧ l.station ≤ 126) ∧
    (a.straySet.length ≤ 4 ∧ (∀ j ∈ a.straySet, j ≤ 63) ∧ a.straySet.Nodup)

/-- The loop order of R192, with the chutes in force. -/
def LoopInOrder (a : LoopArg) (chutes : List Chute) : Prop :=
  (∀ l ∈ a.lines, 1 ≤ loopPast a l.loc) ∧
    a.lines.Pairwise
      (fun x y =>
        a.pitch ≤ (y.loc + a.trays * a.pitch - x.loc) % (a.trays * a.pitch) ∧
          a.pitch ≤ (x.loc + a.trays * a.pitch - y.loc) % (a.trays * a.pitch)) ∧
    ∀ c ∈ chutes, c.cfg.loc < a.trays * a.pitch ∧ a.pitch ≤ loopPast a c.cfg.loc ∧
      ∀ l ∈ a.lines, loopPast a c.cfg.loc < loopPast a l.loc

/-- The stations that an accepted LCFG keeps apart (R192). -/
def loopStations (a : LoopArg) (s : State) : List Nat :=
  a.archStation :: a.lines.map LineArg.station ++ s.carts.chutes.map (fun c => c.cfg.station) ++ [s.link.own]

/-- A match carried by RLOAD or RSET that passes the checks of R83, with the match that the rule then holds. -/
def MatchCarried (a : MatchArg) (m : Match) : Prop :=
  match a with
  | .zone lo hi => lo ≤ hi ∧ hi ≤ 31 ∧ m = .zone lo hi
  | .deck lo hi sec => 1 ≤ lo ∧ lo ≤ hi ∧ hi ≤ 20 ∧ (∀ x ∈ sec, x ≤ 3) ∧ m = .deck lo hi sec
  | .group v => v ≤ 255 ∧ m = .group v
  | .flag v => (v = 1 ∧ m = .flag .priority) ∨ (v = 2 ∧ m = .flag .oversize)
  | .tag lo hi => 1 ≤ lo ∧ lo ≤ hi ∧ hi ≤ 999999999 ∧ m = .tag lo hi
  | .reason v =>
    (v, m) ∈ [(1, Match.reason .noRead), (2, .reason .tagConflict), (3, .reason .notOnManifest),
      (4, .reason .cabinUnassigned), (5, .reason .outOfPlan), (6, .reason .screeningHold), (7, .reason .lapLimit),
      (8, .reason .noRoute)]
  | .any => m = .any
  | .other _ => False

/-- An action carried with its targets that passes the checks of R83, with the action that the rule then holds. -/
def ActionCarried (n : Nat) (targets : List Nat) (a : Action) : Prop :=
  (n = 1 ∧ ∃ j, j ≤ 63 ∧ targets = [j] ∧ a = .toChute j) ∨
  (n = 2 ∧ 2 ≤ targets.length ∧ targets.length ≤ 4 ∧ (∀ j ∈ targets, j ≤ 63) ∧ targets.Nodup ∧ a = .toSet targets) ∨
  (n = 3 ∧ targets = [] ∧ a = .recirculate) ∨ (n = 4 ∧ targets = [] ∧ a = .stray)

/-- A rule carried that passes the checks of R83, with the rule that is then held, its tallies 0. -/
def RuleCarried (r : RuleArg) (x : Rule) : Prop :=
  r.enabled ≤ 1 ∧ x.enabled = (r.enabled == 1) ∧ MatchCarried r.mtch x.mtch ∧
    ActionCarried r.action r.targets x.action ∧ x.taken = 0 ∧ x.passed = 0

/-- A location's distance past the arch (R122). -/
def Geometry.past (g : Geometry) (x : Nat) : Nat := (x + g.trays * g.pitch - g.archLoc) % (g.trays * g.pitch)

/-- The staged chutes stand in loop order: each at least a pitch past the arch and before every induction line (R122). -/
def ChutesInOrder (g : Geometry) (lines : List Line) (staged : List ChuteArg) : Prop :=
  ∀ c ∈ staged, g.pitch ≤ g.past c.loc ∧ ∀ l ∈ lines, ∀ x ∈ l.cfg, g.past c.loc < g.past x.loc

/-- The stations of the staged chutes are their own: no two share one, and none is the arch's, a line's or the part's (R122). -/
def ChuteStationsOwn (g : Geometry) (own : Nat) (lines : List Line) (staged : List ChuteArg) : Prop :=
  (staged.map ChuteArg.station).Nodup ∧
    ∀ c ∈ staged, c.station ≠ g.archStation ∧ c.station ≠ own ∧ ∀ l ∈ lines, ∀ x ∈ l.cfg, c.station ≠ x.station

/-! ## Payloads as their tables lay them out (R185, section 10.7) -/

/-- A number in w bytes, the most significant first. -/
def bigEndian : Nat → Nat → List Byte
  | 0, _ => []
  | w + 1, n => BitVec.ofNat 8 (n / 256 ^ w) :: bigEndian w n

/-- The bytes of a row of fields, each given by its width in bytes and its number. -/
def fieldBytes (fields : List (Nat × Nat)) : List Byte := fields.flatMap (fun x => bigEndian x.1 x.2)

/-- Every number of a row of fields fits its width. -/
def FieldsFit (fields : List (Nat × Nat)) : Prop := ∀ x ∈ fields, x.2 < 256 ^ x.1

/-- A signed detail as the number that its four bytes of two's complement spell. -/
def twosComplement (i : Int) : Nat := (i % 4294967296).toNat

/-- The nine fields of NOTE: kind, second, tray, tag, chute, cart serial, reason and the details (R198). -/
def Notice.fields (n : Notice) : List (Nat × Nat) :=
  [(1, n.kind.code), (4, n.second), (2, n.tray.getD 65535), (4, n.tag), (1, n.chute.getD 255), (2, n.serial.getD 0),
    (1, n.kind.reasonCode), (4, twosComplement n.detail1), (4, twosComplement n.detail2), (4, twosComplement n.detail3)]

/-- The fields of one CART entry; 80h joins its status when AMENDED is set. -/
def CartEntry.fields (e : CartEntry) : List (Nat × Nat) :=
  [(4, e.tag), (2, e.cabin), (2, e.tray), (2, e.seq),
    (1,
      (match e.status with
        | .pending => 1
        | .confirmed => 2
        | .presumed => 3) +
        if e.amended then 128 else 0)]

/-- The fields of the CART frame that carries part p of a report: up to 20 entries in drop order, the last part marked (R134). -/
def Report.fields (r : Report) (p : Nat) : List (Nat × Nat) :=
  [(2, r.voyage), (1, r.chute), (2, r.serial), (1, p), (1, if r.entries.length ≤ 20 * (p + 1) then 1 else 0),
    (1, min 20 (r.entries.length - 20 * p))] ++
    ((r.entries.drop (20 * p)).take 20).flatMap CartEntry.fields

/-- The fields of one line of LCFG (section 11.4). -/
def lineFields (l : LineArg) : List (Nat × Nat) :=
  [(4, l.loc), (1, l.delay), (1, l.gap), (1, l.station), (1, l.enable)]

/-- The fields of LCFG, its lists with their counts first (section 11.4). -/
def loopFields (a : LoopArg) : List (Nat × Nat) :=
  [(2, a.trays), (2, a.pitch), (1, a.driftTol), (4, a.archLoc), (1, a.archDelay), (1, a.archStation),
    (1, a.lines.length)] ++
    a.lines.flatMap lineFields ++ [(1, a.lapLimit), (1, a.dflt), (1, a.straySet.length)] ++
    a.straySet.map (fun j => (1, j)) ++ [(1, a.policy), (1, a.stopOut), (1, a.stopIn)]

/-- The fields of one chute of CCFG (R121). -/
def chuteFields (c : ChuteArg) : List (Nat × Nat) :=
  [(4, c.loc), (1, c.delay), (1, c.window), (1, c.side), (1, c.capacity), (1, c.watermark), (2, c.confirm),
    (1, c.station), (1, c.stopOnFault)]

/-- The fields of a rule's match, its kind first (R83); a section that is none is FFh. -/
def matchFields : MatchArg → List (Nat × Nat)
  | .zone lo hi => [(1, 1), (1, lo), (1, hi)]
  | .deck lo hi sec => [(1, 2), (1, lo), (1, hi), (1, sec.getD 255)]
  | .group v => [(1, 3), (1, v)]
  | .flag v => [(1, 4), (1, v)]
  | .tag lo hi => [(1, 5), (4, lo), (4, hi)]
  | .reason v => [(1, 6), (1, v)]
  | .any => [(1, 7)]
  | .other v => [(1, v)]

/-- The fields of a rule, its targets as a list with its count (R83; log 33). -/
def ruleFields (r : RuleArg) : List (Nat × Nat) :=
  (1, r.enabled) :: matchFields r.mtch ++ [(1, r.action), (1, r.targets.length)] ++ r.targets.map (fun j => (1, j))

/-- The fields of one entry of MPUT (R67). -/
def putFields (q : PutArg) : List (Nat × Nat) :=
  [(4, q.tag), (2, q.cabin), (1, q.group), (1, q.priority), (1, q.oversize)]

/-- The fields of one result of RPLY (R185). -/
def datumField : Datum → Nat × Nat
  | .u8 n => (1, n)
  | .u16 n => (2, n)
  | .u32 n => (4, n)
  | .s32 i => (4, twosComplement i)

/-- A payload of management kind `kind` that holds these fields is read as request r, whatever follows them, and one that ends before the last of them as the request `short` (R179, R185). -/
def ReadsAs (kind : Nat) (fields : List (Nat × Nat)) (r short : Request) : Prop :=
  FieldsFit fields →
    (∀ rest, readRequest kind (fieldBytes fields ++ rest) = some r) ∧
      ∀ bytes, bytes <+: fieldBytes fields → bytes ≠ fieldBytes fields → readRequest kind bytes = some short

/-- A rule whose fields are read back as the rule: a code outside the match kinds is none of the seven, and a section is no FFh. -/
def ruleWritten (r : RuleArg) : Prop :=
  (∀ v, r.mtch = .other v → v = 0 ∨ 7 < v) ∧ ∀ lo hi, r.mtch ≠ .deck lo hi (some 255)

/-! ## The laws -/

/-- Monitors are armed only in TRACKING with the DOWN port UP (R7, R32, R44, R103), and every current lead is the one that R12 gives from the current speed sample and the delay of the owner's station. -/
def State.MonitorLaw (s : State) : Prop :=
  ((s.isTracking && s.downUp) = false → s.NoneArmed) ∧
    (∀ l ∈ s.lines, ∀ c ∈ l.cfg, ∀ m ∈ l.mon, m.lead = leadOf s.tracker.speed c.delay) ∧
    (∀ g ∈ s.tracker.geo, ∀ m ∈ s.arch.mon, m.lead = leadOf s.tracker.speed g.archDelay) ∧
    (∀ c ∈ s.carts.chutes, ∀ m ∈ c.mon, m.lead = leadOf s.tracker.speed c.cfg.delay)

/-- A nonzero tag stands in the tag field of at most one tray record (R24). -/
def State.TagLaw (s : State) : Prop :=
  ∀ (i j : Nat) (a b : Tray), s.trays[i]? = some a → s.trays[j]? = some b → a.tag ≠ 0 → a.tag = b.tag → i = j

/-- The other half of R24: a nonzero tag stands in at most one entry of the open cart lists; where it also stands in a tray record, the tray is DROPPING or DOUBT, and the entry is its own pending drop (R24, R132). -/
def State.CartTagLaw (s : State) : Prop :=
  (∀ (i j a b : Nat) (c d : Chute) (e f : CartEntry), s.carts.chutes[i]? = some c → s.carts.chutes[j]? = some d →
    c.cart[a]? = some e → d.cart[b]? = some f → e.tag ≠ 0 → e.tag = f.tag → i = j ∧ a = b) ∧
  ∀ (j k : Nat) (c : Chute) (e : CartEntry) (x : Tray), s.carts.chutes[j]? = some c → e ∈ c.cart → s.trays[k]? = some x →
    e.tag ≠ 0 → e.tag = x.tag →
    (x.state = .dropping ∨ x.state = .doubt) ∧ e.tray = k ∧ x.seq = some e.seq ∧ x.target = some j ∧ e.status = .pending

/-- Every queued order names a ROUTED tray whose target is that chute and whose sequence is the order's, no two orders of a queue name one tray, every ROUTED tray has its order, and IDLE, SETUP and DRAINED hold no order (R100, R167). -/
def State.OrderLaw (s : State) : Prop :=
  (∀ (j : Nat) (c : Chute), s.carts.chutes[j]? = some c → (c.queue.map Order.tray).Nodup ∧
    ∀ o ∈ c.queue, ∃ x, s.trays[o.tray]? = some x ∧ x.state = .routed ∧ x.target = some j ∧ x.seq = some o.seq) ∧
  (∀ (k : Nat) (x : Tray), s.trays[k]? = some x → x.state = .routed →
    ∃ j c, x.target = some j ∧ s.carts.chutes[j]? = some c ∧ ∃ o ∈ c.queue, o.tray = k) ∧
  (s.mode ∈ [.idle, .setup, .drained] → ∀ c ∈ s.carts.chutes, c.queue = [])

/-- Every confirmation names a DROPPING tray whose target is that chute and whose sequence is the drop's, no two of a list name one tray, every DROPPING tray has its confirmation, and only SORTING and DRAINING hold one (R111, R129). -/
def State.ConfirmationLaw (s : State) : Prop :=
  (∀ (j : Nat) (c : Chute), s.carts.chutes[j]? = some c → (c.awaiting.map Confirmation.tray).Nodup ∧
    ∀ a ∈ c.awaiting, ∃ x, s.trays[a.tray]? = some x ∧ x.state = .dropping ∧ x.target = some j ∧ x.seq = some a.seq) ∧
  (∀ (k : Nat) (x : Tray), s.trays[k]? = some x → x.state = .dropping →
    ∃ j c, x.target = some j ∧ s.carts.chutes[j]? = some c ∧ ∃ a ∈ c.awaiting, a.tray = k) ∧
  (s.mode ∉ [.sorting, .draining] → ∀ x ∈ s.trays, x.state ≠ .dropping)

/-- The line states and the trays that go with them: a RESERVED line's tray is RESERVED for it with the launch monitor armed on it, a LAUNCHED line's tray is LAUNCHING from it, no other line has a monitor armed, and every RESERVED or LAUNCHING tray has its line (R29). -/
def State.LineLaw (s : State) : Prop :=
  (∀ (i : Nat) (l : Line), s.lines[i]? = some l →
    match l.state with
    | .free => l.mon = none
    | .held _ _ => l.mon = none
    | .reserved k _ _ =>
      (∃ x, s.trays[k]? = some x ∧ x.state = .reserved ∧ x.source = some i) ∧ ∃ m, l.mon = some m ∧ m.tray = k
    | .launched k _ _ => l.mon = none ∧ ∃ x, s.trays[k]? = some x ∧ x.state = .launching ∧ x.source = some i) ∧
  (∀ (k : Nat) (x : Tray), s.trays[k]? = some x → x.state = .reserved →
    ∃ i l a b, x.source = some i ∧ s.lines[i]? = some l ∧ l.state = .reserved k a b) ∧
  ∀ (k : Nat) (x : Tray), s.trays[k]? = some x → x.state = .launching →
    ∃ i l a b, x.source = some i ∧ s.lines[i]? = some l ∧ l.state = .launched k a b

/-- The stray list: at most 512 records, no two with one serial, at most one that holds a nonzero tag, by its tag field or its resolved tag, and a next serial that no record bears (R146, R147). -/
def State.StrayLaw (s : State) : Prop :=
  s.strays.recs.length ≤ 512 ∧ (s.strays.recs.map StrayRec.serial).Nodup ∧
    (∀ r ∈ s.strays.recs, 1 ≤ r.serial ∧ r.serial ≤ 65535 ∧ r.serial ≠ s.strays.nextSerial) ∧
    1 ≤ s.strays.nextSerial ∧ s.strays.nextSerial ≤ 65535 ∧
    s.strays.recs.Pairwise (fun r x =>
      ∀ tag, tag ≠ 0 → (r.tag = tag ∨ r.resolvedTag = tag) → x.tag ≠ tag ∧ x.resolvedTag ≠ tag)

/-- One chute: count + queued is at most the capacity, and below it in OPEN; a chute in CLOSED, SWAP or FAULTED holds no orders; the queue and the awaiting list keep their limits (R85, R100, R102, R113, R129). -/
def Chute.CapacityLaw (c : Chute) : Prop :=
  1 ≤ c.cfg.capacity ∧ c.count + c.queued ≤ c.cfg.capacity ∧
    (c.state = .opened → c.count + c.queued < c.cfg.capacity) ∧ (c.inUse = false → c.queue = []) ∧
    c.queued ≤ Config.queueMax ∧ c.awaiting.length ≤ Config.awaitingMax

/-- Every configured chute, at most 64 of them, and the capacities of the staged ones (R120, R121). -/
def State.CapacityLaw (s : State) : Prop :=
  (∀ c ∈ s.carts.chutes, c.CapacityLaw) ∧ (∀ a ∈ s.carts.staging, 1 ≤ a.capacity) ∧ s.carts.chutes.length ≤ 64 ∧
    s.carts.staging.length ≤ 64

/-- The queues and lists outside the chute records keep their limits (R31, R133, R147, R178, R180, R187, R188, R197). -/
def State.BoundLaw (s : State) : Prop :=
  s.mgmt.requests.length ≤ Config.requestsMax ∧ s.mgmt.replies.length ≤ Config.repliesMax ∧
    s.mgmt.notices.length ≤ Config.noticesMax ∧ s.link.timing.length ≤ Config.timingMax ∧
    s.link.up.forward.length ≤ Config.forwardMax ∧ s.link.down.forward.length ≤ Config.forwardMax ∧
    (s.link.irefs.map Iref.line).Nodup ∧ s.strays.recs.length ≤ Config.straysMax ∧
    s.carts.reports.length ≤ Config.reportsMax

/-- Pending cart reports: at most one per configured chute, so at most 64 wait; a chute's report state names the list that holds its report, and a chute with a current cart has none pending (R120, R133, R139). -/
def State.ReportLaw (s : State) : Prop :=
  s.carts.waiting.length ≤ 64 ∧ s.carts.chutes.length ≤ 64 ∧
    ((s.carts.reports ++ s.carts.waiting).map Report.chute).Nodup ∧
    (∀ r ∈ s.carts.reports ++ s.carts.waiting, r.chute < s.carts.chutes.length) ∧
    ∀ (j : Nat) (c : Chute), s.carts.chutes[j]? = some c →
      (c.report = .queued ↔ ∃ r ∈ s.carts.reports, r.chute = j) ∧
        (c.report = .waiting ↔ ∃ r ∈ s.carts.waiting, r.chute = j) ∧ (c.hasCart = true → c.report = .none)

/-- The voyage number is none exactly in IDLE, and the drain watch is ARMED exactly in DRAINING (R161). -/
def State.SessionLaw (s : State) : Prop :=
  (s.session.mode = .idle ↔ s.session.voyage = 0) ∧ s.session.voyage ≤ 65535 ∧
    (s.session.watch = true ↔ s.session.mode = .draining)

/-- A filter's counters in canonical form: keys rising, no counter 0, none above 15 (R63). -/
def FilterForm (f : List (Nat × Nat)) : Prop := Table.wf f ∧ ∀ x ∈ f, 1 ≤ x.2 ∧ x.2 ≤ Config.counterMax

/-- The live entries of one filter cell among the buckets below a limit. -/
def Manifest.cellCount (m : Manifest) (limit cell : Nat) : Nat :=
  (m.entries.filter (fun x => cellOf x.2.tag == cell && decide (bucketOf x.2.tag < limit))).length

/-- Every counter is sticky at 15 or counts the live entries of its cell (R63, R74, R75). -/
def Manifest.Counts (m : Manifest) (f : List (Nat × Nat)) (limit : Nat) : Prop :=
  ∀ cell, counterAt f cell = Config.counterMax ∨ counterAt f cell = m.cellCount limit cell

/-- The Manifest Store: entries in canonical form, each in a way of its tag's bucket, one per tag, its tag in range; the live filter and, during a rebuild, the fresh filter in canonical form and counting (R61 to R63, R74, R75). -/
def Manifest.Law (m : Manifest) : Prop :=
  Table.wf m.entries ∧ (∀ x ∈ m.entries, x.1 / Config.ways = bucketOf x.2.tag ∧ tagOk x.2.tag = true) ∧
    (m.entries.map (fun x => x.2.tag)).Nodup ∧ FilterForm m.filter ∧ m.Counts m.filter Config.buckets ∧
    (∀ r ∈ m.rebuild, r.scanPoint < Config.buckets ∧ FilterForm r.fresh ∧ m.Counts r.fresh r.scanPoint)

end Sys2Proof.Machine
end

