-- ==== Sys2Proof/Certificates/Slice0/Obligations.lean ====
section
/-! DEFINITION. The statements for the provers. -/

open Sys2Proof Sys2Proof.Machine

/-! ## The machine -/

/-- A step carries out the command at the front of the queue. An empty queue lets 0.1 ms pass: the time base advances, and the time-driven events now due are taken, each as its own row makes it: the bucket scan; the speed sample 10 ms after the last; the session clock's second; the expired confirmations chute by chute, the oldest first; at the UP port and then the DOWN port the loss of the link after 50 ms and else an IDLE frame after 10 ms, the end of the hold-off after 100 ms, or a training frame after 10 ms; and then the arbiters run (that a tick is taken so, and its order, is the model's choice, log 3). -/
def Obligations.FrontCommandRuns : Prop :=
  (∀ (c : Instr) (rest : List Instr) (s : State), s.pending = c :: rest → step s = exec c { s with pending := rest }) ∧
    (∀ s : State, s.pending = [] →
      ∃ t s1 s2 s3 s4 s5 s6, step s = .next t ∧ t.now = s.now + 1 ∧ t.pins = s.pins ∧ t.free = s.free ∧ t.pending = [] ∧
        t = settle s6 ∧ s1 = bucketScan { s with now := s.now + 1 } ∧
        s2 = (if s.tracker.windowStart + 100 ≤ s.now + 1 then speedSample s1 else s1) ∧
        s3 = (if s.session.secondStart + 10000 ≤ s.now + 1 then clockTick s2 else s2) ∧
        s4 = (List.range s3.carts.chutes.length).foldl
          (fun w j =>
            Nat.repeat (expireOldest j)
              (((w.carts.chutes[j]?).map (fun c => (c.awaiting.filter (fun a => decide (a.expiry ≤ s.now + 1))).length)).getD
                0) w) s3 ∧
        PortTicked .up s4 s5 ∧ PortTicked .down s5 s6) ∧
    ∀ (w : State) (j : Nat) (p : PortId),
      Leads .bucketScan w (bucketScan w) ∧ Leads .speedSample w (speedSample w) ∧ Leads .sessionClockTick w (clockTick w) ∧
        Leads (.confirmationExpiry j) w (expireOldest j w) ∧ Leads (.linkTimeout p) w (linkTimeout p w) ∧
        Leads (.idleSend p) w (idleSend p w) ∧ Leads (.linkHoldoffEnd p) w (holdoffEnd p w) ∧
        Leads (.trainingSend p) w (trainingSend p w)

/-- Every command completes: it leaves the commands that wait, the time base (but for POWER_ON_RESET), the lines that others drive (but for the rows that are their changes), and the own station, sampled at power-on reset alone (R173). -/
def Obligations.EveryCommandCompletes : Prop :=
  ∀ (c : Instr) (s : State), ∃ t, exec c s = .next t ∧ t.pending = s.pending ∧
    ((∀ straps, c ≠ .powerOnReset straps) → t.now = s.now ∧ t.link.own = s.link.own) ∧
    ((∀ ph, c ≠ .encoderStep ph) → c ≠ .bothPhasesChangeTogether → (∀ held, c ≠ .stopLevelChange held) → t.pins = s.pins)

/-- POWER_ON_RESET leaves every block at the values the spec gives: no geometry, every monitor disarmed, every queue and list empty, every tally 0, both ports in TRAINING (R10, R25, R42, R49, R78, R80, R83, R97, R98, R115, R145, R159, R161, R173, R186, R199). -/
def Obligations.PowerOnResetValues : Prop :=
  ∀ (straps : Nat) (s : State), ∃ t, Leads (.powerOnReset straps) s t ∧
    t.tracker =
      { state := .unconfigured, geo := none, disp := 0, speed := 0, net := 0, windowStart := 0,
        homeCorrection := 0, latch := none, stopOut := false, stopIn := false, speedClamps := 0, archClamped := 0 } ∧
    t.trays = [] ∧ t.lines.length = 4 ∧
    (∀ l ∈ t.lines, l = { cfg := none, state := .free, bar := [], mon := none, clamped := 0 }) ∧
    t.arch =
      { mon := none, outstanding := none, lapLimit := none, sent := 0, missed := 0, replaced := 0, stale := 0,
        rejected := 0, skipped := 0 } ∧
    t.manifest =
      { entries := [], filter := [], rebuild := none, lookups := 0, filterAbsent := 0, filterFalse := 0,
        rebuildsDone := 0, rebuildsAbandoned := 0 } ∧
    (t.router.zones.length = 32 ∧ ∀ z ∈ t.router.zones, z = { ending := 0, deck := 1, sec := 0 }) ∧
    (t.router.rules.length = 64 ∧ ∀ r ∈ t.router.rules, r = { enabled := false, mtch := .any, action := .recirculate, taken := 0, passed := 0 }) ∧
    t.router.zonesLoaded = false ∧ t.router.rulesLoaded = false ∧ t.router.staging = [] ∧
    t.router.dflt = .recirculate ∧ t.router.straySet = [] ∧
    (t.router.defaults, t.router.straySets, t.router.blocked, t.router.drainReplaced) = (0, 0, 0, 0) ∧
    t.sched = { nextSeq := 1, cancelled := 0, tooLate := 0, withdrawn := 0, queueFull := 0 } ∧
    t.carts =
      { chutes := [], staging := [], loaded := false, reports := [], waiting := [], cartPart := 0,
        nextSerial := 1, rejected := 0 } ∧
    t.strays = { recs := [], nextSerial := 1, lost := 0, policy := .keepOldest } ∧
    t.session = { mode := .idle, voyage := 0, clock := 0, secondStart := 0, watch := false } ∧
    t.mgmt = { requests := [], replies := [], notices := [], dropped := 0, replyLost := 0 } ∧
    t.link.own = (if straps % 128 = 0 ∨ straps % 128 = 127 then 126 else straps % 128) ∧ t.link.host = none ∧
    (∀ p ∈ [t.link.up, t.link.down], p.state = .training ∧ p.seq = 0 ∧ p.answer = false ∧ p.forward = [] ∧
      (p.formatErrors, p.checkErrors, p.forwardDropped) = (0, 0, 0)) ∧
    t.link.timing = [] ∧ t.link.irefs = [] ∧
    (t.link.selfCount, t.link.kindRejected, t.link.wrongPort, t.link.foreign, t.link.timingDiscarded) = (0, 0, 0, 0, 0) ∧
    t.pins = s.pins ∧ t.now = 0

/-- The laws hold right after reset. -/
def Obligations.LawsHoldAtReset : Prop :=
  State.reset.MonitorLaw ∧ State.reset.TagLaw ∧ State.reset.CapacityLaw ∧ State.reset.BoundLaw ∧
    State.reset.SessionLaw ∧ State.reset.ReportLaw ∧ State.reset.manifest.Law ∧ State.reset.CartTagLaw ∧
    State.reset.OrderLaw ∧ State.reset.ConfirmationLaw ∧ State.reset.LineLaw ∧ State.reset.StrayLaw

/-- A request carried out gives exactly one reply, with its source, its sequence and its kind, at the end of the reply list, and leaves the request queue (R187, R188). While the reply list holds 8 replies, or another request heads the request queue, it changes nothing (the model's choice, log 1). -/
def Obligations.RequestReplies : Prop :=
  ∀ (c : Instr) (hdr : ReqHdr) (r : Request) (s : State), requestOf c = some (hdr, r) →
    (s.mayServe hdr r = false → Leads c s s) ∧
    (s.mayServe hdr r = true →
      ∃ (status : Status) (results : List Datum) (t : State), exec c s = .next t ∧
        t.mgmt.replies = s.mgmt.replies ++ [{ hdr := hdr, kind := requestKind r, status := status, results := results }] ∧
        t.mgmt.requests = s.mgmt.requests.tail ∧ s.mgmt.notices <+: t.mgmt.notices)

/-! ## The chain (chapter 1) -/

/-- One phase changes. A step outside TRACKING, and a reverse step anywhere, counts the net count and D and changes nothing else: no monitor is evaluated. A forward step in TRACKING adds 1 to the net count and to D mod Lu, and each tray whose approach distance to a line was 1 passes it: it leaves the line's yield bar, and a HELD line makes an attempt to allocate at each passing, line by line by number, on the state that the lines before it left. Then every monitor that was armed before the step is evaluated once, the launch monitors, the scan monitor and the chute monitors, each by number; the trays, lines, monitors and chutes that the step may decide apart, nothing else changes (R3, R13 to R15, R32, R39). The order of the lines and of the monitors within the event is the model's choice (log 6). -/
def Obligations.StepIsCounted : Prop :=
  ∀ (ph : EncPhase) (s : State) (pins : Pins),
    pins =
      (match ph with
      | .a => { s.pins with encA := !s.pins.encA }
      | .b => { s.pins with encB := !s.pins.encB }) →
    (s.tracker.state ≠ .unconfigured → s.tracker.geo ≠ none) →
    ∃ t, Leads (.encoderStep ph) s t ∧
      ((s.isTracking = true → (s.pins.encA, s.pins.encB, ph) ∉ forwardSteps) →
        t = { s with
          pins := pins
          tracker := { s.tracker with net := t.tracker.net, disp := t.tracker.disp } } ∧
        t.tracker.net = s.tracker.net + (if (s.pins.encA, s.pins.encB, ph) ∈ forwardSteps then 1 else -1) ∧
        (s.tracker.state = .unconfigured → t.tracker.disp = s.tracker.disp) ∧
        (s.tracker.state ≠ .unconfigured → ∀ g ∈ s.tracker.geo, s.tracker.disp < g.trays * g.pitch →
          t.tracker.disp =
            if (s.pins.encA, s.pins.encB, ph) ∈ forwardSteps then
              (if s.tracker.disp + 1 = g.trays * g.pitch then 0 else s.tracker.disp + 1)
            else if s.tracker.disp = 0 then g.trays * g.pitch - 1 else s.tracker.disp - 1)) ∧
      (s.isTracking = true → (s.pins.encA, s.pins.encB, ph) ∈ forwardSteps → ∀ g ∈ s.tracker.geo,
        Kept
          { s with
            pins := pins
            tracker :=
              { s.tracker with net := s.tracker.net + 1, disp := (s.tracker.disp + 1) % (g.trays * g.pitch) } } t ∧
        (0 < g.trays * g.pitch →
          ChainMoved g s.tracker.disp 1
            { s with
              pins := pins
              tracker :=
                { s.tracker with net := s.tracker.net + 1, disp := (s.tracker.disp + 1) % (g.trays * g.pitch) } } t) ∧
        (s.NoneArmed → (∀ l ∈ s.lines, ∀ a b, l.state ≠ .held a b) →
          t = { s with
            pins := pins
            tracker := t.tracker
            lines := t.lines } ∧
          t.lines.map (fun l => { l with bar := [] }) = s.lines.map (fun l => { l with bar := [] })))

/-- Both phases changing together: the pair changes and nothing else in UNCONFIGURED; ENCODER is latched in UNSYNCED and LOST; in TRACKING the tracker enters LOST with the effects of R8, D as it stood, the notices of the withdrawn drops before TRACK_LOST and STOP_ASSERTED after it (R4, R8, R16). That a change of the STOP level queues STOP_SEEN in the same event is the model's reading (R17, log 8), and so is, in the effects of R8, that the CORRECTION of a withdrawn drop of an eyeless chute carries the tag with which the DROP was fired (R131, log 17). That orders are cancelled with the FULL test at a chute in OPEN or FULL, one that holds none too, is log 39 (R114, R124). -/
def Obligations.EncoderFault : Prop :=
  ∀ s : State, ∃ t, Leads .bothPhasesChangeTogether s t ∧
    t.pins = { s.pins with encA := !s.pins.encA, encB := !s.pins.encB } ∧
    (s.tracker.state = .unconfigured → t = { s with pins := t.pins }) ∧
    ((s.tracker.state = .unsynced ∨ s.tracker.state = .lost) →
      t = { s with
        pins := t.pins
        tracker := { s.tracker with latch := some (s.tracker.latch.getD .encoder) }
        mgmt := t.mgmt } ∧
      (s.tracker.latch ≠ none → t.mgmt = s.mgmt) ∧
      (s.tracker.latch = none →
        t.mgmt =
          if s.tracker.stopIn = true ∧ s.tracker.stopOut = true ∧ s.pins.stopHeld = false then
            (s.mgmt.push (s.stamp (Notice.of (.stopAsserted .encoder)))).push (s.stamp (Notice.of (.stopSeen true)))
          else s.mgmt.push (s.stamp (Notice.of (.stopAsserted .encoder))))) ∧
    (s.isTracking = true → s.SessionLaw →
      Kept
        { s with
          pins := t.pins
          tracker := { s.tracker with state := .lost, latch := some (s.tracker.latch.getD .encoder) } } t ∧
      t.link.timing = s.link.timing.filter (fun f => !f.body.isDrop) ∧
      Emptied s t ∧
      (t.mgmt.notices.length < 64 →
        ∃ withdrawn, t.mgmt.notices =
          s.mgmt.notices ++ withdrawn ++ [s.stamp (Notice.of (.trackLost .encoder))] ++
            (if s.tracker.latch = none then
              [s.stamp (Notice.of (.stopAsserted .encoder))] ++
                (if s.tracker.stopIn = true ∧ s.tracker.stopOut = true ∧ s.pins.stopHeld = false then
                  [s.stamp (Notice.of (.stopSeen true))]
                else [])
            else [])))

/-- A HOME pulse: ignored in UNCONFIGURED; from UNSYNCED or LOST it sets D to 0 and enters TRACKING with TRACK_SYNC, and the scan monitor is armed afresh; in TRACKING it corrects a signed error of at most drift_tol, where an error behind the chain carries the trays that stood within it of a line past that line, with the attempts of each HELD line, line by line, and every armed monitor is evaluated with the movement it stands for; and it is a drift fault above it, with the effects of R8 (R5, R6, R8, R13, R14, R44). The order of the lines and of the monitors within the event is the model's choice (log 6). That a change of the STOP level queues STOP_SEEN in the same event is the model's reading (R17, log 8), and so is, in the effects of R8, that the CORRECTION of a withdrawn drop of an eyeless chute carries the tag with which the DROP was fired (R131, log 17). That orders are cancelled with the FULL test at a chute in OPEN or FULL, one that holds none too, is log 39 (R114, R124). -/
def Obligations.HomePulse : Prop :=
  ∀ s : State, ∃ t, Leads .homePulse s t ∧
    (s.tracker.state = .unconfigured → t = s) ∧
    ((s.tracker.state = .unsynced ∨ s.tracker.state = .lost) →
      ∀ u, u = { s with
        tracker := { s.tracker with disp := 0, state := .tracking }
        mgmt := s.mgmt.push (s.stamp (Notice.of (.trackSync s.tracker.state))) } →
      Kept u t ∧ FreshlyArmed u t) ∧
    (s.isTracking = true → ∀ g ∈ s.tracker.geo, ∀ e : Int,
      e = (if s.tracker.disp ≤ g.trays * g.pitch / 2 then (s.tracker.disp : Int)
        else (s.tracker.disp : Int) - (g.trays * g.pitch : Nat)) →
      (-(g.driftTol : Int) ≤ e ∧ e ≤ g.driftTol →
        ∀ u, u = { s with tracker := { s.tracker with disp := 0, homeCorrection := e } } →
        Kept u t ∧ (0 < g.trays * g.pitch → ChainMoved g s.tracker.disp (-e).toNat u t)) ∧
      (e < -(g.driftTol : Int) ∨ (g.driftTol : Int) < e → s.SessionLaw →
        Kept
          { s with tracker := { s.tracker with state := .lost, latch := some (s.tracker.latch.getD (.drift e)) } } t ∧
        t.link.timing = s.link.timing.filter (fun f => !f.body.isDrop) ∧
        Emptied s t ∧
        (t.mgmt.notices.length < 64 →
          ∃ withdrawn, t.mgmt.notices =
            s.mgmt.notices ++ withdrawn ++ [s.stamp { Notice.of (.trackLost (.drift e)) with detail1 := e }] ++
              (if s.tracker.latch = none then
                [s.stamp { Notice.of (.stopAsserted (.drift e)) with detail1 := e }] ++
                  (if s.tracker.stopIn = true ∧ s.tracker.stopOut = true ∧ s.pins.stopHeld = false then
                    [s.stamp (Notice.of (.stopSeen true))]
                  else [])
              else []))))

/-- A speed sample sets v from the net count of the window, clamped to 0 and 4,095, counts the upper clamp, and starts the net count again (R11); outside TRACKING nothing else changes. In TRACKING every armed monitor takes its lead anew from the new speed, a clamped lead counted, and is evaluated without movement, the launch monitors, the scan monitor and the chute monitors, each by number; a scan monitor that is disarmed is armed afresh (R11, R12, R14, R44). The order within the event is the model's choice (log 6). The window restarts now (log 4). -/
def Obligations.SpeedSample : Prop :=
  ∀ s : State, ∃ t u, Leads .speedSample s t ∧
    u = { s with
      tracker :=
        { s.tracker with
          speed := if s.tracker.net < 0 then 0 else if 4095 < s.tracker.net then 4095 else s.tracker.net.toNat
          speedClamps := if 4095 < s.tracker.net then satInc 65535 s.tracker.speedClamps else s.tracker.speedClamps
          net := 0
          windowStart := s.now } } ∧
    Kept u t ∧ (s.isTracking = false → t = u) ∧
    (s.isTracking = true → MonitorsResampled u t) ∧
    (s.isTracking = true → s.NoneArmed → FreshlyArmed u t) ∧
    ∀ g m, s.isTracking = true → s.tracker.geo = some g → s.arch.mon = some m → (∀ l ∈ s.lines, l.mon = none) →
      (∀ c ∈ s.carts.chutes, c.mon = none) →
      t = evalScan 0 (u.scanArmed g m.tray) ∧ ((u.scanArmed g m.tray).ScanStays g m.tray → t = u.scanArmed g m.tray)

/-- Every evaluation of a monitor: it stays while a is greater than the lead, fires when the lead exceeds a by less than the window, and misses otherwise; a is the approach distance, or 0 where the movement since displacement d0, a step or a home correction, past Lu too, has carried the tray centre onto or past the station. The decision of an armed launch, scan or chute monitor is this one, with the tray that it watches, its own lead, the location of its line, of the arch or of its chute, and the window floor(P/2), for a chute the smaller of that and the chute's own; a disarmed one decides nothing (R2, R6, R13, R14). -/
def Obligations.MonitorEvaluation : Prop :=
  (∀ (g : Geometry) (d0 d adv k loc lead w : Nat), 0 < g.trays * g.pitch → adv < g.trays * g.pitch →
    loc < g.trays * g.pitch → d % (g.trays * g.pitch) = (d0 + adv) % (g.trays * g.pitch) →
    (adv = 0 → g.evalApproach d adv k loc = g.approach d k loc) ∧
    (0 < adv → g.approach d0 k loc ≤ adv → g.evalApproach d adv k loc = 0) ∧
    (0 < adv → adv < g.approach d0 k loc → g.evalApproach d adv k loc = g.approach d0 k loc - adv ∧
      g.approach d k loc = g.approach d0 k loc - adv) ∧
    (decideMonitor (g.evalApproach d adv k loc) lead w = .stay ↔ lead < g.evalApproach d adv k loc) ∧
    (decideMonitor (g.evalApproach d adv k loc) lead w = .fire ↔
      g.evalApproach d adv k loc ≤ lead ∧ lead < g.evalApproach d adv k loc + w)) ∧
  ∀ (adv : Nat) (g : Geometry) (s : State), s.tracker.geo = some g →
    (∀ (i : Nat) (l : Line), s.lines[i]? = some l →
      (l.mon = none → s.launchDecision adv i = .stay) ∧
      ∀ c m, l.cfg = some c → l.mon = some m →
        s.launchDecision adv i = decideMonitor (g.evalApproach s.tracker.disp adv m.tray c.loc) m.lead (g.pitch / 2)) ∧
    (s.arch.mon = none → s.scanDecision adv = .stay) ∧
    (∀ m, s.arch.mon = some m →
      s.scanDecision adv = decideMonitor (g.evalApproach s.tracker.disp adv m.tray g.archLoc) m.lead (g.pitch / 2)) ∧
    ∀ (j : Nat) (c : Chute), s.carts.chutes[j]? = some c →
      (c.mon = none → s.headDecision adv j = .stay) ∧
      ∀ m, c.mon = some m →
        s.headDecision adv j =
          decideMonitor (g.evalApproach s.tracker.disp adv m.tray c.cfg.loc) m.lead
            (if c.cfg.window < g.pitch / 2 then c.cfg.window else g.pitch / 2)

/-- The STOP line: a change of the other parties' hold queues STOP_SEEN where it changes the line's level with the input enable set; CLRS releases the latch and its drive and replies DONE, LINK_DOWN with nothing changed while the DOWN port is not UP; nothing else changes (R17, R19). That CLRS queues STOP_SEEN within its own event is the model's reading (log 8). -/
def Obligations.StopLineReleased : Prop :=
  (∀ (held : Bool) (s : State), ∃ t, Leads (.stopLevelChange held) s t ∧
    t = { s with pins := { s.pins with stopHeld := held }, mgmt := t.mgmt } ∧
    t.mgmt =
      if s.tracker.stopIn = true ∧ (held || (s.tracker.latch.isSome && s.tracker.stopOut)) ≠
          (s.pins.stopHeld || (s.tracker.latch.isSome && s.tracker.stopOut)) then
        s.mgmt.push (s.stamp (Notice.of (.stopSeen (held || (s.tracker.latch.isSome && s.tracker.stopOut)))))
      else s.mgmt) ∧
  ∀ (hdr : ReqHdr) (s : State), s.mayServe hdr .clrs = true →
    (s.link.down.state ≠ .up → Answers (.clrs hdr) hdr .clrs s .linkDown [] (dropRequest s)) ∧
    (s.link.down.state = .up →
      ∃ t, Answers (.clrs hdr) hdr .clrs s .done [] t ∧
        t = { s with tracker := { s.tracker with latch := none }, mgmt := t.mgmt } ∧
        t.mgmt =
          if s.tracker.stopIn = true ∧ s.tracker.stopOut = true ∧ s.tracker.latch ≠ none ∧ s.pins.stopHeld = false then
            (dropRequest s).mgmt.push (s.stamp (Notice.of (.stopSeen false)))
          else (dropRequest s).mgmt)

/-- SSTP sets the latch with cause SSTP, or leaves a set latch with its cause, and replies DONE, in every mode and tracking state; the STOP output and input enables decide the drive and STOP_SEEN (R16 to R18). That STOP_SEEN follows STOP_ASSERTED within the same event is the model's reading (log 8). -/
def Obligations.SstpSetsTheLatch : Prop :=
  ∀ (hdr : ReqHdr) (s : State), s.mayServe hdr .sstp = true →
    ∃ t, Answers (.sstp hdr) hdr .sstp s .done [] t ∧
      t = { s with tracker := { s.tracker with latch := some (s.tracker.latch.getD .sstp) }, mgmt := t.mgmt } ∧
      (s.tracker.latch.isSome = true → t.mgmt = (dropRequest s).mgmt) ∧
      (s.tracker.latch = none →
        t.mgmt =
          (if s.tracker.stopIn = true ∧ s.tracker.stopOut = true ∧ s.pins.stopHeld = false then
            ((dropRequest s).mgmt.push (s.stamp (Notice.of (.stopAsserted .sstp)))).push
              (s.stamp (Notice.of (.stopSeen true)))
          else (dropRequest s).mgmt.push (s.stamp (Notice.of (.stopAsserted .sstp))))) ∧
      (s.tracker.stopOut = false → t.stopLevel = s.pins.stopHeld)

/-- Every step keeps the law of the monitors: none is armed outside TRACKING with the DOWN port UP, and every current lead is floor((v × d + 5) / 10), at most 65,535 (R7, R12, R14). -/
def Obligations.MonitorLawIsKept : Prop := ∀ s t : State, s.MonitorLaw → step s = .next t → t.MonitorLaw

/-! ## Trays and induction (chapter 2) -/

/-- A BRDY that is not taken: WRONG_NODE, or IREF with reason MODE, LINE_OFF or BUSY by the first condition that holds, the line left as it stands; the IREF takes the place of the line's unsent one, or joins the end of the unsent ones; a tag above 999,999,999 is taken as 0 (R30, R31, R181). A payload too short is WRONG_NODE, its absent fields free values (R179; log 12). -/
def Obligations.BrdyRefused : Prop :=
  (∀ (src : Nat) (bytes : List Byte) (s : State), ∃ t line tag, Leads (.brdy src (.short bytes)) s t ∧ line < 256 ∧
    tag ≤ 999999999 ∧ (∀ b ∈ bytes.head?, line = b.toNat) ∧
    (∀ b0 b1 b2 b3 b4 rest, bytes = b0 :: b1 :: b2 :: b3 :: b4 :: rest → ∀ n : Nat,
      n = b1.toNat * 16777216 + b2.toNat * 65536 + b3.toNat * 256 + b4.toNat → tag = if n ≤ 999999999 then n else 0) ∧
    t = { s with
      free := t.free
      mgmt :=
        s.mgmt.push (s.stamp { Notice.of (.inductProtocol .wrongNode) with tag := tag, detail1 := (line : Nat) }) }) ∧
  ∀ (src line tag1 tag2 t1 t2 : Nat) (s : State), t1 = (if tag1 ≤ 999999999 then tag1 else 0) →
    t2 = (if tag2 ≤ 999999999 then tag2 else 0) →
    ∃ t, Leads (.brdy src (.full { line := line, tag1 := tag1, tag2 := tag2 })) s t ∧
      ((∀ l c, s.lines[line]? = some l → l.cfg = some c → c.station ≠ src) →
        t = { s with
          mgmt :=
            s.mgmt.push (s.stamp { Notice.of (.inductProtocol .wrongNode) with tag := t1, detail1 := (line : Nat) }) }) ∧
      ∀ l c, s.lines[line]? = some l → l.cfg = some c → c.station = src →
        (s.mode ≠ .sorting →
          t = { s with link := { s.link with irefs := t.link.irefs } } ∧
            IrefPlaced { line := line, tag1 := t1, tag2 := t2, reason := .mode, begun := false } s.link.irefs
              t.link.irefs) ∧
        (s.mode = .sorting → c.enable = false →
          t = { s with link := { s.link with irefs := t.link.irefs } } ∧
            IrefPlaced { line := line, tag1 := t1, tag2 := t2, reason := .lineOff, begun := false } s.link.irefs
              t.link.irefs) ∧
        (s.mode = .sorting → c.enable = true → l.state ≠ .free →
          t = { s with
            link := { s.link with irefs := t.link.irefs }
            mgmt :=
              s.mgmt.push (s.stamp { Notice.of (.inductProtocol .brdyBusy) with tag := t1, detail1 := (line : Nat) }) } ∧
            IrefPlaced { line := line, tag1 := t1, tag2 := t2, reason := .busy, begun := false } s.link.irefs
              t.link.irefs)

/-- A BRDY that is taken: the line is HELD with the two tags while no tray can be reserved; with a tray found, the tray is RESERVED with its source line, the line RESERVED with the tags, and the launch monitor armed on the tray (R30, R32, R34). -/
def Obligations.BrdyTaken : Prop :=
  ∀ (src line t1 t2 : Nat) (s : State) (l : Line) (c : LineCfg), t1 ≤ 999999999 → t2 ≤ 999999999 →
    s.lines[line]? = some l → l.cfg = some c → c.station = src → s.mode = .sorting → c.enable = true → l.state = .free →
    ∃ t, Leads (.brdy src (.full { line := line, tag1 := t1, tag2 := t2 })) s t ∧
      ((s.isTracking && !s.stopSeen && s.downUp) = false → t = { s with lines := s.lines.set line { l with state := .held t1 t2 } }) ∧
      ∀ g, s.tracker.geo = some g → 0 < g.pitch → (s.isTracking && !s.stopSeen && s.downUp) = true →
        (s.searchTray g l c = none → t = { s with lines := s.lines.set line { l with state := .held t1 t2 } }) ∧
        ∀ k, s.searchTray g l c = some k →
          t = { s with
            trays := s.trays.set k { Tray.blank .reserved with source := some line }
            lines :=
              s.lines.set line
                { l with
                  state := .reserved k t1 t2
                  mon := some { tray := k, lead := min 65535 ((s.tracker.speed * c.delay + 5) / 10) }
                  clamped :=
                    if 65535 < (s.tracker.speed * c.delay + 5) / 10 then satInc 65535 l.clamped else l.clamped } }

/-- The search of a line: of the 16 nearest trays whose approach distance is at least the lead plus the pitch, the nearest that is EMPTY and not in the line's yield bar; none when none of the 16 will do (R33). -/
def Obligations.AllocationSearch : Prop :=
  ∀ (s : State) (g : Geometry) (l : Line) (c : LineCfg) (m : Nat), 0 < g.pitch →
    m = min 65535 ((s.tracker.speed * c.delay + 5) / 10) + g.pitch →
    (∀ k, s.searchTray g l c = some k →
      k < g.trays ∧ (∃ x, s.trays[k]? = some x ∧ x.state = .empty) ∧ k ∉ l.bar ∧ m ≤ g.approach s.tracker.disp k c.loc ∧
        ((List.range g.trays).filter (fun x => decide (m ≤ g.approach s.tracker.disp x c.loc ∧
          g.approach s.tracker.disp x c.loc < g.approach s.tracker.disp k c.loc))).length < 16 ∧
        ∀ k' x, k' < g.trays → m ≤ g.approach s.tracker.disp k' c.loc →
          g.approach s.tracker.disp k' c.loc < g.approach s.tracker.disp k c.loc →
          s.trays[k']? = some x → x.state = .empty → k' ∈ l.bar) ∧
    (s.searchTray g l c = none →
      ∀ k x, k < g.trays → m ≤ g.approach s.tracker.disp k c.loc → s.trays[k]? = some x → x.state = .empty → k ∉ l.bar →
        16 ≤ ((List.range g.trays).filter (fun x => decide (m ≤ g.approach s.tracker.disp x c.loc ∧
          g.approach s.tracker.disp x c.loc < g.approach s.tracker.disp k c.loc))).length)

/-- The decision of a launch monitor: a fire with room in the timing queue places LNCH at its tail, the tray LAUNCHING, the line LAUNCHED with its tags; a miss, or a fire with the queue full, returns the tray to EMPTY and the request to HELD in SORTING; in any other mode the tray returns to EMPTY, with an evaluation of the drain watch, and the request is dropped with IREF, reason MODE, the line FREE (R31, R35, R36, R169; the drain watch at the change to EMPTY, log 21). -/
def Obligations.LaunchDecided : Prop :=
  ∀ (adv i k t1 t2 : Nat) (s : State) (l : Line) (c : LineCfg) (x : Tray), s.lines[i]? = some l → l.cfg = some c →
    l.state = .reserved k t1 t2 → s.trays[k]? = some x → x.state = .reserved →
    (s.launchDecision adv i = .stay → evalLaunch adv i s = s) ∧
    (s.launchDecision adv i = .fire → s.link.timing.length < 16 →
      evalLaunch adv i s =
        { s with
          trays := s.trays.set k { x with state := .launching }
          lines := s.lines.set i { l with state := .launched k t1 t2, mon := none }
          link :=
            { s.link with
              timing := s.link.timing ++ [{ dst := c.station, body := .lnch i k, begun := false }] } }) ∧
    ((s.launchDecision adv i = .miss ∨ (s.launchDecision adv i = .fire ∧ 16 ≤ s.link.timing.length)) → s.mode = .sorting →
      s.session.watch = false →
      evalLaunch adv i s =
        { s with
          trays := s.trays.set k (Tray.blank .empty)
          lines := s.lines.set i { l with state := .held t1 t2, mon := none } }) ∧
    ((s.launchDecision adv i = .miss ∨ (s.launchDecision adv i = .fire ∧ 16 ≤ s.link.timing.length)) → s.mode ≠ .sorting →
      ∃ irefs, IrefPlaced { line := i, tag1 := t1, tag2 := t2, reason := .mode, begun := false } s.link.irefs irefs ∧
        evalLaunch adv i s =
          drainWatch
            { s with
              trays := s.trays.set k (Tray.blank .empty)
              lines := s.lines.set i { l with state := .free, mon := none }
              link := { s.link with irefs := irefs } })

/-- A matching LDON: OK loads the tray with the launch's tags (tag 1 unless it stands elsewhere), FAILED empties it; the line is FREE with its yield bar set to the trays that follow (R37, R39). -/
def Obligations.LdonMatched : Prop :=
  ∀ (src line k t1 t2 : Nat) (s : State) (l : Line) (c : LineCfg) (x : Tray), s.lines[line]? = some l → l.cfg = some c →
    c.station = src → l.state = .launched k t1 t2 → s.trays[k]? = some x → x.state = .launching → x.source = some line →
    (∃ t, Leads (.ldon src (.full { line := line, tray := k, outcome := 1 })) s t ∧
      t = { s with
        trays :=
          s.trays.set k
            { Tray.blank .loaded with
              tag := if s.tagDoubled k none t1 then 0 else t1, tag2 := t2, source := some line }
        lines :=
          s.lines.set line
            { l with
              state := .free
              bar := (List.range c.gap).map (fun n => (k + 1 + n) % s.trays.length) } }) ∧
    (∃ t, Leads (.ldon src (.full { line := line, tray := k, outcome := 2 })) s t ∧
      t = { drainWatch { s with trays := s.trays.set k (Tray.blank .empty) } with
        lines :=
          s.lines.set line
            { l with
              state := .free
              bar := (List.range c.gap).map (fun n => (k + 1 + n) % s.trays.length) } })

/-- An LDON that matches no launch, or whose outcome is neither OK nor FAILED, changes nothing and queues INDUCT_PROTOCOL with reason LDON_UNMATCHED, its line and its tray (R37); a payload too short matches none, its absent fields free values (R179; log 12). -/
def Obligations.LdonUnmatched : Prop :=
  (∀ (src : Nat) (b : LdonBody) (s : State),
    (∀ l c t1 t2 x, s.lines[b.line]? = some l → l.cfg = some c → c.station = src → l.state = .launched b.tray t1 t2 →
      s.trays[b.tray]? = some x → x.state = .launching → x.source = some b.line → b.outcome ≠ 1 ∧ b.outcome ≠ 2) →
    ∃ t, Leads (.ldon src (.full b)) s t ∧
      t = { s with
        mgmt :=
          s.mgmt.push
            (s.stamp { Notice.of (.inductProtocol .ldonUnmatched) with tray := some b.tray, detail1 := (b.line : Nat) }) }) ∧
  ∀ (src : Nat) (bytes : List Byte) (s : State), ∃ t line tray, Leads (.ldon src (.short bytes)) s t ∧ line < 256 ∧
    tray < 65536 ∧ (∀ b ∈ bytes.head?, line = b.toNat) ∧
    t = { s with
      free := t.free
      mgmt :=
        s.mgmt.push
          (s.stamp { Notice.of (.inductProtocol .ldonUnmatched) with tray := some tray, detail1 := (line : Nat) }) }

/-- TCMD: RANGE for an action that is none of the two or is missing (a missing action, log 13) and for a tray that is not there. DISABLE takes an EMPTY tray out of service, leaves a DISABLED one with DONE, and is refused with BUSY for any other; a scan monitor on the tray moves to the next tray in number order that is not DISABLED and is evaluated at once, or is disarmed with every tray DISABLED. ENABLE makes a DISABLED tray EMPTY, arms a disarmed scan monitor afresh, and leaves any other tray with DONE (R26, R27, R44, R169, R194). That the move of the scan monitor is an arming, with its lead taken anew and its clamp counted, is the model's reading (log 19). -/
def Obligations.TrayService : Prop :=
  ∀ (hdr : ReqHdr) (k : Nat) (s : State),
    (∀ arg ∈ [ActionArg.short, .badAction k], s.mayServe hdr (.tcmdDisable arg) = true →
      Answers (.tcmdDisable hdr arg) hdr (.tcmdDisable arg) s .range [] (dropRequest s)) ∧
    (s.mayServe hdr (.tcmdDisable (.of k)) = true →
      (s.trays[k]? = none → Answers (.tcmdDisable hdr (.of k)) hdr (.tcmdDisable (.of k)) s .range [] (dropRequest s)) ∧
      ∀ x, s.trays[k]? = some x →
        (x.state = .empty →
          ∃ t, Answers (.tcmdDisable hdr (.of k)) hdr (.tcmdDisable (.of k)) s .done [] t ∧ Kept (dropRequest s) t ∧
            t.trays[k]? = some (Tray.blank .disabled) ∧
            ∀ w, w = drainWatch { dropRequest s with trays := s.trays.set k (Tray.blank .disabled) } →
              ((∀ m ∈ s.arch.mon, m.tray ≠ k) → t = w) ∧
              ∀ m, s.arch.mon = some m → m.tray = k →
                ((∀ x ∈ w.trays, x.state = .disabled) → t = { w with arch := { w.arch with mon := none } }) ∧
                ∀ g n, s.tracker.geo = some g → w.Following k n →
                  t = evalScan 0 (w.scanArmed g n) ∧ ((w.scanArmed g n).ScanStays g n → t = w.scanArmed g n)) ∧
        (x.state = .disabled →
          Answers (.tcmdDisable hdr (.of k)) hdr (.tcmdDisable (.of k)) s .done [] (dropRequest s)) ∧
        (x.state ≠ .empty → x.state ≠ .disabled →
          Answers (.tcmdDisable hdr (.of k)) hdr (.tcmdDisable (.of k)) s .busy [] (dropRequest s))) ∧
    (s.mayServe hdr (.tcmdEnable k) = true →
      (s.trays[k]? = none → Answers (.tcmdEnable hdr k) hdr (.tcmdEnable k) s .range [] (dropRequest s)) ∧
      ∀ x, s.trays[k]? = some x →
        (x.state = .disabled →
          ∃ t, Answers (.tcmdEnable hdr k) hdr (.tcmdEnable k) s .done [] t ∧ Kept (dropRequest s) t ∧
            t.trays[k]? = some (Tray.blank .empty) ∧
            FreshlyArmed (drainWatch { dropRequest s with trays := s.trays.set k (Tray.blank .empty) }) t) ∧
        (x.state ≠ .disabled → Answers (.tcmdEnable hdr k) hdr (.tcmdEnable k) s .done [] (dropRequest s)))

/-- Every step keeps the law of R24: a nonzero tag stands in the tag field of at most one tray record; and, with the laws of the orders and of the confirmations, the law of the cart lists: a nonzero tag stands in at most one entry of the open cart lists, and where it stands in a tray record too, the tray is DROPPING or DOUBT and the entry is its own pending drop (R24, R59, R129, R132). That a drop is in a list of confirmations exactly while its tray is DROPPING is the model's reading of R105, R111 and R129. -/
def Obligations.TagLawIsKept : Prop :=
  ∀ s t : State, step s = .next t →
    (s.TagLaw → t.TagLaw) ∧
      (s.TagLaw → s.OrderLaw → s.ConfirmationLaw → s.CartTagLaw → t.ConfirmationLaw ∧ t.CartTagLaw)

/-! ## The scan arch (chapter 3) -/

/-- A TSCN dropped: SCAN_REJECTED for a station other than the arch's, a tray that is not there, an occupancy other than OCCUPIED or EMPTY, or a payload too short; SCAN_STALE when the outstanding scan does not name the tray. No tray changes (R48, R179). -/
def Obligations.TscnDropped : Prop :=
  ∀ (src : Nat) (b : TscnBody) (s : State),
    ((∀ g ∈ s.tracker.geo, src = g.archStation → b.tray < s.trays.length → b.occupancy ≠ 1 ∧ b.occupancy ≠ 2) →
      Leads (.tscn src (.full b)) s { s with arch := { s.arch with rejected := satInc 65535 s.arch.rejected } }) ∧
    (∀ g ∈ s.tracker.geo, src = g.archStation → b.tray < s.trays.length → b.occupancy = 1 ∨ b.occupancy = 2 →
      s.arch.outstanding ≠ some b.tray →
      Leads (.tscn src (.full b)) s { s with arch := { s.arch with stale := satInc 65535 s.arch.stale } }) ∧
    ∀ bytes : List Byte,
      Leads (.tscn src (.short bytes)) s { s with arch := { s.arch with rejected := satInc 65535 s.arch.rejected } }

/-- A pass that finds no bag: EMPTY leaves an EMPTY tray, empties a LOADED or RECIRCULATE one with LOST_BAG, decides a LAUNCHING one as EMPTY with LDON_ABSENT, and presumes the drop of a DOUBT one; a RESERVED, ROUTED, DROPPING or DISABLED tray is skipped (R38, R50 to R54). The drain watch is evaluated at the change to EMPTY, so that DRAINED may stand before the notice of the pass (the model's reading, log 21). -/
def Obligations.PassWithoutBag : Prop :=
  ∀ (k tag1 tag2 : Nat) (s u : State) (g : Geometry) (x : Tray), s.tracker.geo = some g → s.arch.outstanding = some k →
    s.trays[k]? = some x → u = { s with arch := { s.arch with outstanding := none } } →
    ∃ t, Leads (.tscn g.archStation (.full { tray := k, occupancy := 2, tag1 := tag1, tag2 := tag2 })) s t ∧
      (x.state = .empty → t = u) ∧
      (x.state = .loaded →
        t = notify { Notice.of (.lostBag false) with tray := some k, tag := x.tag, detail1 := (x.source.getD 0 : Nat) }
          (drainWatch { u with trays := s.trays.set k (Tray.blank .empty) })) ∧
      (x.state = .recirculate →
        t = notify { Notice.of (.lostBag true) with tray := some k, tag := x.tag }
          (drainWatch { u with trays := s.trays.set k (Tray.blank .empty) })) ∧
      (∀ i l t1 t2, x.state = .launching → x.source = some i → s.lines[i]? = some l → l.state = .launched k t1 t2 →
        t = notify { Notice.of (.inductProtocol .ldonAbsent) with tray := some k, detail1 := (i : Nat) }
          { drainWatch { u with trays := s.trays.set k (Tray.blank .empty) } with
            lines := s.lines.set i { l with state := .free } }) ∧
      (∀ j serial seq c, x.state = .doubt → x.target = some j → x.serial = some serial → x.seq = some seq →
        s.carts.chutes[j]? = some c →
        t = drainWatch
          { u with
            trays := s.trays.set k (Tray.blank .empty)
            carts :=
              { s.carts with
                chutes :=
                  s.carts.chutes.set j
                    { c with
                      cart :=
                        if c.hasCart = true ∧ c.serial = some serial then
                          c.cart.map (fun e =>
                            if e.tray = k ∧ e.seq = seq ∧ e.status = .pending then { e with status := .presumed } else e)
                        else c.cart } } }) ∧
      (x.state ∈ [.reserved, .routed, .dropping, .disabled] →
        t = { u with arch := { u.arch with skipped := satInc 65535 s.arch.skipped } })

/-- The tag set of a pass is the nonzero tags of the sources in order of first appearance, each once, with whether the scan read it. The verdict of a tag set: LAP_LIMIT above the lap limit whatever the tags; otherwise by the lookup of one tag, by the two entries of two tags, TAG_CONFLICT for more, NO_READ for none (R55 to R58). -/
def Obligations.VerdictOfTags : Prop :=
  (∀ t1 t2 s1 s2 : Nat,
    (tagSet t1 t2 s1 s2).map SetTag.tag = ([t1, t2, s1, s2].filter (fun x => x != 0)).eraseDups ∧
      ∀ x ∈ tagSet t1 t2 s1 s2, (x.scanned = true ↔ x.tag = s1 ∨ x.tag = s2)) ∧
  ∀ (s : State) (lap : Nat) (a b c : SetTag) (rest : List SetTag),
    (∀ limit set, s.arch.lapLimit = some limit → limit < lap →
      s.reading lap set =
        { verdict := .stray .lapLimit, tag := (set.head?.map SetTag.tag).getD 0, tag2 := 0 }) ∧
    ((∀ limit ∈ s.arch.lapLimit, lap ≤ limit) →
      s.reading lap [] = { verdict := .stray .noRead, tag := 0, tag2 := 0 } ∧
      s.reading lap (a :: b :: c :: rest) = { verdict := .stray .tagConflict, tag := a.tag, tag2 := b.tag } ∧
      (s.manifest.lookupResult a.tag = .notOnManifest →
        s.reading lap [a] = { verdict := .stray .notOnManifest, tag := a.tag, tag2 := 0 }) ∧
      (∀ e, s.manifest.lookupResult a.tag = .of e →
        s.reading lap [a] =
          { verdict :=
              if e.hold then .stray .screeningHold else if e.cabin = 0 then .stray .cabinUnassigned
              else .identified a.tag e.cabin e.group e.priority e.oversize
            tag := a.tag, tag2 := 0 }) ∧
      (∀ ea eb, s.manifest.lookupResult a.tag = .of ea → s.manifest.lookupResult b.tag = .of eb →
        ea.cabin = eb.cabin → ea.cabin ≠ 0 →
        (ea.hold = true → s.reading lap [a, b] = { verdict := .stray .screeningHold, tag := a.tag, tag2 := 0 }) ∧
        (ea.hold = false → eb.hold = true →
          s.reading lap [a, b] = { verdict := .stray .screeningHold, tag := b.tag, tag2 := 0 }) ∧
        (ea.hold = false → eb.hold = false → (a.scanned = true ∨ b.scanned = false) →
          s.reading lap [a, b] =
            { verdict := .identified a.tag ea.cabin ea.group ea.priority ea.oversize, tag := a.tag, tag2 := 0 }) ∧
        (ea.hold = false → eb.hold = false → a.scanned = false → b.scanned = true →
          s.reading lap [a, b] =
            { verdict := .identified b.tag eb.cabin eb.group eb.priority eb.oversize, tag := b.tag, tag2 := 0 })) ∧
      ((s.manifest.lookupResult a.tag = .notOnManifest ∨ s.manifest.lookupResult b.tag = .notOnManifest ∨
          ∃ ea eb, s.manifest.lookupResult a.tag = .of ea ∧ s.manifest.lookupResult b.tag = .of eb ∧
            (ea.cabin ≠ eb.cabin ∨ ea.cabin = 0)) →
        s.reading lap [a, b] = { verdict := .stray .tagConflict, tag := a.tag, tag2 := b.tag }))

/-- A pass with a bag aboard while routing is not made (IDLE, SETUP or DRAINED, not TRACKING, or the DOWN port not UP): the tray becomes RECIRCULATE with the fields of its verdict, at lap 1 or the next lap. An EMPTY tray gives FOUND_BAG; a LAUNCHING one is decided LOADED first, with LDON_ABSENT and its line FREE; a DOUBT one first has its entry removed with DROP_FAILED, or CORRECTION where the current cart holds no such entry, so that its own drop doubles no tag (R38, R50 to R54, R59, R60, R131). A pass with UNKNOWN leaves an EMPTY or a DOUBT tray as it stands, goes on with its own tags alone for a LOADED, RECIRCULATE or LAUNCHING one, as a read of no tag would, and is skipped for any other. -/
def Obligations.PassNotRouted : Prop :=
  (∀ (k tag1 tag2 n1 n2 lap : Nat) (source : Option Nat) (set : List SetTag) (r : Reading) (s b u : State) (g : Geometry)
      (x : Tray),
    s.tracker.geo = some g → s.arch.outstanding = some k → s.trays[k]? = some x → s.routes = false →
    n1 = (if tag1 ≤ 999999999 then tag1 else 0) → n2 = (if tag2 ≤ 999999999 then tag2 else 0) →
    BagAboard s k n1 n2 x lap source set b →
    r = b.reading lap set → u = countLookups lap set b →
    ∃ t, Leads (.tscn g.archStation (.full { tray := k, occupancy := 1, tag1 := tag1, tag2 := tag2 })) s t ∧
      t = { b with trays := t.trays, manifest := u.manifest, arch := { s.arch with outstanding := none } } ∧
      (b.tagDoubled k none r.tag = false →
        t.trays =
          s.trays.set k
            { Tray.blank .recirculate with
              tag := r.tag, tag2 := r.tag2, cabin := r.verdict.cabin, lap := lap, source := source
              reason := r.verdict.reason }) ∧
      (b.tagDoubled k none r.tag = true →
        t.trays =
          s.trays.set k
            { Tray.blank .recirculate with
              tag := 0, tag2 := if r.verdict.reason = none then r.tag else r.tag2, cabin := 0, lap := lap
              source := source, reason := some (r.verdict.reason.getD .tagConflict) })) ∧
  ∀ (k : Nat) (s u : State) (g : Geometry) (x : Tray), s.tracker.geo = some g → s.arch.outstanding = some k →
    s.trays[k]? = some x → u = { s with arch := { s.arch with outstanding := none } } →
    (x.state ∈ [.empty, .doubt] → passTray k .unknown 0 0 u = u) ∧
    (x.state ∈ [.loaded, .recirculate, .launching] →
      Leads (.tscn g.archStation (.full { tray := k, occupancy := 1, tag1 := 0, tag2 := 0 })) s (passTray k .unknown 0 0 u)) ∧
    (x.state ∈ [.reserved, .routed, .dropping, .disabled] →
      passTray k .unknown 0 0 u = { u with arch := { u.arch with skipped := satInc 65535 u.arch.skipped } })

/-- A routed pass with a bag aboard, of an EMPTY, LOADED, RECIRCULATE, LAUNCHING or DOUBT tray: after what the tray's own decision leaves (FOUND_BAG, LDON_ABSENT, or the entry undone) the verdict is resolved, and the tray becomes RECIRCULATE with the fields of the result, or ROUTED with one order of its tag at the chute, which takes the next order sequence and its place after every order of a nearer tray, the FULL test following; the Stray List is told of a deck route first (log 22). In an empty queue the order's monitor arms and is evaluated at once; a queue that held orders is not decided by it (R38, R50 to R54, R60, R92, R101, R103, R124, R131, R153). -/
def Obligations.PassRouted : Prop :=
  ∀ (k tag1 tag2 n1 n2 lap : Nat) (source : Option Nat) (set : List SetTag) (r : Reading) (s b : State) (g : Geometry)
      (x : Tray) (y : State × Resolved) (rec : Tray),
    s.tracker.geo = some g → s.arch.outstanding = some k → s.trays[k]? = some x → s.routes = true →
    n1 = (if tag1 ≤ 999999999 then tag1 else 0) → n2 = (if tag2 ≤ 999999999 then tag2 else 0) →
    BagAboard s k n1 n2 x lap source set b →
    r = b.checkDoubled k (b.reading lap set) →
    y = resolveRoute k r.tag r.verdict
      (countLookups lap set { b with arch := { s.arch with outstanding := none } }) →
    rec = { Tray.blank .recirculate with
      tag := r.tag, tag2 := r.tag2, cabin := y.2.cabin, zone := y.2.zone, lap := lap, source := source
      reason := y.2.reason } →
    ∃ t, Leads (.tscn g.archStation (.full { tray := k, occupancy := 1, tag1 := tag1, tag2 := tag2 })) s t ∧ Kept s t ∧
      (y.2.route = .recirculate → t = { y.1 with trays := b.trays.set k rec }) ∧
      ∀ (j : Nat) (kind : RouteKind) (c d : Chute) (near : Order → Bool) (z : State) (new : Order),
        y.2.route = .chute j kind → b.carts.chutes[j]? = some c →
        (near = fun o : Order =>
          decide (g.approach s.tracker.disp o.tray c.cfg.loc < g.approach s.tracker.disp k c.cfg.loc)) →
        z = (if kind = .deck then reinduct k rec.tag j y.1 else y.1) →
        new = { tray := k, seq := s.sched.nextSeq, kind := kind, reason := if kind = .deck then none else rec.reason
                tag := rec.tag } →
        d = { c with
          state :=
            if c.state = .opened ∨ c.state = .full then
              (if c.cart.length + (c.queue.length + 1) < c.cfg.capacity then .opened else .full)
            else c.state } →
        (c.queue ≠ [] →
          ∃ before after, c.queue = before ++ after ∧ (∀ o ∈ after, near o = false) ∧
            (∀ o ∈ before.getLast?, near o = true) ∧
            t = { z with
              trays := b.trays.set k { rec with state := .routed, target := some j, seq := some s.sched.nextSeq }
              sched := { s.sched with nextSeq := if s.sched.nextSeq < 65535 then s.sched.nextSeq + 1 else 1 }
              carts :=
                { b.carts with chutes := b.carts.chutes.set j { d with queue := before ++ [new] ++ after } } }) ∧
        (c.queue = [] →
          ∃ w : State, t = evalHead 0 j w ∧ (w.HeadStays j → t = w) ∧
            w = { z with
              trays := b.trays.set k { rec with state := .routed, target := some j, seq := some s.sched.nextSeq }
              sched := { s.sched with nextSeq := if s.sched.nextSeq < 65535 then s.sched.nextSeq + 1 else 1 }
              carts :=
                { b.carts with
                  chutes := b.carts.chutes.set j ({ d with queue := [new] }.headArmed true s.tracker.speed) } })

/-- A fire of the scan monitor: SCAN joins the timing queue before any frame that the event queues after it, an earlier outstanding scan ends with a pass as UNKNOWN and SCAN_REPLACED, and the tray becomes the outstanding scan with SCAN_SENT; with the queue full the tray is passed as UNKNOWN with SCAN_MISSED and the outstanding scan stands. After a fire or a miss the monitor arms on the following tray, the first after it in number order that is not DISABLED, where it is evaluated at once: it stays armed there, or the run goes on; it is disarmed where the following tray is the one on which the run began (R44 to R47; where a run ends, log 7; an arming within it is evaluated without movement, log 25; an outstanding scan of the same tray is replaced too, log 26). -/
def Obligations.ScanFired : Prop :=
  (∀ (k : Nat) (s : State), Kept s (fireScan k s) ∧
    (s.link.timing.length < 16 →
      s.link.timing ++ [{ dst := s.archStation, body := .scan k, begun := false }] <+: (fireScan k s).link.timing ∧
        (fireScan k s).arch.outstanding = some k ∧ (fireScan k s).arch.sent = satInc 65535 s.arch.sent ∧
        (fireScan k s).arch.missed = s.arch.missed ∧
        (fireScan k s).arch.replaced =
          (if s.arch.outstanding.isSome then satInc 65535 s.arch.replaced else s.arch.replaced) ∧
        ∀ u : State, u = { s with
          link :=
            { s.link with
              timing := s.link.timing ++ [{ dst := s.archStation, body := .scan k, begun := false }] } } →
          (s.arch.outstanding = none →
            fireScan k s =
              { u with arch := { u.arch with outstanding := some k, sent := satInc 65535 s.arch.sent } }) ∧
          ∀ (old : Nat) (w : State), s.arch.outstanding = some old →
            w = passTray old .unknown 0 0
              { u with arch := { u.arch with outstanding := none, replaced := satInc 65535 s.arch.replaced } } →
            fireScan k s =
              { w with arch := { w.arch with outstanding := some k, sent := satInc 65535 s.arch.sent } }) ∧
    (16 ≤ s.link.timing.length →
      (fireScan k s).link.timing = s.link.timing ∧ (fireScan k s).arch.outstanding = s.arch.outstanding ∧
        (fireScan k s).arch.sent = s.arch.sent ∧ (fireScan k s).arch.missed = satInc 65535 s.arch.missed ∧
        fireScan k s =
          passTray k .unknown 0 0 { s with arch := { s.arch with missed := satInc 65535 s.arch.missed } })) ∧
  ∀ (adv : Nat) (s w : State) (g : Geometry) (m : Monitor), s.tracker.geo = some g → s.arch.mon = some m →
    0 < s.trays.length →
    (s.scanDecision adv = .stay → evalScan adv s = s) ∧
    ((s.scanDecision adv = .fire ∧ w = fireScan m.tray s) ∨
        (s.scanDecision adv = .miss ∧
          w = passTray m.tray .unknown 0 0 { s with arch := { s.arch with missed := satInc 65535 s.arch.missed } }) →
      ((∀ n, w.Following m.tray n → n = m.tray) →
        evalScan adv s = { w with arch := { w.arch with mon := none } }) ∧
      ∀ n, w.Following m.tray n → n ≠ m.tray →
        evalScan adv s = runScan (s.trays.length - 1) 0 m.tray (w.scanArmed g n) ∧
          ((w.scanArmed g n).ScanStays g n → evalScan adv s = w.scanArmed g n))

/-! ## The manifest (chapter 4) -/

/-- Under the law of the store, a lookup gives what the entry of the tag gives, whatever the filter holds. It counts LOOKUPS; FILTER_ABSENT where no rebuild runs and the counter of its cell is 0, FILTER_FALSE where none runs, the counter is not 0 and no entry holds the tag; while a rebuild runs no other tally. A tag set makes one lookup for one tag, two for two, and none for three or more or above the lap limit. The free way of an insert is the lowest of the tag's bucket of 8; a full bucket has none (R62 to R64, R76). -/
def Obligations.FilterHidesNothing : Prop :=
  ∀ (m : Manifest) (tag : Nat), m.Law →
    (∀ e, m.lookupResult tag = .of e → e.tag = tag ∧ ∃ key, (key, e) ∈ m.entries) ∧
    (∀ key e, (key, e) ∈ m.entries → e.tag = tag →
      m.lookupResult tag = .of e ∧ m.find tag = some e ∧ m.live tag = some (key, e)) ∧
    ((∀ x ∈ m.entries, x.2.tag ≠ tag) → m.lookupResult tag = .notOnManifest ∧ m.live tag = none) ∧
    (∀ key, m.freeKey tag = some key ↔
      ∃ way, way < 8 ∧ key = tag % 1021 * 8 + way ∧ (∀ x ∈ m.entries, x.1 ≠ key) ∧
        ∀ w, w < way → ∃ x ∈ m.entries, x.1 = tag % 1021 * 8 + w) ∧
    (m.countLookup tag).lookups = satInc 4294967295 m.lookups ∧
    (m.rebuild.isSome = true →
      m.countLookup tag = { m with lookups := satInc 4294967295 m.lookups }) ∧
    (m.rebuild = none →
      (counterAt m.filter (tag % 4093) = 0 →
        m.countLookup tag =
          { m with
            lookups := satInc 4294967295 m.lookups, filterAbsent := satInc 4294967295 m.filterAbsent }) ∧
      (counterAt m.filter (tag % 4093) ≠ 0 → (∀ x ∈ m.entries, x.2.tag ≠ tag) →
        m.countLookup tag =
          { m with
            lookups := satInc 4294967295 m.lookups, filterFalse := satInc 4294967295 m.filterFalse }) ∧
      (counterAt m.filter (tag % 4093) ≠ 0 → (∃ x ∈ m.entries, x.2.tag = tag) →
        m.countLookup tag = { m with lookups := satInc 4294967295 m.lookups })) ∧
    ∀ (s : State) (lap : Nat) (a b c : SetTag) (rest : List SetTag), s.manifest = m →
      (∀ limit set, s.arch.lapLimit = some limit → limit < lap → countLookups lap set s = s) ∧
      ((∀ limit ∈ s.arch.lapLimit, lap ≤ limit) →
        countLookups lap [] s = s ∧ countLookups lap [a] s = { s with manifest := m.countLookup a.tag } ∧
          countLookups lap [a, b] s = { s with manifest := (m.countLookup a.tag).countLookup b.tag } ∧
          countLookups lap (a :: b :: c :: rest) s = s)

/-- MPUT refuses a bad count with RANGE in every mode, and a good one in IDLE with MODE; MDEL, whose entry gives no order of checks, is MODE in IDLE whatever its count, and RANGE for a bad count in the other modes (R65, R67, R68, R190); a payload too short is RANGE, MODE in IDLE (R179; log 13). An entry out of range is RANGE; a present tag is AMENDED with its HOLD kept, no counter changed, and a changed cabin handed on; an absent one is FULL or INSERTED with its cell counted up. A tag of MDEL is RANGE, NOT_FOUND, or REMOVED with its cell counted down and the deletion handed on. An MPUT of 1 to 16 entries and an MDEL of 1 to 32 tags deal with each in the order carried, each on the state that the one before it left, and reply with their outcomes in that order (R66 to R68; the outcome codes are log 14). What an insert or a removal does to the fresh filter of a running rebuild is said by the law of the store (ManifestLawIsKept). -/
def Obligations.EntriesPutAndDeleted : Prop :=
  ∀ (hdr : ReqHdr) (s : State) (p : PutArg) (put : Request) (del : Request) (a : MputArg) (b : MdelArg),
    put = .mput (some a) → del = .mdel (some b) →
    (s.mayServe hdr (.mput none) = true →
      Answers (.mput hdr none) hdr (.mput none) s (if s.mode = .idle then .mode else .range) [] (dropRequest s)) ∧
    (s.mayServe hdr (.mdel none) = true →
      Answers (.mdel hdr none) hdr (.mdel none) s (if s.mode = .idle then .mode else .range) [] (dropRequest s)) ∧
    (s.mayServe hdr put = true →
      (a.count = 0 ∨ 16 < a.count → Answers (.mput hdr (some a)) hdr put s .range [] (dropRequest s)) ∧
      (1 ≤ a.count → a.count ≤ 16 → s.mode = .idle → Answers (.mput hdr (some a)) hdr put s .mode [] (dropRequest s)) ∧
      (∀ run : State × List Datum, 1 ≤ a.count → a.count ≤ 16 → a.entries.length = a.count → s.mode ≠ .idle →
        run = a.entries.foldl (fun y q => ((putOne q y.1).1, y.2 ++ [.u8 (putOne q y.1).2.code])) (dropRequest s, []) →
        run.2.length = a.count ∧ Answers (.mput hdr (some a)) hdr put s .done (.u8 a.count :: run.2) run.1) ∧
      (a = { count := 1, entries := [p] } → s.mode ≠ .idle →
        (p.tag = 0 ∨ 999999999 < p.tag ∨ 9999 < p.cabin ∨ 255 < p.group →
          Answers (.mput hdr (some a)) hdr put s .done [.u8 1, .u8 1] (dropRequest s)) ∧
        (1 ≤ p.tag → p.tag ≤ 999999999 → p.cabin ≤ 9999 → p.group ≤ 255 → p.priority ≤ 1 → p.oversize ≤ 1 →
          (∀ key e u, s.manifest.live p.tag = some (key, e) →
            u = { dropRequest s with
              manifest :=
                { s.manifest with
                  entries :=
                    Table.put s.manifest.entries key
                      { tag := p.tag, cabin := p.cabin, group := p.group, hold := e.hold, priority := p.priority == 1
                        oversize := p.oversize == 1 } } } →
            Answers (.mput hdr (some a)) hdr put s .done [.u8 1, .u8 2]
              (if e.cabin = p.cabin then u else manifestChange .amend p.tag u)) ∧
          (s.manifest.live p.tag = none → s.manifest.freeKey p.tag = none →
            Answers (.mput hdr (some a)) hdr put s .done [.u8 1, .u8 3] (dropRequest s)) ∧
          (∀ key, s.manifest.live p.tag = none → s.manifest.freeKey p.tag = some key →
            ∃ t, Answers (.mput hdr (some a)) hdr put s .done [.u8 1, .u8 4] t ∧
              t = { dropRequest s with
                manifest :=
                  { s.manifest with
                    entries :=
                      Table.put s.manifest.entries key
                        { tag := p.tag, cabin := p.cabin, group := p.group, hold := false, priority := p.priority == 1
                          oversize := p.oversize == 1 }
                    filter := t.manifest.filter
                    rebuild := t.manifest.rebuild } } ∧
              (FilterForm s.manifest.filter → ∀ cell,
                counterAt t.manifest.filter cell =
                  if cell = p.tag % 4093 then min 15 (counterAt s.manifest.filter cell + 1)
                  else counterAt s.manifest.filter cell))))) ∧
    (s.mayServe hdr del = true →
      (s.mode = .idle → Answers (.mdel hdr (some b)) hdr del s .mode [] (dropRequest s)) ∧
      (s.mode ≠ .idle → b.count = 0 ∨ 32 < b.count →
        Answers (.mdel hdr (some b)) hdr del s .range [] (dropRequest s)) ∧
      (∀ run : State × List Datum, 1 ≤ b.count → b.count ≤ 32 → b.tags.length = b.count → s.mode ≠ .idle →
        run = b.tags.foldl (fun y n => ((deleteOne n y.1).1, y.2 ++ [.u8 (deleteOne n y.1).2])) (dropRequest s, []) →
        run.2.length = b.count ∧ Answers (.mdel hdr (some b)) hdr del s .done (.u8 b.count :: run.2) run.1) ∧
      (∀ tag, b = { count := 1, tags := [tag] } → s.mode ≠ .idle →
        (tag = 0 ∨ 999999999 < tag → Answers (.mdel hdr (some b)) hdr del s .done [.u8 1, .u8 1] (dropRequest s)) ∧
        (1 ≤ tag → tag ≤ 999999999 → s.manifest.live tag = none →
          Answers (.mdel hdr (some b)) hdr del s .done [.u8 1, .u8 2] (dropRequest s)) ∧
        (∀ key e, 1 ≤ tag → tag ≤ 999999999 → s.manifest.live tag = some (key, e) →
          ∃ u, Answers (.mdel hdr (some b)) hdr del s .done [.u8 1, .u8 3] (manifestChange .delete tag u) ∧
            u = { dropRequest s with
              manifest :=
                { s.manifest with
                  entries := Table.del s.manifest.entries key
                  filter := u.manifest.filter
                  rebuild := u.manifest.rebuild } } ∧
            (FilterForm s.manifest.filter → ∀ cell,
              counterAt u.manifest.filter cell =
                if cell = tag % 4093 ∧ counterAt s.manifest.filter cell < 15 then counterAt s.manifest.filter cell - 1
                else counterAt s.manifest.filter cell))))

/-- HOLD and RLSE: MODE in IDLE, RANGE for a tag out of range. HOLD leaves a held entry, sets HOLD on another and hands it on, and inserts a held entry of cabin 0 for an absent tag, or is refused with FULL; its reply says whether it inserted. RLSE clears HOLD, tells the Stray List and changes no counter, or is refused with NOT_FOUND (R69, R70, R154; the coding of the reply is log 14). -/
def Obligations.EntriesHeldAndReleased : Prop :=
  ∀ (hdr : ReqHdr) (tag : Nat) (s : State),
    (s.mayServe hdr (.hold (some tag)) = true →
      (s.mode = .idle → Answers (.hold hdr (some tag)) hdr (.hold (some tag)) s .mode [] (dropRequest s)) ∧
      (s.mode ≠ .idle → tag = 0 ∨ 999999999 < tag →
        Answers (.hold hdr (some tag)) hdr (.hold (some tag)) s .range [] (dropRequest s)) ∧
      (s.mode ≠ .idle → 1 ≤ tag → tag ≤ 999999999 →
        (∀ key e, s.manifest.live tag = some (key, e) →
          (e.hold = true → Answers (.hold hdr (some tag)) hdr (.hold (some tag)) s .done [.u8 0] (dropRequest s)) ∧
          (e.hold = false →
            Answers (.hold hdr (some tag)) hdr (.hold (some tag)) s .done [.u8 0]
              (manifestChange .hold tag
                { dropRequest s with
                  manifest :=
                    { s.manifest with entries := Table.put s.manifest.entries key { e with hold := true } } }))) ∧
        (s.manifest.live tag = none → s.manifest.freeKey tag = none →
          Answers (.hold hdr (some tag)) hdr (.hold (some tag)) s .full [] (dropRequest s)) ∧
        (∀ key, s.manifest.live tag = none → s.manifest.freeKey tag = some key →
          ∃ u, Answers (.hold hdr (some tag)) hdr (.hold (some tag)) s .done [.u8 1] (manifestChange .hold tag u) ∧
            u = { dropRequest s with
              manifest :=
                { s.manifest with
                  entries :=
                    Table.put s.manifest.entries key
                      { tag := tag, cabin := 0, group := 0, hold := true, priority := false, oversize := false }
                  filter := countUp s.manifest.filter (tag % 4093)
                  rebuild := u.manifest.rebuild } }))) ∧
    (s.mayServe hdr (.rlse (some tag)) = true →
      (s.mode = .idle → Answers (.rlse hdr (some tag)) hdr (.rlse (some tag)) s .mode [] (dropRequest s)) ∧
      (s.mode ≠ .idle → tag = 0 ∨ 999999999 < tag →
        Answers (.rlse hdr (some tag)) hdr (.rlse (some tag)) s .range [] (dropRequest s)) ∧
      (s.mode ≠ .idle → 1 ≤ tag → tag ≤ 999999999 →
        (s.manifest.live tag = none → Answers (.rlse hdr (some tag)) hdr (.rlse (some tag)) s .notFound [] (dropRequest s)) ∧
        ∀ key e, s.manifest.live tag = some (key, e) →
          ∃ t, Answers (.rlse hdr (some tag)) hdr (.rlse (some tag)) s .done [] t ∧
            t = { dropRequest s with
              manifest := { s.manifest with entries := Table.put s.manifest.entries key { e with hold := false } }
              strays := { s.strays with recs := t.strays.recs } } ∧
            (∀ before r after, s.strays.recs = before ++ r :: after → (∀ x ∈ before, x.tag ≠ tag ∧ x.resolvedTag ≠ tag) →
              (r.tag = tag ∨ r.resolvedTag = tag) →
              t.strays.recs =
                before ++
                  (if r.resolved = false ∧ r.reason = .screeningHold then
                    { r with resolved := true, resolvedTag := tag, resolvedCabin := e.cabin }
                  else r) :: after) ∧
            ((∀ x ∈ s.strays.recs, x.tag ≠ tag ∧ x.resolvedTag ≠ tag) → t.strays.recs = s.strays.recs)))

/-- FBLD is refused with MODE in IDLE and with BUSY while a rebuild runs; otherwise the fresh filter starts at all 0 with the scan point at bucket 0, the live filter as it stands (R73). A bucket scan counts the live entries of the bucket at the scan point and moves the point on; after bucket 1,020 the fresh filter replaces the live one, with FILTER_DONE and REBUILDS_DONE; without a rebuild it changes nothing (R74, R77). That the row of the bucket scan is taken whenever it is commanded is the model's choice (log 4). -/
def Obligations.FilterRebuild : Prop :=
  (∀ (hdr : ReqHdr) (s : State), s.mayServe hdr .fbld = true →
    (s.mode = .idle → Answers (.fbld hdr) hdr .fbld s .mode [] (dropRequest s)) ∧
    (s.mode ≠ .idle → s.manifest.rebuild ≠ none → Answers (.fbld hdr) hdr .fbld s .busy [] (dropRequest s)) ∧
    (s.mode ≠ .idle → s.manifest.rebuild = none →
      ∃ t r, Answers (.fbld hdr) hdr .fbld s .done [] t ∧
        t = { dropRequest s with manifest := { s.manifest with rebuild := some r } } ∧ r.scanPoint = 0 ∧
        ∀ cell, counterAt r.fresh cell = 0)) ∧
  ∀ s : State, ∃ t, Leads .bucketScan s t ∧ (s.manifest.rebuild = none → t = s) ∧
    ∀ r, s.manifest.rebuild = some r → FilterForm r.fresh →
      ∃ fresh,
        (∀ cell, counterAt fresh cell =
          min 15 (counterAt r.fresh cell + ((s.manifest.bucket r.scanPoint).filter (fun e => e.tag % 4093 == cell)).length)) ∧
        (r.scanPoint < 1020 →
          t = { s with
            manifest := { s.manifest with rebuild := some { scanPoint := r.scanPoint + 1, fresh := fresh } } }) ∧
        (r.scanPoint = 1020 →
          t = notify
            { Notice.of .filterDone with
              detail1 := ((fresh.filter (fun x => x.2 == 15)).length : Nat)
              detail2 := (fresh.length : Nat) }
            { s with
              manifest :=
                { s.manifest with
                  filter := fresh
                  rebuild := none
                  rebuildsDone := satInc 65535 s.manifest.rebuildsDone } })

/-- Every step keeps the law of the Manifest Store: one entry per tag, in a way of its bucket; every filter counter sticky at 15 or counting the live entries of its cell, in the fresh filter for the scanned buckets (R61 to R63, R74, R75). -/
def Obligations.ManifestLawIsKept : Prop := ∀ s t : State, s.manifest.Law → step s = .next t → t.manifest.Law

/-! ## Zones, rules and routes (chapter 5) -/

/-- The choice among a set of chutes: of those that accept (OPEN with fewer than 8 orders) the one with the most room, the lowest number among equals; none when none accepts (R85, R86). -/
def Obligations.ChuteChosen : Prop :=
  ∀ (chutes : List Chute) (set : List Nat),
    (∀ j, chooseChute chutes set = some j ↔
      j ∈ set ∧ ∃ c, chutes[j]? = some c ∧ c.state = .opened ∧ c.queue.length < 8 ∧
        ∀ j' ∈ set, ∀ c', chutes[j']? = some c' → c'.state = .opened → c'.queue.length < 8 →
          c'.cfg.capacity - c'.cart.length - c'.queue.length < c.cfg.capacity - c.cart.length - c.queue.length ∨
            (c'.cfg.capacity - c'.cart.length - c'.queue.length = c.cfg.capacity - c.cart.length - c.queue.length ∧ j ≤ j')) ∧
    (chooseChute chutes set = none ↔
      ∀ j ∈ set, ∀ c, chutes[j]? = some c → c.state ≠ .opened ∨ 8 ≤ c.queue.length)

/-- A rule's match against an identified verdict by its kind, and against a stray verdict by its reason alone; its action can be carried out when its chute, or a chute of its set, accepts, and RECIRCULATE and STRAY always. The scan of the rule list: the first enabled rule that matches and can be carried out is taken, TAKEN counted; the matching rules before it count PASSED; no other rule changes (R84 to R88). -/
def Obligations.FirstRuleTaken : Prop :=
  (∀ (p : Placed) (m : Match),
    m.fits p = true ↔
      match m with
      | .zone lo hi => lo ≤ p.zone ∧ p.zone ≤ hi
      | .deck lo hi sec => lo ≤ p.deck ∧ p.deck ≤ hi ∧ ∀ x ∈ sec, x = p.sec
      | .group v => p.group = v
      | .flag f => (f = .priority ∧ p.priority = true) ∨ (f = .oversize ∧ p.oversize = true)
      | .tag lo hi => lo ≤ p.tag ∧ p.tag ≤ hi
      | .any => True
      | .reason _ => False) ∧
  (∀ (reason : StrayReason) (m : Match), m.fitsStray reason = true ↔ m = .reason reason) ∧
  (∀ (chutes : List Chute) (a : Action) (t : Taken),
    a.try chutes = some t ↔
      match a with
      | .toChute j => t = .chute j ∧ ∃ c, chutes[j]? = some c ∧ c.state = .opened ∧ c.queue.length < 8
      | .toSet set => ∃ j, t = .chute j ∧ chooseChute chutes set = some j
      | .recirculate => t = .recirculate
      | .stray => t = .stray) ∧
  ∀ (chutes : List Chute) (fits : Match → Bool) (rules : List Rule) (pass : Rule → Rule),
    pass = (fun r => if r.enabled && fits r.mtch then { r with passed := satInc 65535 r.passed } else r) →
    (∀ rules' t, scanRules chutes fits rules = (rules', some t) →
      ∃ before r after, rules = before ++ r :: after ∧ r.enabled = true ∧ fits r.mtch = true ∧
        r.action.try chutes = some t ∧
        (∀ b ∈ before, b.enabled = true → fits b.mtch = true → b.action.try chutes = none) ∧
        rules' = before.map pass ++ { r with taken := satInc 65535 r.taken } :: after) ∧
    (∀ rules', scanRules chutes fits rules = (rules', none) →
      rules' = rules.map pass ∧ ∀ b ∈ rules, b.enabled = true → fits b.mtch = true → b.action.try chutes = none)

/-- The result of a resolution: an identified verdict is OUT_OF_PLAN above every ending, else placed in its zone; a DECK route by the rule taken; RECIRCULATE by a rule or the default action, replaced in DRAINING by the stray set with NO_ROUTE and DRAIN_REPLACED; STRAY by a rule or the default action is NO_ROUTE; the default action counts DEFAULT. A stray, OUT_OF_PLAN and NO_ROUTE among them, keeps its reason and is routed by the REASON rules, a RECIRCULATE of which is replaced in DRAINING too, and else by the stray set: a route of kind STRAY, or a block (R81, R87 to R92). -/
def Obligations.RouteResult : Prop :=
  ∀ (k tag cabin group : Nat) (pr ov : Bool) (s : State) (y : State × Resolved),
    (y = resolveRoute k tag (.identified tag cabin group pr ov) s →
      ((∀ z ∈ s.router.zones, z.ending < cabin) →
        y.2.reason = some .outOfPlan ∧ y.2.cabin = cabin ∧ y.2.zone = none ∧
          StrayRouted k tag .outOfPlan s (y.1, y.2.route)) ∧
      ∀ (n : Nat) (z : Zone) (scan : List Rule × Option Taken) (u : State), s.router.zones[n]? = some z →
        cabin ≤ z.ending → (∀ i w, i < n → s.router.zones[i]? = some w → w.ending < cabin) →
        scan = scanRules s.carts.chutes
          (Match.fits { tag := tag, group := group, priority := pr, oversize := ov, zone := n, deck := z.deck, sec := z.sec })
          s.router.rules →
        u = { s with
          router :=
            { s.router with
              rules := scan.1
              defaults := if scan.2 = none then satInc 65535 s.router.defaults else s.router.defaults } } →
        y.2.cabin = cabin ∧ y.2.zone = some n ∧
        (∀ j, scan.2 = some (.chute j) →
          y = (u, { route := .chute j .deck, reason := none, cabin := cabin, zone := some n })) ∧
        ((scan.2 = some .recirculate ∨ (scan.2 = none ∧ s.router.dflt = .recirculate)) → s.mode ≠ .draining →
          y = (u, { route := .recirculate, reason := none, cabin := cabin, zone := some n })) ∧
        ((scan.2 = some .recirculate ∨ (scan.2 = none ∧ s.router.dflt = .recirculate)) → s.mode = .draining →
          y.2.reason = some .noRoute ∧
            StraySetTried k tag .noRoute
              { u with router := { u.router with drainReplaced := satInc 65535 s.router.drainReplaced } }
              (y.1, y.2.route)) ∧
        ((scan.2 = some .stray ∨ (scan.2 = none ∧ s.router.dflt = .stray)) →
          y.2.reason = some .noRoute ∧ StrayRouted k tag .noRoute u (y.1, y.2.route))) ∧
    ∀ (reason : StrayReason) (w : State × Resolved), w = resolveRoute k tag (.stray reason) s →
      w.2.cabin = 0 ∧ w.2.zone = none ∧ w.2.reason = some reason ∧ StrayRouted k tag reason s (w.1, w.2.route)

/-- ZLOAD, RLOAD and RSET by their modes and ranges: a whole zone table with its loaded flag; the parts of a rule list, each rule checked by its match, action and targets, installed by the FINAL part with every tally 0 and the rest disabled; one rule with its tallies 0. A refused one changes nothing (R82, R83, R94 to R96; the widths of the replies are log 14, and that every action carries its targets as a list with its count is log 33). -/
def Obligations.TablesLoaded : Prop :=
  (∀ (r : RuleArg) (x : Rule), checkRule r = some x ↔ RuleCarried r x) ∧
  (∀ (rs : List RuleArg) (xs : List Rule), checkRules rs = some xs ↔ rs.map checkRule = xs.map some) ∧
  ∀ (hdr : ReqHdr) (s : State) (zones : List Zone) (a : RloadArg) (rules : List Rule) (b : RsetArg),
    (s.mayServe hdr (.zload (some zones)) = true → zones.length = 32 →
      (s.mode ∈ [.sorting, .draining, .drained] →
        Answers (.zload hdr (some zones)) hdr (.zload (some zones)) s .mode [] (dropRequest s)) ∧
      (s.mode ∈ [.idle, .setup, .shadow] →
        ((∃ z ∈ zones, 9999 < z.ending ∨ z.deck = 0 ∨ 20 < z.deck ∨ 3 < z.sec) →
          Answers (.zload hdr (some zones)) hdr (.zload (some zones)) s .range [] (dropRequest s)) ∧
        ((∀ z ∈ zones, z.ending ≤ 9999 ∧ 1 ≤ z.deck ∧ z.deck ≤ 20 ∧ z.sec ≤ 3) →
          ∃ covering, Answers (.zload hdr (some zones)) hdr (.zload (some zones)) s .done
            [.u8 covering, .u16 ((zones.map Zone.ending).foldl max 0)]
            { dropRequest s with router := { s.router with zones := zones, zonesLoaded := true } } ∧
            covering = ((List.range 32).filter (fun n =>
              decide ((((zones.take n).map Zone.ending).foldl max 0) < (zones.map Zone.ending).getD n 0))).length))) ∧
    (s.mayServe hdr (.rload (some a)) = true → a.rules.length = a.count → a.final ≤ 1 →
      (s.mode ∈ [.sorting, .draining, .drained] →
        Answers (.rload hdr (some a)) hdr (.rload (some a)) s .mode [.u8 s.router.staging.length] (dropRequest s)) ∧
      (s.mode ∈ [.idle, .setup, .shadow] →
        ((a.count = 0 ∨ 16 < a.count ∨ 63 < a.first ∨ 64 < a.first + a.count ∨ checkRules a.rules = none ∨
            (a.first ≠ 0 ∧ s.router.staging.length ≠ a.first)) →
          Answers (.rload hdr (some a)) hdr (.rload (some a)) s .range [.u8 s.router.staging.length] (dropRequest s)) ∧
        (1 ≤ a.count → a.count ≤ 16 → a.first + a.count ≤ 64 → checkRules a.rules = some rules →
          (a.first = 0 ∨ s.router.staging.length = a.first) →
          (a.final = 0 →
            Answers (.rload hdr (some a)) hdr (.rload (some a)) s .done [.u8 (a.first + a.count)]
              { dropRequest s with
                router := { s.router with staging := s.router.staging.take a.first ++ rules } }) ∧
          (a.final = 1 →
            Answers (.rload hdr (some a)) hdr (.rload (some a)) s .done [.u8 (a.first + a.count)]
              { dropRequest s with
                router :=
                  { s.router with
                    rules :=
                      s.router.staging.take a.first ++ rules ++
                        List.replicate (64 - (a.first + a.count))
                          { enabled := false, mtch := .any, action := .recirculate, taken := 0, passed := 0 }
                    rulesLoaded := true
                    staging := [] } })))) ∧
    (s.mayServe hdr (.rset (some b)) = true →
      (s.mode = .idle → Answers (.rset hdr (some b)) hdr (.rset (some b)) s .mode [] (dropRequest s)) ∧
      (s.mode ≠ .idle →
        (63 < b.number ∨ checkRule b.rule = none →
          Answers (.rset hdr (some b)) hdr (.rset (some b)) s .range [] (dropRequest s)) ∧
        ∀ r, b.number ≤ 63 → checkRule b.rule = some r →
          r.taken = 0 ∧ r.passed = 0 ∧
            Answers (.rset hdr (some b)) hdr (.rset (some b)) s .done []
              { dropRequest s with router := { s.router with rules := s.router.rules.set b.number r } }))

/-! ## Discharge orders (chapter 6) -/

/-- The fire of the head of a chute's queue in SORTING or DRAINING with room in the timing queue: DROP joins the queue, FIRED counts, the order leaves, the entry joins the cart list with the near-full warning and the FULL test; with an eye the tray is DROPPING, the entry PENDING and a confirmation opened, the oldest of a list of 4 expiring first; without one the tray is EMPTY, with an evaluation of the drain watch, and the entry CONFIRMED. A STRAY order is handed to the Stray List, a DECK order is not. The next order arms and is evaluated at once, without movement (log 25), or the monitor is disarmed (R103, R105 to R107, R124, R125, R128, R129). -/
def Obligations.DropFired : Prop :=
  ∀ (adv j : Nat) (s base warned handed : State) (c d : Chute) (m : Monitor) (o : Order) (rest : List Order) (x : Tray)
      (trays : List Tray),
    s.carts.chutes[j]? = some c → c.mon = some m → c.queue = o :: rest → o.tray = m.tray → s.trays[o.tray]? = some x →
    x.state = .routed → (s.mode = .sorting ∨ s.mode = .draining) → s.link.timing.length < 16 →
    s.headDecision adv j = .fire →
    d = { c with
      queue := rest
      fired := satInc 65535 c.fired
      cart :=
        c.cart ++
          [{ tag := x.tag, cabin := x.cabin, tray := o.tray, seq := o.seq
             status := if c.cfg.confirm = 0 then .confirmed else .pending, amended := false }]
      nearFull := c.nearFull || decide (c.cfg.watermark ≠ 0 ∧ c.cart.length + 1 = c.cfg.watermark)
      awaiting :=
        if c.cfg.confirm = 0 then c.awaiting
        else
          (if c.awaiting.length < 4 then c.awaiting else c.awaiting.tail) ++
            [{ tray := o.tray, seq := o.seq, serial := c.serial.getD 0, expiry := s.now + c.cfg.confirm * 10 }]
      timedOut := if c.cfg.confirm = 0 ∨ c.awaiting.length < 4 then c.timedOut else satInc 65535 c.timedOut
      state :=
        if c.state = .opened ∨ c.state = .full then
          (if c.cart.length + 1 + rest.length < c.cfg.capacity then .opened else .full)
        else c.state } →
    trays =
      s.trays.set o.tray
        (if c.cfg.confirm = 0 then Tray.blank .empty else { x with state := .dropping, serial := c.serial }) →
    base = { s with
      trays := base.trays
      link :=
        { s.link with
          timing :=
            s.link.timing ++
              [{ dst := c.cfg.station, body := .drop j o.tray c.cfg.side o.seq (c.serial.getD 0) x.tag, begun := false }] }
      carts :=
        { s.carts with chutes := s.carts.chutes.set j (d.headArmed s.isTracking s.tracker.speed) } } →
    (c.cfg.confirm = 0 ∨ c.awaiting.length < 4 → base.trays = trays) →
    (c.cfg.confirm ≠ 0 → 4 ≤ c.awaiting.length → ∀ a ∈ c.awaiting.head?,
      base.trays =
        trays.modify a.tray (fun y => if y.state = .dropping then { y with state := .doubt } else y)) →
    warned =
      (if c.cfg.watermark ≠ 0 ∧ c.nearFull = false ∧ c.cart.length + 1 = c.cfg.watermark then
        notify
          { Notice.of .nearFull with chute := some j, serial := c.serial, detail1 := (c.cart.length + 1 : Nat) } base
      else base) →
    ((o.kind = .deck ∨ o.reason = none) → handed = warned) →
    (∀ reason, o.kind = .stray → o.reason = some reason →
      handed =
        recordStray { tag := x.tag, tag2 := x.tag2, reason := reason, tray := o.tray, lap := x.lap, chute := j }
          warned) →
    ∃ w : State, evalHead adv j s = evalHead 0 j w ∧ (w.HeadStays j → evalHead adv j s = w) ∧
      Kept s (evalHead adv j s) ∧ (c.cfg.confirm ≠ 0 → w = handed) ∧ (c.cfg.confirm = 0 → w = drainWatch handed)

/-- The head of a chute's queue that does not lead to a drop: a fire in SHADOW counts SHADOW, a miss counts MISSED, a fire with the timing queue full counts QUEUE_FULL and MISSED; the order leaves, the tray recirculates, the FULL test follows, and nothing else changes but that the next order arms and is evaluated at once, without movement (log 25), or the monitor is disarmed (R103, R108 to R110, R124). -/
def Obligations.OrderNotDropped : Prop :=
  ∀ (adv j : Nat) (s w : State) (c d : Chute) (m : Monitor) (o : Order) (rest : List Order) (x : Tray),
    s.carts.chutes[j]? = some c → c.mon = some m → c.queue = o :: rest → o.tray = m.tray → s.trays[o.tray]? = some x →
    x.state = .routed →
    d = { c with
      queue := rest
      state :=
        if c.state = .opened ∨ c.state = .full then
          (if c.cart.length + rest.length < c.cfg.capacity then .opened else .full)
        else c.state } →
    (s.headDecision adv j = .stay → evalHead adv j s = s) ∧
    ((s.headDecision adv j = .fire ∧ s.mode = .shadow ∧
        w = { s with
          trays := s.trays.set o.tray { x with state := .recirculate, target := none, seq := none }
          carts :=
            { s.carts with
              chutes :=
                s.carts.chutes.set j
                  ({ d with shadow := satInc 65535 c.shadow }.headArmed s.isTracking s.tracker.speed) } }) ∨
      (s.headDecision adv j = .miss ∧
        w = { s with
          trays := s.trays.set o.tray { x with state := .recirculate, target := none, seq := none }
          carts :=
            { s.carts with
              chutes :=
                s.carts.chutes.set j
                  ({ d with missed := satInc 65535 c.missed }.headArmed s.isTracking s.tracker.speed) } }) ∨
      (s.headDecision adv j = .fire ∧ (s.mode = .sorting ∨ s.mode = .draining) ∧ 16 ≤ s.link.timing.length ∧
        w = { s with
          trays := s.trays.set o.tray { x with state := .recirculate, target := none, seq := none }
          sched := { s.sched with queueFull := satInc 65535 s.sched.queueFull }
          carts :=
            { s.carts with
              chutes :=
                s.carts.chutes.set j
                  ({ d with missed := satInc 65535 c.missed }.headArmed s.isTracking s.tracker.speed) } }) →
      evalHead adv j s = evalHead 0 j w ∧ (w.HeadStays j → evalHead adv j s = w))

/-- A manifest change against the fire: the order of a ROUTED tray is cancelled with CANCELLED and its tray recirculates; where the chute's monitor watched it, the next order arms and is evaluated at once, or the monitor is disarmed. A DROPPING or DOUBT tray, or an open cart entry where no tray that holds the tag is ROUTED, DROPPING or DOUBT, is answered as too late with its notice, TOO_LATE and the AMENDED mark of the entry; a tag that stands nowhere so changes nothing (R103, R112, R116 to R118, R124, R132). -/
def Obligations.ManifestChangeReaches : Prop :=
  ∀ (kind : ChangeKind) (tag : Nat) (s : State) (note : NoticeKind),
    note = (match kind with
      | .hold => .holdTooLate
      | .delete => .amendAfterDrop .delete
      | .amend => .amendAfterDrop .amend) →
    (∀ (k j : Nat) (x : Tray) (c d : Chute) (w : State), s.trayOfTag tag = some (k, x) → x.state = .routed →
      x.target = some j → s.carts.chutes[j]? = some c → (∃ o ∈ c.queue, o.tray = k) →
      d = { c with
        queue := c.queue.eraseP (fun o => o.tray == k)
        state :=
          if c.state = .opened ∨ c.state = .full then
            (if c.cart.length + (c.queue.length - 1) < c.cfg.capacity then .opened else .full)
          else c.state } →
      w = { s with
        trays := s.trays.set k { x with state := .recirculate, target := none, seq := none }
        sched := { s.sched with cancelled := satInc 65535 s.sched.cancelled }
        carts := w.carts } →
      ((∀ m ∈ c.mon, m.tray ≠ k) → w.carts = { s.carts with chutes := s.carts.chutes.set j d } →
        manifestChange kind tag s = w) ∧
      ((∃ m ∈ c.mon, m.tray = k) →
        w.carts =
          { s.carts with chutes := s.carts.chutes.set j (d.headArmed s.isTracking s.tracker.speed) } →
        manifestChange kind tag s = evalHead 0 j w ∧ (w.HeadStays j → manifestChange kind tag s = w))) ∧
    (∀ k x j serial seq c, s.trayOfTag tag = some (k, x) → (x.state = .dropping ∨ x.state = .doubt) →
      x.target = some j → x.serial = some serial → x.seq = some seq → s.carts.chutes[j]? = some c →
      manifestChange kind tag s =
        { s with
          sched := { s.sched with tooLate := satInc 65535 s.sched.tooLate }
          mgmt :=
            s.mgmt.push
              (s.stamp { Notice.of note with tray := some k, tag := tag, chute := some j, serial := some serial })
          carts :=
            { s.carts with
              chutes :=
                s.carts.chutes.set j
                  { c with
                    cart :=
                      if c.hasCart = true ∧ c.serial = some serial then
                        c.cart.map (fun e => if e.tray = k ∧ e.seq = seq then { e with amended := true } else e)
                      else c.cart } } }) ∧
    ((∀ k x, s.trayOfTag tag = some (k, x) → x.state ≠ .routed ∧ x.state ≠ .dropping ∧ x.state ≠ .doubt) →
      ((∀ c ∈ s.carts.chutes, ∀ e ∈ c.cart, e.tag ≠ tag) → manifestChange kind tag s = s) ∧
      ∀ j serial e, s.cartOfTag tag = some (j, serial, e) →
        e.tag = tag ∧
          ∃ c, s.carts.chutes[j]? = some c ∧ serial = c.serial.getD 0 ∧ e ∈ c.cart ∧
            manifestChange kind tag s =
              { s with
                sched := { s.sched with tooLate := satInc 65535 s.sched.tooLate }
                mgmt :=
                  s.mgmt.push
                    (s.stamp
                      { Notice.of note with tray := some e.tray, tag := tag, chute := some j, serial := some serial })
                carts :=
                  { s.carts with
                    chutes :=
                      s.carts.chutes.set j
                        { c with
                          cart :=
                            if c.hasCart = true ∧ c.serial = some serial then
                              c.cart.map (fun y =>
                                if y.tray = e.tray ∧ y.seq = e.seq then { y with amended := true } else y)
                            else c.cart } } })

/-! ## Chutes and carts (chapter 7) -/

/-- The check of every frame from a chute node: dropped with CHUTE_REJECTED, saturating at 65,535, when the chute is not configured or the source is not its node station; one that passes is handed to its entry in every mode and tracking state (R127). A payload too short names no valid chute (R179). -/
def Obligations.ChuteFramesChecked : Prop :=
  ∀ (src j : Nat) (bytes : List Byte) (s u : State), s.CapacityLaw →
    u = { s with
      carts := { s.carts with rejected := if s.carts.rejected < 65535 then s.carts.rejected + 1 else 65535 } } →
    ((63 < j ∨ s.carts.chutes[j]? = none ∨ ∃ c, s.carts.chutes[j]? = some c ∧ c.cfg.station ≠ src) →
      ∀ f ∈ [Instr.ceye src (.full j), .cout src (.full j), .cin src (.full j), .cflt src (.full j), .cclr src (.full j)],
        Leads f s u) ∧
    (∀ c, s.carts.chutes[j]? = some c → c.cfg.station = src →
      Leads (.ceye src (.full j)) s (eyeSaw j c s) ∧ Leads (.cout src (.full j)) s (cartOut j c s) ∧
        Leads (.cin src (.full j)) s (cartIn j c s) ∧ Leads (.cflt src (.full j)) s (faultChute j c s) ∧
        Leads (.cclr src (.full j)) s (clearFault j c s)) ∧
    ∀ f ∈ [Instr.ceye src (.short bytes), .cout src (.short bytes), .cin src (.short bytes), .cflt src (.short bytes),
        .cclr src (.short bytes)], Leads f s u

/-- CEYE confirms the oldest confirmation: it leaves the list, its entry becomes CONFIRMED if its cart is still current, its DROPPING tray EMPTY; with an empty list it counts UNEXPECTED with UNEXPECTED_DROP. CONFIRMATION_EXPIRY ends the oldest with TIMED_OUT, its DROPPING tray DOUBT, the entry as it stood (R129, R130; an expiry is taken when commanded, log 4). That UNEXPECTED_DROP carries the cart serial just where there is a current cart, and so none at a FAULTED chute that was in CLOSED or SWAP, is the model's reading (log 34). -/
def Obligations.ConfirmationsEnd : Prop :=
  ∀ (j : Nat) (s : State) (c : Chute), s.carts.chutes[j]? = some c →
    (∃ t, Leads (.ceye c.cfg.station (.full j)) s t ∧
      (c.awaiting = [] →
        t = { s with
          carts := { s.carts with chutes := s.carts.chutes.set j { c with unexpected := satInc 65535 c.unexpected } }
          mgmt :=
            s.mgmt.push
              (s.stamp
                { Notice.of .unexpectedDrop with
                  chute := some j, serial := if c.hasCart then c.serial else none }) }) ∧
      ∀ a rest, c.awaiting = a :: rest →
        (∀ i, i ≠ j → t.carts.chutes[i]? = s.carts.chutes[i]?) ∧
        t.carts.chutes[j]? =
          some
            { c with
              awaiting := rest
              cart :=
                if c.hasCart = true ∧ c.serial = some a.serial then
                  c.cart.map (fun e => if e.tray = a.tray ∧ e.seq = a.seq then { e with status := .confirmed } else e)
                else c.cart } ∧
        ∀ x, s.trays[a.tray]? = some x →
          (x.state = .dropping →
            t = drainWatch { s with trays := s.trays.set a.tray (Tray.blank .empty), carts := t.carts }) ∧
          (x.state ≠ .dropping → t = { s with carts := t.carts })) ∧
    ∃ t, Leads (.confirmationExpiry j) s t ∧ (c.awaiting = [] → t = s) ∧
      ∀ a rest, c.awaiting = a :: rest →
        (∀ x, s.trays[a.tray]? = some x → x.state = .dropping →
          t = { s with
            trays := s.trays.set a.tray { x with state := .doubt }
            carts :=
              { s.carts with
                chutes := s.carts.chutes.set j { c with awaiting := rest, timedOut := satInc 65535 c.timedOut } } }) ∧
        ((∀ x, s.trays[a.tray]? = some x → x.state ≠ .dropping) →
          t = { s with
            carts :=
              { s.carts with
                chutes := s.carts.chutes.set j { c with awaiting := rest, timedOut := satInc 65535 c.timedOut } } })

/-- COUT begins a swap: an OPEN or FULL chute becomes SWAP with its queue cancelled and its cart closed and reported, even empty; a FAULTED one does the same to its prior state; SWAP loses its cart present; CLOSED is not changed. CIN sets cart present in SWAP and ends the swap where no report is pending, with a new cart; in any other state but FAULTED from SWAP it changes nothing (R135, R136). -/
def Obligations.CartsSwapped : Prop :=
  ∀ (j : Nat) (s : State) (c : Chute), s.carts.chutes[j]? = some c →
    (∃ t, Leads (.cout c.cfg.station (.full j)) s t ∧
      ((c.state = .opened ∨ c.state = .full) →
        t = { s with
          trays := t.trays
          sched := { s.sched with cancelled := t.sched.cancelled }
          carts :=
            s.carts.reported s.session.voyage j c { c with state := .swap, present := false, queue := [], mon := none } } ∧
        OrdersCancelled c s t) ∧
      (c.state = .faulted → (c.prior = some .opened ∨ c.prior = some .full) →
        t = { s with carts := s.carts.reported s.session.voyage j c { c with prior := some .swap, present := false } }) ∧
      ((c.state = .swap ∨ (c.state = .faulted ∧ c.prior = some .swap)) →
        t = { s with carts := { s.carts with chutes := s.carts.chutes.set j { c with present := false } } }) ∧
      ((c.state = .closed ∨ (c.state = .faulted ∧ c.prior = some .closed)) → t = s)) ∧
    ∃ t, Leads (.cin c.cfg.station (.full j)) s t ∧
      (c.state = .swap → c.report ≠ .none →
        t = { s with carts := { s.carts with chutes := s.carts.chutes.set j { c with present := true } } }) ∧
      (c.state = .swap → c.report = .none → c.queue = [] → 1 ≤ c.cfg.capacity →
        t = { s with carts := s.carts.recarted j c }) ∧
      (c.state = .faulted → c.prior = some .swap →
        t = { s with carts := { s.carts with chutes := s.carts.chutes.set j { c with present := true } } }) ∧
      ((c.state = .closed ∨ c.state = .opened ∨ c.state = .full ∨ (c.state = .faulted ∧ c.prior ≠ some .swap)) → t = s)

/-- CFLT makes a chute FAULTED with its prior state and cancels its queue, and in any state sets the STOP latch where stop_on_fault is set; CCLR gives a FAULTED chute its prior state back, with the FULL test, and ends a swap whose report is sent and whose cart stands there; it releases no latch (R16, R113, R137, R138). That STOP_SEEN follows STOP_ASSERTED in the same event where the level changes is the model's reading (R17, log 8). -/
def Obligations.ChuteFaults : Prop :=
  ∀ (j : Nat) (s : State) (c : Chute), s.carts.chutes[j]? = some c →
    (∃ t, Leads (.cflt c.cfg.station (.full j)) s t ∧
      (c.state ≠ .faulted →
        t = { s with
          tracker := t.tracker
          mgmt := t.mgmt
          trays := t.trays
          sched := { s.sched with cancelled := t.sched.cancelled }
          carts :=
            { s.carts with
              chutes :=
                s.carts.chutes.set j
                  { c with state := .faulted, prior := some c.state, queue := [], mon := none } } } ∧
        OrdersCancelled c s t) ∧
      (c.state = .faulted → t = { s with tracker := t.tracker, mgmt := t.mgmt }) ∧
      t.tracker =
        { s.tracker with
          latch := if c.cfg.stopOnFault then some (s.tracker.latch.getD (.chuteFault j)) else s.tracker.latch } ∧
      ((c.cfg.stopOnFault = false ∨ s.tracker.latch ≠ none) → t.mgmt = s.mgmt) ∧
      (c.cfg.stopOnFault = true → s.tracker.latch = none →
        t.mgmt =
          if s.tracker.stopIn = true ∧ s.tracker.stopOut = true ∧ s.pins.stopHeld = false then
            (s.mgmt.push (s.stamp { Notice.of (.stopAsserted (.chuteFault j)) with chute := some j })).push
              (s.stamp (Notice.of (.stopSeen true)))
          else s.mgmt.push (s.stamp { Notice.of (.stopAsserted (.chuteFault j)) with chute := some j }))) ∧
    ∃ t, Leads (.cclr c.cfg.station (.full j)) s t ∧ (c.state ≠ .faulted → t = s) ∧
      (c.state = .faulted → (c.prior = some .opened ∨ c.prior = some .full) →
        t = { s with
          carts :=
            { s.carts with
              chutes :=
                s.carts.chutes.set j
                  { c with
                    prior := none
                    state := if c.cart.length + c.queue.length < c.cfg.capacity then .opened else .full } } }) ∧
      (c.state = .faulted → c.prior = some .closed →
        t = { s with
          carts := { s.carts with chutes := s.carts.chutes.set j { c with prior := none, state := .closed } } }) ∧
      (c.state = .faulted → c.prior = some .swap →
        ((c.report ≠ .none ∨ c.present = false) →
          t = { s with
            carts := { s.carts with chutes := s.carts.chutes.set j { c with prior := none, state := .swap } } }) ∧
        (c.report = .none → c.present = true → c.queue = [] → 1 ≤ c.cfg.capacity →
          t = { s with carts := s.carts.recarted j { c with prior := none } }))

/-- CCMD: MODE in IDLE, RANGE above 63, NOT_FOUND for an unconfigured chute; RANGE outside IDLE for an action that is none of the four or is missing (R189 gives RANGE its meaning; that such an action is refused so, and after the mode, is log 13). OPEN starts a new cart at a CLOSED chute without a pending report, with its serial in the reply; CLOSE makes an OPEN or FULL chute CLOSED with its queue cancelled and its cart reported unless empty; FORCE_CLOSE is COUT where there is a current cart and BUSY elsewhere; CLEAR_FAULT is CCLR (section 7.8, R139 to R142; the coding of the serial is log 14). -/
def Obligations.ChuteCommands : Prop :=
  ∀ (hdr : ReqHdr) (j : Nat) (s : State),
    (∀ x ∈ [(Instr.ccmdOpen hdr (.of j), Request.ccmdOpen (.of j)), (.ccmdClose hdr j, .ccmdClose j),
        (.ccmdForceClose hdr j, .ccmdForceClose j), (.ccmdClearFault hdr j, .ccmdClearFault j)],
      s.mayServe hdr x.2 = true →
      (s.mode = .idle → Answers x.1 hdr x.2 s .mode [] (dropRequest s)) ∧
      (s.mode ≠ .idle → 63 < j → Answers x.1 hdr x.2 s .range [] (dropRequest s)) ∧
      (s.mode ≠ .idle → j ≤ 63 → s.carts.chutes[j]? = none → Answers x.1 hdr x.2 s .notFound [] (dropRequest s))) ∧
    (∀ arg ∈ [ActionArg.short, .badAction j], s.mayServe hdr (.ccmdOpen arg) = true →
      (s.mode = .idle → Answers (.ccmdOpen hdr arg) hdr (.ccmdOpen arg) s .mode [] (dropRequest s)) ∧
      (s.mode ≠ .idle → Answers (.ccmdOpen hdr arg) hdr (.ccmdOpen arg) s .range [] (dropRequest s))) ∧
    ∀ c, s.mode ≠ .idle → j ≤ 63 → s.carts.chutes[j]? = some c →
      (s.mayServe hdr (.ccmdOpen (.of j)) = true →
        (c.state = .closed → c.report = .none → c.queue = [] → 1 ≤ c.cfg.capacity →
          Answers (.ccmdOpen hdr (.of j)) hdr (.ccmdOpen (.of j)) s .done [.u16 s.carts.nextSerial]
            { dropRequest s with carts := s.carts.recarted j c }) ∧
        ((c.state = .opened ∨ c.state = .full) →
          Answers (.ccmdOpen hdr (.of j)) hdr (.ccmdOpen (.of j)) s .done [] (dropRequest s)) ∧
        ((c.state = .swap ∨ c.state = .faulted ∨ (c.state = .closed ∧ c.report ≠ .none)) →
          Answers (.ccmdOpen hdr (.of j)) hdr (.ccmdOpen (.of j)) s .busy [] (dropRequest s))) ∧
      (s.mayServe hdr (.ccmdClose j) = true →
        ∃ t, Answers (.ccmdClose hdr j) hdr (.ccmdClose j) s .done [] t ∧
          ((c.state = .opened ∨ c.state = .full) →
            t = { dropRequest s with
              trays := t.trays
              sched := { s.sched with cancelled := t.sched.cancelled }
              carts :=
                if c.cart = [] then
                  { s.carts with
                    chutes :=
                      s.carts.chutes.set j { c with state := .closed, present := false, queue := [], mon := none } }
                else
                  s.carts.reported s.session.voyage j c
                    { c with state := .closed, present := false, queue := [], mon := none } } ∧
            OrdersCancelled c s t) ∧
          (c.state = .swap →
            t = { dropRequest s with
              carts :=
                { s.carts with chutes := s.carts.chutes.set j { c with state := .closed, present := false } } }) ∧
          ((c.state = .closed ∨ (c.state = .faulted ∧ c.prior = some .closed)) → t = dropRequest s) ∧
          (c.state = .faulted → (c.prior = some .opened ∨ c.prior = some .full) →
            t = { dropRequest s with
              carts :=
                if c.cart = [] then { s.carts with chutes := s.carts.chutes.set j { c with prior := some .closed } }
                else s.carts.reported s.session.voyage j c { c with prior := some .closed } }) ∧
          (c.state = .faulted → c.prior = some .swap →
            t = { dropRequest s with
              carts :=
                { s.carts with
                  chutes := s.carts.chutes.set j { c with prior := some .closed, present := false } } })) ∧
      (s.mayServe hdr (.ccmdForceClose j) = true →
        (c.hasCart = true →
          Answers (.ccmdForceClose hdr j) hdr (.ccmdForceClose j) s .done [] (cartOut j c (dropRequest s))) ∧
        (c.hasCart = false → Answers (.ccmdForceClose hdr j) hdr (.ccmdForceClose j) s .busy [] (dropRequest s))) ∧
      (s.mayServe hdr (.ccmdClearFault j) = true →
        Answers (.ccmdClearFault hdr j) hdr (.ccmdClearFault j) s .done [] (clearFault j c (dropRequest s)))

/-- CCFG: MODE outside IDLE and SETUP, NOT_READY before an LCFG, RANGE for a bad part; a part is staged, and the FINAL part installs the staged table: every chute CLOSED with its region after those before it, delays at most 250, watermarks at most the capacity. A table in use is BUSY, too many slots FULL, out of loop order RANGE, a shared station DUPLICATE, the final part then taken back out (R121 to R123; the coding of the reply is log 14, and that a stop_on_fault above 1 is RANGE, which R121 does not list, log 23). -/
def Obligations.ChuteTableInstalled : Prop :=
  ∀ (hdr : ReqHdr) (s : State) (a : CcfgArg) (g : Geometry) (staged : List ChuteArg) (back : State),
    s.mayServe hdr (.ccfg (some a)) = true → a.chutes.length = a.count → a.final ≤ 1 →
    staged = s.carts.staging.take a.first ++ a.chutes →
    back = { dropRequest s with
      carts := { s.carts with staging := if a.first = 0 then [] else s.carts.staging } } →
    (s.mode ≠ .idle → s.mode ≠ .setup → Answers (.ccfg hdr (some a)) hdr (.ccfg (some a)) s .mode [] (dropRequest s)) ∧
    ((s.mode = .idle ∨ s.mode = .setup) →
      (s.tracker.geo = none → Answers (.ccfg hdr (some a)) hdr (.ccfg (some a)) s .notReady [] (dropRequest s)) ∧
      (s.tracker.geo = some g →
        ((a.count = 0 ∨ 16 < a.count ∨ 63 < a.first ∨ 64 < a.first + a.count ∨
            (a.first ≠ 0 ∧ s.carts.staging.length ≠ a.first) ∨ (∃ c ∈ a.chutes, g.trays * g.pitch ≤ c.loc ∨ c.window = 0 ∨ 255 < c.window ∨ (c.side ≠ 1 ∧ c.side ≠ 2) ∨
              c.capacity = 0 ∨ 255 < c.capacity ∨ (1 ≤ c.confirm ∧ c.confirm ≤ 49) ∨ 2000 < c.confirm ∨ c.station = 0 ∨
              126 < c.station ∨ 1 < c.stopOnFault)) →
          Answers (.ccfg hdr (some a)) hdr (.ccfg (some a)) s .range [] (dropRequest s)) ∧
        (1 ≤ a.count → a.count ≤ 16 → a.first + a.count ≤ 64 → (a.first = 0 ∨ s.carts.staging.length = a.first) →
          (∀ c ∈ a.chutes, c.loc < g.trays * g.pitch ∧ 1 ≤ c.window ∧ c.window ≤ 255 ∧ (c.side = 1 ∨ c.side = 2) ∧
            1 ≤ c.capacity ∧ c.capacity ≤ 255 ∧ (c.confirm = 0 ∨ (50 ≤ c.confirm ∧ c.confirm ≤ 2000)) ∧
            1 ≤ c.station ∧ c.station ≤ 126 ∧ c.stopOnFault ≤ 1) →
          (a.final = 0 →
            Answers (.ccfg hdr (some a)) hdr (.ccfg (some a)) s .done [.u8 (a.first + a.count)]
              { dropRequest s with carts := { s.carts with staging := staged } }) ∧
          (a.final = 1 →
            ((∃ c ∈ s.carts.chutes, c.state ≠ .closed ∨ c.report ≠ .none ∨ c.awaiting ≠ []) →
              Answers (.ccfg hdr (some a)) hdr (.ccfg (some a)) s .busy [] back) ∧
            ((∀ c ∈ s.carts.chutes, c.state = .closed ∧ c.report = .none ∧ c.awaiting = []) →
              (4096 < (staged.map ChuteArg.capacity).sum → Answers (.ccfg hdr (some a)) hdr (.ccfg (some a)) s .full [] back) ∧
              ((staged.map ChuteArg.capacity).sum ≤ 4096 →
                (¬ ChutesInOrder g s.lines staged →
                  Answers (.ccfg hdr (some a)) hdr (.ccfg (some a)) s .range [] back) ∧
                (ChutesInOrder g s.lines staged → ¬ ChuteStationsOwn g s.link.own s.lines staged →
                  Answers (.ccfg hdr (some a)) hdr (.ccfg (some a)) s .duplicate [] back) ∧
                (ChutesInOrder g s.lines staged → ChuteStationsOwn g s.link.own s.lines staged →
                  ∃ t, Answers (.ccfg hdr (some a)) hdr (.ccfg (some a)) s .done
                    [.u8 staged.length, .u16 (staged.map ChuteArg.capacity).sum] t ∧
                    t = { dropRequest s with
                      carts := { s.carts with chutes := t.carts.chutes, loaded := true, staging := [] } } ∧
                    t.carts.chutes.length = staged.length ∧
                    ∀ i c, staged[i]? = some c → ∃ d : Chute, t.carts.chutes[i]? = some d ∧
                      d.cfg =
                        { loc := c.loc, delay := min 250 c.delay, window := c.window
                          side := if c.side = 1 then .left else .right, capacity := c.capacity
                          watermark := min c.capacity c.watermark, confirm := c.confirm, station := c.station
                          stopOnFault := c.stopOnFault == 1
                          first := ((staged.take i).map ChuteArg.capacity).sum } ∧
                      d.state = .closed ∧ d.prior = none ∧ d.serial = none ∧ d.cart = [] ∧ d.nearFull = false ∧
                      d.present = false ∧ d.report = .none ∧ d.awaiting = [] ∧ d.queue = [] ∧ d.mon = none ∧
                      (d.fired, d.missed, d.shadow, d.clamped, d.unexpected, d.timedOut) = (0, 0, 0, 0, 0, 0))))))))

/-- Every step keeps the law of the chutes: count + queued at most the capacity, below it in OPEN; no orders in CLOSED, SWAP or FAULTED; at most 8 orders and 4 confirmations (R85, R100, R102, R113, R129); and the law of the orders: each queued order names a ROUTED tray whose target is that chute and whose sequence is its own, each ROUTED tray has exactly one order, and IDLE, SETUP and DRAINED hold none (R100, R167). -/
def Obligations.CapacityLawIsKept : Prop :=
  ∀ s t : State, step s = .next t → (s.CapacityLaw → t.CapacityLaw) ∧ (s.OrderLaw → t.OrderLaw)

/-! ## Strays (chapter 8) -/

/-- A stray drop handed on: a nonzero tag that a record holds updates that record in place with outcome REPEAT; otherwise a new record joins the end with outcome NEW and bears the counter's serial, and the counter goes on to the next serial that no record bears, wrapping from 65,535 to 1 and passing over every serial that one bears; at 512 records KEEP_OLDEST loses the drop, and DROP_OLDEST removes the oldest record first, each counted. A deck route of a nonzero tag in SORTING or DRAINING removes the record that holds it, with REINDUCTED; in any other mode, SHADOW among them, it leaves the list as it stands (R147 to R151, R153). -/
def Obligations.StrayRecorded : Prop :=
  ∀ (d : StrayDrop) (s : State) (fresh : StrayRec) (note : Notice), s.strays.recs.length ≤ 512 →
    1 ≤ s.strays.nextSerial → s.strays.nextSerial ≤ 65535 →
    fresh = {
      serial := 0, tag := d.tag, tag2 := d.tag2, reason := d.reason, tray := d.tray, lap := d.lap, chute := d.chute
      second := s.session.clock, repeats := 1, resolved := false, resolvedTag := 0, resolvedCabin := 0 } →
    note = { Notice.of (.stray d.reason) with tray := some d.tray, tag := d.tag, chute := some d.chute } →
    (∀ before r after, d.tag ≠ 0 → s.strays.recs = before ++ r :: after → (r.tag = d.tag ∨ r.resolvedTag = d.tag) →
      (∀ x ∈ before, x.tag ≠ d.tag ∧ x.resolvedTag ≠ d.tag) →
      recordStray d s =
        notify { note with detail1 := (r.serial : Nat), detail2 := 2, detail3 := (satInc 255 r.repeats : Nat) }
          { s with
            strays :=
              { s.strays with
                recs := before ++ { fresh with serial := r.serial, repeats := satInc 255 r.repeats } :: after } }) ∧
    ((d.tag = 0 ∨ ∀ x ∈ s.strays.recs, x.tag ≠ d.tag ∧ x.resolvedTag ≠ d.tag) →
      (s.strays.recs.length < 512 →
        ∃ n i, n = Nat.repeat (fun v => if v < 65535 then v + 1 else 1) (i + 1) s.strays.nextSerial ∧
          n ≠ s.strays.nextSerial ∧ (∀ x ∈ s.strays.recs, x.serial ≠ n) ∧ 1 ≤ n ∧ n ≤ 65535 ∧
          (∀ h, h < i → ∃ x ∈ s.strays.recs,
            x.serial = Nat.repeat (fun v => if v < 65535 then v + 1 else 1) (h + 1) s.strays.nextSerial) ∧
          recordStray d s =
            notify { note with detail1 := (s.strays.nextSerial : Nat), detail2 := 1 }
              { s with
                strays :=
                  { s.strays with
                    recs := s.strays.recs ++ [{ fresh with serial := s.strays.nextSerial }]
                    nextSerial := n } }) ∧
      (s.strays.recs.length = 512 → s.strays.policy = .keepOldest →
        recordStray d s =
          notify { note with detail2 := 3 }
            { s with strays := { s.strays with lost := satInc 65535 s.strays.lost } }) ∧
      (∀ oldest rest, s.strays.recs = oldest :: rest → s.strays.recs.length = 512 → s.strays.policy = .dropOldest →
        ∃ n i, n = Nat.repeat (fun v => if v < 65535 then v + 1 else 1) (i + 1) s.strays.nextSerial ∧
          n ≠ s.strays.nextSerial ∧ (∀ x ∈ rest, x.serial ≠ n) ∧ 1 ≤ n ∧ n ≤ 65535 ∧
          (∀ h, h < i → ∃ x ∈ rest,
            x.serial = Nat.repeat (fun v => if v < 65535 then v + 1 else 1) (h + 1) s.strays.nextSerial) ∧
          recordStray d s =
            notify
              { note with
                detail1 := (s.strays.nextSerial : Nat), detail2 := 1, detail3 := (oldest.serial : Nat) }
              { s with
                strays :=
                  { s.strays with
                    recs := rest ++ [{ fresh with serial := s.strays.nextSerial }]
                    nextSerial := n
                    lost := satInc 65535 s.strays.lost } })) ∧
    ∀ k tag j : Nat,
      (∀ before r after, (s.mode = .sorting ∨ s.mode = .draining) → tag ≠ 0 → s.strays.recs = before ++ r :: after →
        (r.tag = tag ∨ r.resolvedTag = tag) → (∀ x ∈ before, x.tag ≠ tag ∧ x.resolvedTag ≠ tag) →
        reinduct k tag j s =
          notify
            { Notice.of (.reinducted r.reason) with
              tray := some k, tag := tag, chute := some j, detail1 := (r.serial : Nat), detail2 := (r.repeats : Nat) }
            { s with strays := { s.strays with recs := before ++ after } }) ∧
      (((s.mode ≠ .sorting ∧ s.mode ≠ .draining) ∨ tag = 0 ∨
          ∀ x ∈ s.strays.recs, x.tag ≠ tag ∧ x.resolvedTag ≠ tag) →
        reinduct k tag j s = s)

/-- The stray requests. SDEL: RANGE for serial 0, NOT_FOUND for a serial that no record bears, otherwise the record is removed and the others keep their order (R157). SRD: RANGE, NOT_FOUND or one page in list order with its continuation serial, at most 8 records of it (log 15), each with every field of R146, its reason by the code of R83's row (log 35), its state and the widths by log 14, no state changed (R155). SRES: its checks, the manifest change, then the record RESOLVED (R71, R156; the coding of the reply is log 14). A payload too short is RANGE, in every mode and before the checks of SRES (R179; log 13). That the reply stands, and no record is marked, where a fire within the same event has removed the record, is log 37. -/
def Obligations.StrayRequests : Prop :=
  ∀ (hdr : ReqHdr) (s : State),
    (s.mayServe hdr (.sdel none) = true → Answers (.sdel hdr none) hdr (.sdel none) s .range [] (dropRequest s)) ∧
    (s.mayServe hdr (.srd none) = true → Answers (.srd hdr none) hdr (.srd none) s .range [] (dropRequest s)) ∧
    (s.mayServe hdr (.sres none) = true → Answers (.sres hdr none) hdr (.sres none) s .range [] (dropRequest s)) ∧
    (∀ serial, s.mayServe hdr (.sdel (some serial)) = true →
      (serial = 0 → Answers (.sdel hdr (some serial)) hdr (.sdel (some serial)) s .range [] (dropRequest s)) ∧
      (serial ≠ 0 → (∀ x ∈ s.strays.recs, x.serial ≠ serial) →
        Answers (.sdel hdr (some serial)) hdr (.sdel (some serial)) s .notFound [] (dropRequest s)) ∧
      (∀ before r after, serial ≠ 0 → s.strays.recs = before ++ r :: after → r.serial = serial →
        (∀ x ∈ before, x.serial ≠ serial) →
        Answers (.sdel hdr (some serial)) hdr (.sdel (some serial)) s .done []
          { dropRequest s with strays := { s.strays with recs := before ++ after } })) ∧
    (∀ a : SrdArg, s.mayServe hdr (.srd (some a)) = true →
      ((a.count = 0 ∨ 16 < a.count) → Answers (.srd hdr (some a)) hdr (.srd (some a)) s .range [] (dropRequest s)) ∧
      (1 ≤ a.count → a.count ≤ 16 → a.serial ≠ 0 → (∀ x ∈ s.strays.recs, x.serial ≠ a.serial) →
        Answers (.srd hdr (some a)) hdr (.srd (some a)) s .notFound [] (dropRequest s)) ∧
      (∀ (before page rest : List StrayRec), 1 ≤ a.count → a.count ≤ 16 → s.strays.recs = before ++ page ++ rest →
        ((a.serial = 0 ∧ before = []) ∨
          (a.serial ≠ 0 ∧ (∀ x ∈ before, x.serial ≠ a.serial) ∧ ∃ r more, page ++ rest = r :: more ∧ r.serial = a.serial)) →
        (page.length = min 8 a.count ∨ (page.length < min 8 a.count ∧ rest = [])) →
        Answers (.srd hdr (some a)) hdr (.srd (some a)) s .done
          (.u8 page.length :: page.flatMap strayValues ++
            [.u16 s.strays.recs.length, .u16 (s.strays.recs.filter (fun x => !x.resolved)).length,
              .u16 ((rest.head?.map StrayRec.serial).getD 0)]) (dropRequest s))) ∧
    ∀ a : SresArg, s.mayServe hdr (.sres (some a)) = true →
      (a.serial = 0 → Answers (.sres hdr (some a)) hdr (.sres (some a)) s .range [] (dropRequest s)) ∧
      (a.serial ≠ 0 → (∀ x ∈ s.strays.recs, x.serial ≠ a.serial) →
        Answers (.sres hdr (some a)) hdr (.sres (some a)) s .notFound [] (dropRequest s)) ∧
      (∀ before r after, a.serial ≠ 0 → s.strays.recs = before ++ r :: after → r.serial = a.serial →
        (∀ x ∈ before, x.serial ≠ a.serial) →
        (a.tag ≠ 0 → (∃ x ∈ s.strays.recs, x.serial ≠ a.serial ∧ (x.tag = a.tag ∨ x.resolvedTag = a.tag)) →
          Answers (.sres hdr (some a)) hdr (.sres (some a)) s .duplicate [] (dropRequest s)) ∧
        ((a.tag = 0 ∨ ∀ x ∈ s.strays.recs, x.serial ≠ a.serial → x.tag ≠ a.tag ∧ x.resolvedTag ≠ a.tag) →
          (s.mode = .idle → Answers (.sres hdr (some a)) hdr (.sres (some a)) s .mode [] (dropRequest s)) ∧
          (s.mode ≠ .idle → (a.tag = 0 ∨ 999999999 < a.tag ∨ 9999 < a.cabin) →
            Answers (.sres hdr (some a)) hdr (.sres (some a)) s .range [] (dropRequest s)) ∧
          (s.mode ≠ .idle → 1 ≤ a.tag → a.tag ≤ 999999999 → a.cabin ≤ 9999 →
            (s.manifest.live a.tag = none → s.manifest.freeKey a.tag = none →
              Answers (.sres hdr (some a)) hdr (.sres (some a)) s .full [] (dropRequest s)) ∧
            (∀ key, s.manifest.live a.tag = none → s.manifest.freeKey a.tag = some key →
              ∃ t, Answers (.sres hdr (some a)) hdr (.sres (some a)) s .done [.u8 1] t ∧
                t = { dropRequest s with
                  strays :=
                    { s.strays with
                      recs :=
                        before ++ { r with resolved := true, resolvedTag := a.tag, resolvedCabin := a.cabin } :: after }
                  manifest :=
                    { s.manifest with
                      entries :=
                        Table.put s.manifest.entries key
                          { tag := a.tag, cabin := a.cabin, group := 0, hold := false, priority := false
                            oversize := false }
                      filter := countUp s.manifest.filter (a.tag % 4093)
                      rebuild := t.manifest.rebuild } }) ∧
            (∀ key e, s.manifest.live a.tag = some (key, e) → e.cabin = a.cabin →
              Answers (.sres hdr (some a)) hdr (.sres (some a)) s .done [.u8 2]
                { dropRequest s with
                  strays :=
                    { s.strays with
                      recs :=
                        before ++ { r with resolved := true, resolvedTag := a.tag, resolvedCabin := a.cabin } :: after }
                  manifest := { s.manifest with entries := Table.put s.manifest.entries key { e with cabin := a.cabin } } }) ∧
            (∀ key e, s.manifest.live a.tag = some (key, e) → e.cabin ≠ a.cabin →
              ∃ u, u = manifestChange .amend a.tag
                { dropRequest s with
                  manifest := { s.manifest with entries := Table.put s.manifest.entries key { e with cabin := a.cabin } } } ∧
                Answers (.sres hdr (some a)) hdr (.sres (some a)) s .done [.u8 2]
                  { u with
                    strays :=
                      { u.strays with
                        recs := updateFirst (fun x => x.serial == a.serial)
                          (fun x => { x with resolved := true, resolvedTag := a.tag, resolvedCabin := a.cabin })
                          u.strays.recs } }))))

/-! ## Sessions and modes (chapter 9) -/

/-- MODE OPEN, SHADOW and SORT, refused in other modes with MODE, with RANGE for a voyage number of 0 or missing and for an action that is none of the six or is missing, and NOT_READY listing what is missing: OPEN writes the voyage number, restarts the clock, the cart serials and the stray list; SHADOW closes the chute staging list, SORT both; each with MODE_CHANGED. The session clock counts a second of the time base, in every mode (R162 to R165, R167; what is missing from a short payload, and its mode before it, log 13; the condition codes are log 14, the tick taken when commanded log 4). -/
def Obligations.ModesEntered : Prop :=
  ∀ (hdr : ReqHdr) (s : State),
    Leads .sessionClockTick s
      { s with
        session :=
          { s.session with
            clock := if s.session.clock < 4294967295 then s.session.clock + 1 else 4294967295
            secondStart := s.now } } ∧
    (∀ code, s.mayServe hdr (.modeOpen (.badAction code)) = true →
      Answers (.modeOpen hdr (.badAction code)) hdr (.modeOpen (.badAction code)) s .range [] (dropRequest s)) ∧
    (s.mayServe hdr (.modeOpen .short) = true →
      (s.mode ≠ .idle → Answers (.modeOpen hdr .short) hdr (.modeOpen .short) s .mode [] (dropRequest s)) ∧
      (s.mode = .idle → Answers (.modeOpen hdr .short) hdr (.modeOpen .short) s .range [] (dropRequest s))) ∧
    (∀ n, s.mayServe hdr (.modeOpen (.voyage n)) = true →
      (s.mode ≠ .idle → Answers (.modeOpen hdr (.voyage n)) hdr (.modeOpen (.voyage n)) s .mode [] (dropRequest s)) ∧
      (s.mode = .idle → (n = 0 ∨ 65535 < n) →
        Answers (.modeOpen hdr (.voyage n)) hdr (.modeOpen (.voyage n)) s .range [] (dropRequest s)) ∧
      (s.mode = .idle → 1 ≤ n → n ≤ 65535 → (∀ f ∈ s.link.timing, f.body.isDrop = false) →
        Answers (.modeOpen hdr (.voyage n)) hdr (.modeOpen (.voyage n)) s .done []
          { dropRequest s with
            session := { s.session with mode := .setup, voyage := n, clock := 0, secondStart := s.now }
            carts := { s.carts with nextSerial := 1 }
            strays := { s.strays with recs := [], nextSerial := 1, lost := 0 }
            mgmt :=
              (dropRequest s).mgmt.push
                { Notice.of .modeChanged with detail1 := 1, detail2 := 2, detail3 := (n : Nat) } })) ∧
    (s.mayServe hdr .modeShadow = true →
      (s.mode ≠ .setup → Answers (.modeShadow hdr) hdr .modeShadow s .mode [] (dropRequest s)) ∧
      (s.mode = .setup → s.tracker.geo = none →
        Answers (.modeShadow hdr) hdr .modeShadow s .notReady [.u8 1, .u8 1] (dropRequest s)) ∧
      (s.mode = .setup → s.tracker.geo ≠ none → (∀ f ∈ s.link.timing, f.body.isDrop = false) →
        Answers (.modeShadow hdr) hdr .modeShadow s .done []
          { dropRequest s with
            session := { s.session with mode := .shadow }
            carts := { s.carts with staging := [] }
            mgmt :=
              (dropRequest s).mgmt.push
                (s.stamp
                  { Notice.of .modeChanged with detail1 := 2, detail2 := 3, detail3 := (s.session.voyage : Nat) }) })) ∧
    (s.mayServe hdr .modeSort = true →
      (s.mode ≠ .setup → s.mode ≠ .drained → Answers (.modeSort hdr) hdr .modeSort s .mode [] (dropRequest s)) ∧
      ((s.mode = .setup ∨ s.mode = .drained) →
        (∀ missing : List Nat,
          missing =
            ([1, 2, 3, 4].filter (fun n =>
              (n == 1 && !s.carts.loaded) || (n == 2 && !s.router.zonesLoaded) || (n == 3 && !s.router.rulesLoaded) ||
                (n == 4 && s.carts.chutes.all (fun c => c.state != .opened)))) →
          (missing ≠ [] →
            Answers (.modeSort hdr) hdr .modeSort s .notReady (.u8 missing.length :: missing.map .u8) (dropRequest s)) ∧
          (missing = [] →
            Answers (.modeSort hdr) hdr .modeSort s .done []
              { dropRequest s with
                session := { s.session with mode := .sorting }
                carts := { s.carts with staging := [] }
                router := { s.router with staging := [] }
                mgmt :=
                  (dropRequest s).mgmt.push
                    (s.stamp
                      { Notice.of .modeChanged with
                        detail1 := if s.mode = .setup then 2 else 6, detail2 := 4
                        detail3 := (s.session.voyage : Nat) }) }))))

/-- MODE SETUP, DRAIN and CLOSE, refused in other modes with MODE: SETUP cancels every order; DRAIN drops every held request with IREF, arms the drain watch, and enters DRAINED at once when nothing is in flight; CLOSE closes every chute, in number order, with its report unless its cart is empty, its tallies kept, empties the manifest and clears the voyage number (R114, R133, R143, R166, R168, R169, R171). A notice joins the end of its queue, or is dropped and counted at 64 (R197). That SETUP cancels with the FULL test at a chute in OPEN or FULL, one that holds none too, is log 39 (R114, R124). -/
def Obligations.ModesLeft : Prop :=
  ∀ (hdr : ReqHdr) (s : State),
    (s.mayServe hdr .modeSetup = true →
      (s.mode ≠ .shadow → Answers (.modeSetup hdr) hdr .modeSetup s .mode [] (dropRequest s)) ∧
      (s.mode = .shadow → (∀ f ∈ s.link.timing, f.body.isDrop = false) →
        ∃ t, Answers (.modeSetup hdr) hdr .modeSetup s .done [] t ∧
          t = { dropRequest s with
            trays := t.trays
            sched :=
              { s.sched with
                cancelled :=
                  Nat.repeat (satInc 65535) (s.carts.chutes.map (fun c => c.queue.length)).sum s.sched.cancelled }
            carts :=
              { s.carts with
                chutes :=
                  s.carts.chutes.map (fun c =>
                    { c with
                      queue := [], mon := none
                      state :=
                        if c.state = .opened ∨ c.state = .full then
                          (if c.cart.length < c.cfg.capacity then .opened else .full)
                        else c.state }) }
            session := { s.session with mode := .setup }
            mgmt :=
              (dropRequest s).mgmt.push
                (s.stamp
                  { Notice.of .modeChanged with detail1 := 3, detail2 := 2, detail3 := (s.session.voyage : Nat) }) } ∧
          ∀ (k : Nat) (x : Tray), s.trays[k]? = some x →
            t.trays[k]? =
              some
                (if x.state = .routed ∧ (∃ c ∈ s.carts.chutes, ∃ o ∈ c.queue, o.tray = k) then
                  { x with state := .recirculate, target := none, seq := none }
                else x))) ∧
    (s.mayServe hdr .modeDrain = true →
      (s.mode ≠ .sorting → Answers (.modeDrain hdr) hdr .modeDrain s .mode [] (dropRequest s)) ∧
      (s.mode = .sorting →
        ∃ t m, Answers (.modeDrain hdr) hdr .modeDrain s .done [] t ∧
          m = (dropRequest s).mgmt.push
            (s.stamp { Notice.of .modeChanged with detail1 := 4, detail2 := 5, detail3 := (s.session.voyage : Nat) }) ∧
          t = { dropRequest s with
            session := t.session
            router := { s.router with staging := [] }
            lines :=
              s.lines.map (fun l =>
                match l.state with
                | .held _ _ => { l with state := .free }
                | _ => l)
            link := { s.link with irefs := t.link.irefs }
            mgmt := t.mgmt } ∧
          (∀ (i : Nat) (l : Line) (a b : Nat), s.lines[i]? = some l → l.state = .held a b →
            { line := i, tag1 := a, tag2 := b, reason := .mode, begun := false } ∈ t.link.irefs) ∧
          (((∀ x ∈ s.trays, x.state = .empty ∨ x.state = .disabled) ∧ (∀ f ∈ s.link.timing, f.body.isDrop = false)) →
            t.session = { s.session with mode := .drained, watch := false } ∧
              t.mgmt = m.push (s.stamp { Notice.of .drained with detail1 := (s.session.voyage : Nat) })) ∧
          (((∃ x ∈ s.trays, x.state ≠ .empty ∧ x.state ≠ .disabled) ∨ (∃ f ∈ s.link.timing, f.body.isDrop = true)) →
            t.session = { s.session with mode := .draining, watch := true } ∧ t.mgmt = m))) ∧
    (s.mayServe hdr .modeClose = true →
      (s.mode ≠ .setup → s.mode ≠ .drained → Answers (.modeClose hdr) hdr .modeClose s .mode [] (dropRequest s)) ∧
      ((s.mode = .setup ∨ s.mode = .drained) → (∀ c ∈ s.carts.chutes, c.queue = []) →
        (∀ f ∈ s.link.timing, f.body.isDrop = false) →
        ∃ t, Answers (.modeClose hdr) hdr .modeClose s .done [] t ∧
          t = { dropRequest s with
            session := { s.session with mode := .idle, voyage := 0 }
            manifest :=
              { s.manifest with
                entries := [], filter := [], rebuild := none
                rebuildsAbandoned :=
                  if s.manifest.rebuild = none then s.manifest.rebuildsAbandoned
                  else satInc 65535 s.manifest.rebuildsAbandoned }
            carts :=
              { s.carts with chutes := t.carts.chutes, reports := t.carts.reports, waiting := t.carts.waiting }
            mgmt :=
              (dropRequest s).mgmt.push
                (s.stamp { Notice.of .modeChanged with detail1 := if s.mode = .setup then 2 else 6, detail2 := 1 }) } ∧
          (∀ made : List Report,
            made =
              s.carts.chutes.zipIdx.filterMap (fun y =>
                if y.1.hasCart = true ∧ y.1.cart ≠ [] then
                  some { voyage := s.session.voyage, chute := y.2, serial := y.1.serial.getD 0, entries := y.1.cart }
                else none) →
            t.carts.reports = s.carts.reports ++ made.take (8 - s.carts.reports.length) ∧
              t.carts.waiting = s.carts.waiting ++ made.drop (8 - s.carts.reports.length)) ∧
          t.carts.chutes.length = s.carts.chutes.length ∧
          ∀ (j before : Nat) (c : Chute), s.carts.chutes[j]? = some c →
            before = ((s.carts.chutes.take j).filter (fun x => x.hasCart && !x.cart.isEmpty)).length →
            t.carts.chutes[j]? =
              some
                { c with
                  state := .closed
                  prior := if c.state = .faulted then none else c.prior
                  present := if c.state = .opened ∨ c.state = .full ∨ c.state = .swap then false else c.present
                  mon := if c.state = .opened ∨ c.state = .full then none else c.mon
                  cart := if c.hasCart = true then [] else c.cart
                  report :=
                    if c.hasCart = true ∧ c.cart ≠ [] then
                      (if s.carts.reports.length + before < 8 then .queued else .waiting)
                    else c.report })) ∧
    ∀ n : Notice,
      (s.mgmt.notices.length < 64 → s.mgmt.push n = { s.mgmt with notices := s.mgmt.notices ++ [n] }) ∧
      (64 ≤ s.mgmt.notices.length →
        s.mgmt.push n =
          { s.mgmt with dropped := if s.mgmt.dropped < 65535 then s.mgmt.dropped + 1 else 65535 })

/-- Every step keeps the laws of the queues, of the session and of the pending reports: each queue and list within its limit, one unsent IREF per line; the voyage number none exactly in IDLE, the drain watch ARMED exactly in DRAINING; at most one pending report per configured chute, so at most 64 wait, in the list that the chute's report state names. It keeps the law of the induction lines: a line's state and monitor go with the state of its tray, and a RESERVED or LAUNCHING tray with its line's. And, with the laws of the tags and of the orders, that of the strays: one record per nonzero tag, no two with one serial, the counter at a serial that none bears (R29, R31, R120, R133, R134, R139, R146, R147, R161, R178, R180, R187, R188, R197). -/
def Obligations.QueueAndSessionLawsAreKept : Prop :=
  ∀ s t : State, step s = .next t →
    (s.BoundLaw → s.SessionLaw → t.BoundLaw ∧ t.SessionLaw) ∧ (s.ReportLaw → t.ReportLaw) ∧ (s.LineLaw → t.LineLaw) ∧
      (s.TagLaw → s.OrderLaw → s.StrayLaw → t.StrayLaw)

/-! ## The line link (chapter 10) -/

/-- A frame's bytes are read back as the frame: every header and payload byte, under the check computed over them; the check of the nine bytes 31h to 39h is 29B1h (R174). The payload of every kind is laid out by its table, numbers with the most significant byte first, lists with their counts: the field frames and the management requests as they are read, with those too short; LNCH, SCAN, DROP, IREF, RPLY, NOTE and CART as they are sent, with the codes of every notice and reason (R134, R179, R185, R198). That a request too short, or without an action, is read as the first row of its family is log 13, the widths of results log 14, that a rule carries its targets as a list log 33. -/
def Obligations.FrameRoundTrip : Prop :=
  (∀ f : Frame, 1 ≤ f.dst → f.dst ≤ 127 → 1 ≤ f.src → f.src ≤ 126 → f.kind ≤ 255 → f.seq ≤ 255 → f.payload.length ≤ 240 →
    receiveFrame false f.bytes = .valid f ∧ receiveFrame true f.bytes = .malformed ∧
      f.bytes.length = 7 + f.payload.length) ∧
    (∀ (broken : Bool) (bytes : List Byte) (f : Frame), receiveFrame broken bytes = .valid f →
      broken = false ∧ bytes = f.bytes ∧ 1 ≤ f.dst ∧ f.dst ≤ 127 ∧ 1 ≤ f.src ∧ f.src ≤ 126 ∧ f.payload.length ≤ 240) ∧
    checkOf [0x31#8, 0x32#8, 0x33#8, 0x34#8, 0x35#8, 0x36#8, 0x37#8, 0x38#8, 0x39#8] = 0x29B1#16 ∧
    (∀ (rest : List Byte) (b : BrdyBody), FieldsFit [(1, b.line), (4, b.tag1), (4, b.tag2)] →
      readBrdy (fieldBytes [(1, b.line), (4, b.tag1), (4, b.tag2)] ++ rest) = .full b) ∧
    (∀ (rest : List Byte) (b : LdonBody), FieldsFit [(1, b.line), (2, b.tray), (1, b.outcome)] →
      readLdon (fieldBytes [(1, b.line), (2, b.tray), (1, b.outcome)] ++ rest) = .full b) ∧
    (∀ (rest : List Byte) (b : TscnBody), FieldsFit [(2, b.tray), (1, b.occupancy), (4, b.tag1), (4, b.tag2)] →
      readTscn (fieldBytes [(2, b.tray), (1, b.occupancy), (4, b.tag1), (4, b.tag2)] ++ rest) = .full b) ∧
    (∀ (rest : List Byte) (j : Nat), j ≤ 255 → readChute (fieldBytes [(1, j)] ++ rest) = .full j) ∧
    (∀ bytes : List Byte,
      (bytes.length < 9 → readBrdy bytes = .short bytes) ∧ (bytes.length < 4 → readLdon bytes = .short bytes) ∧
        (bytes.length < 11 → readTscn bytes = .short bytes) ∧ (bytes = [] → readChute bytes = .short bytes)) ∧
    (∀ part first n : Nat,
      ((part = 6 ∨ part = 7) →
        ReadsAs 0x40 [(1, part), (1, first)] (.stat (some { part := part, first := first })) (.stat none)) ∧
      (part ≠ 6 → part ≠ 7 → ReadsAs 0x40 [(1, part)] (.stat (some { part := part, first := 0 })) (.stat none)) ∧
      ReadsAs 0x41 [(1, 2)] .modeShadow (.modeOpen (.badAction 0)) ∧
      ReadsAs 0x41 [(1, 3)] .modeSetup (.modeOpen (.badAction 0)) ∧
      ReadsAs 0x41 [(1, 4)] .modeSort (.modeOpen (.badAction 0)) ∧
      ReadsAs 0x41 [(1, 5)] .modeDrain (.modeOpen (.badAction 0)) ∧
      ReadsAs 0x41 [(1, 6)] .modeClose (.modeOpen (.badAction 0)) ∧
      ((n = 0 ∨ 6 < n) → ReadsAs 0x41 [(1, n)] (.modeOpen (.badAction n)) (.modeOpen (.badAction 0))) ∧
      (n ≤ 65535 → ∀ rest, readRequest 0x41 (fieldBytes [(1, 1), (2, n)] ++ rest) = some (.modeOpen (.voyage n))) ∧
      ∀ bytes : List Byte, bytes.length ≤ 1 → readRequest 0x41 (1#8 :: bytes) = some (.modeOpen .short)) ∧
    (∀ a : LoopArg, ReadsAs 0x42 (loopFields a) (.lcfg (some a)) (.lcfg none)) ∧
    (∀ a : CcfgArg, (1 ≤ a.count ∧ a.count ≤ 16 ∧ a.chutes.length = a.count) ∨
        ((a.count = 0 ∨ 16 < a.count) ∧ a.chutes = []) →
      ReadsAs 0x43 ([(1, a.first), (1, a.count), (1, a.final)] ++ a.chutes.flatMap chuteFields) (.ccfg (some a))
        (.ccfg none)) ∧
    (∀ zones : List Zone, zones.length = 32 →
      ReadsAs 0x44 (zones.flatMap (fun z => [(2, z.ending), (1, z.deck), (1, z.sec)])) (.zload (some zones))
        (.zload none)) ∧
    (∀ a : RloadArg, (∀ r ∈ a.rules, ruleWritten r) →
      (1 ≤ a.count ∧ a.count ≤ 16 ∧ a.rules.length = a.count) ∨ ((a.count = 0 ∨ 16 < a.count) ∧ a.rules = []) →
      ReadsAs 0x45 ([(1, a.first), (1, a.count), (1, a.final)] ++ a.rules.flatMap ruleFields) (.rload (some a))
        (.rload none)) ∧
    (∀ a : RsetArg, ruleWritten a.rule →
      ReadsAs 0x46 ((1, a.number) :: ruleFields a.rule) (.rset (some a)) (.rset none)) ∧
    (∀ a : MputArg, (1 ≤ a.count ∧ a.count ≤ 16 ∧ a.entries.length = a.count) ∨
        ((a.count = 0 ∨ 16 < a.count) ∧ a.entries = []) →
      ReadsAs 0x47 ((1, a.count) :: a.entries.flatMap putFields) (.mput (some a)) (.mput none)) ∧
    (∀ a : MdelArg, (1 ≤ a.count ∧ a.count ≤ 32 ∧ a.tags.length = a.count) ∨
        ((a.count = 0 ∨ 32 < a.count) ∧ a.tags = []) →
      ReadsAs 0x48 ((1, a.count) :: a.tags.map (fun n => (4, n))) (.mdel (some a)) (.mdel none)) ∧
    (∀ tag serial cabin j k count : Nat,
      ReadsAs 0x49 [(4, tag)] (.mget (some tag)) (.mget none) ∧ ReadsAs 0x4A [(4, tag)] (.hold (some tag)) (.hold none) ∧
        ReadsAs 0x4B [(4, tag)] (.rlse (some tag)) (.rlse none) ∧ ReadsAs 0x4C [] .fbld .fbld ∧
        ReadsAs 0x4D [(1, j), (1, 1)] (.ccmdOpen (.of j)) (.ccmdOpen .short) ∧
        ReadsAs 0x4D [(1, j), (1, 2)] (.ccmdClose j) (.ccmdOpen .short) ∧
        ReadsAs 0x4D [(1, j), (1, 3)] (.ccmdForceClose j) (.ccmdOpen .short) ∧
        ReadsAs 0x4D [(1, j), (1, 4)] (.ccmdClearFault j) (.ccmdOpen .short) ∧
        ((count = 0 ∨ 4 < count) →
          ReadsAs 0x4D [(1, j), (1, count)] (.ccmdOpen (.badAction count)) (.ccmdOpen .short)) ∧
        ReadsAs 0x4E [(2, k), (1, 1)] (.tcmdDisable (.of k)) (.tcmdDisable .short) ∧
        ReadsAs 0x4E [(2, k), (1, 2)] (.tcmdEnable k) (.tcmdDisable .short) ∧
        ((count = 0 ∨ 2 < count) →
          ReadsAs 0x4E [(2, k), (1, count)] (.tcmdDisable (.badAction count)) (.tcmdDisable .short)) ∧
        ReadsAs 0x4F [(1, j), (1, k)] (.crd (some { chute := j, first := k })) (.crd none) ∧
        ReadsAs 0x50 [(2, serial), (1, count)] (.srd (some { serial := serial, count := count })) (.srd none) ∧
        ReadsAs 0x51 [(2, serial), (4, tag), (2, cabin)] (.sres (some { serial := serial, tag := tag, cabin := cabin }))
          (.sres none) ∧
        ReadsAs 0x52 [(2, serial)] (.sdel (some serial)) (.sdel none) ∧ ReadsAs 0x53 [] .sstp .sstp ∧
        ReadsAs 0x54 [] .clrs .clrs ∧ ReadsAs 0x55 [] .lrst .lrst) ∧
    (∀ (kind : Nat) (bytes : List Byte),
      ((kind < 0x40 ∨ 0x55 < kind) → readRequest kind bytes = none) ∧
        ∀ r, readRequest kind bytes = some r → requestKind r = kind) ∧
    (∀ (i k j seq serial tag : Nat) (side : Side),
      (TimedBody.lnch i k).kind = 0x20 ∧ (TimedBody.lnch i k).payload = fieldBytes [(1, i), (2, k)] ∧
        (TimedBody.scan k).kind = 0x21 ∧ (TimedBody.scan k).payload = fieldBytes [(2, k)] ∧
        (TimedBody.drop j k side seq serial tag).kind = 0x22 ∧
        (TimedBody.drop j k side seq serial tag).payload =
          fieldBytes [(1, j), (2, k), (1, if side = .left then 1 else 2)]) ∧
    (∀ r : Iref,
      r.payload =
        fieldBytes [(1, r.line), (4, r.tag1), (4, r.tag2),
          (1, match r.reason with
            | .mode => 1
            | .lineOff => 2
            | .busy => 3)]) ∧
    (∀ r : Reply, r.payload = fieldBytes ([(1, r.kind), (1, r.status.code)] ++ r.results.map datumField)) ∧
    [Status.done, .mode, .range, .notFound, .full, .busy, .duplicate, .notReady, .linkDown].map Status.code =
      List.range 9 ∧
    (∀ n : Notice, n.payload = fieldBytes n.fields) ∧
    (∀ (x : Int) (j : Nat),
      ∀ y ∈ [(NoticeKind.trackSync .unsynced, 1, 1), (.trackSync .lost, 1, 2), (.trackLost .encoder, 2, 1),
        (.trackLost (.drift x), 2, 2), (.stopSeen true, 3, 1), (.stopSeen false, 3, 2), (.stopAsserted .encoder, 4, 1),
        (.stopAsserted (.drift x), 4, 2), (.stopAsserted .linkDown, 4, 3), (.stopAsserted (.chuteFault j), 4, 4),
        (.stopAsserted .sstp, 4, 5), (.linkState, 5, 0), (.inductProtocol .wrongNode, 6, 1),
        (.inductProtocol .brdyBusy, 6, 2), (.inductProtocol .ldonUnmatched, 6, 3), (.inductProtocol .ldonAbsent, 6, 4),
        (.foundBag, 7, 0), (.lostBag false, 8, 1), (.lostBag true, 8, 2), (.nearFull, 9, 0), (.unexpectedDrop, 10, 0),
        (.dropFailed, 11, 0), (.correction, 12, 0), (.holdTooLate, 13, 1), (.amendAfterDrop .delete, 14, 1),
        (.amendAfterDrop .amend, 14, 2), (.drained, 18, 0), (.filterDone, 19, 0), (.modeChanged, 20, 0)],
        NoticeKind.code y.1 = y.2.1 ∧ NoticeKind.reasonCode y.1 = y.2.2) ∧
    (∀ y ∈ [(StrayReason.noRead, 1), (.tagConflict, 2), (.notOnManifest, 3), (.cabinUnassigned, 4), (.outOfPlan, 5),
        (.screeningHold, 6), (.lapLimit, 7), (.noRoute, 8)],
      NoticeKind.code (.stray y.1) = 15 ∧ NoticeKind.reasonCode (.stray y.1) = y.2 ∧
        NoticeKind.code (.strayBlocked y.1) = 16 ∧ NoticeKind.reasonCode (.strayBlocked y.1) = y.2 ∧
        NoticeKind.code (.reinducted y.1) = 17 ∧ NoticeKind.reasonCode (.reinducted y.1) = y.2) ∧
    ∀ (r : Report) (p : Nat), p = 0 ∨ 20 * p < r.entries.length → r.payload p = fieldBytes (r.fields p)

/-- The link states: a valid training frame brings a port from TRAINING to UP with LINK_STATE, the return of the DOWN port arming the scan monitor afresh, makes an UP port answer with one, and is nothing to a port in DOWN; an IDLE frame only restarts the measure of an UP port; a hold-off brings DOWN to TRAINING with a training frame due; a training frame is due in TRAINING alone; an UP port that is free with nothing waiting begins an IDLE frame (R175, R176, R184; fresh arming, R44). Time-driven rows are taken when commanded (log 4). That a port entering UP forgets a training frame that was due and owes no answer for the frame that brought it there is log 11; that an IDLE frame takes the port's number as it begins, the number advancing when it has been sent, is log 9. -/
def Obligations.LinkStates : Prop :=
  ∀ (p : PortId) (s : State) (x : Port) (put : Port → State), x = s.link.port p →
    put = (fun y => { s with
      link :=
        match p with
        | .up => { s.link with up := y }
        | .down => { s.link with down := y } }) →
    (∃ t, Leads (.trainingFrame p) s t ∧ (x.state = .down → t = s) ∧
      (x.state = .up → t = put { x with lastValid := s.now, answer := true }) ∧
      (x.state = .training →
        (p = .up →
          t = { put { x with state := .up, since := s.now, lastValid := s.now, trainDue := false } with
            mgmt := s.mgmt.push (s.stamp { Notice.of .linkState with detail1 := 1, detail2 := 2, detail3 := 3 }) }) ∧
        (p = .down →
          ∀ u, u =
            { put { x with state := .up, since := s.now, lastValid := s.now, trainDue := false } with
              mgmt := s.mgmt.push (s.stamp { Notice.of .linkState with detail1 := 2, detail2 := 2, detail3 := 3 }) } →
          Kept u t ∧ FreshlyArmed u t))) ∧
    (∃ t, Leads (.idleFrame p) s t ∧ (x.state = .up → t = put { x with lastValid := s.now }) ∧
      (x.state ≠ .up → t = s)) ∧
    (∃ t, Leads (.linkHoldoffEnd p) s t ∧ (x.state ≠ .down → t = s) ∧
      (x.state = .down →
        t = { put { x with state := .training, since := s.now, trainFrom := s.now, trainDue := true } with
          mgmt :=
            s.mgmt.push
              (s.stamp
                { Notice.of .linkState with detail1 := if p = .up then 1 else 2, detail2 := 1, detail3 := 2 }) })) ∧
    (∃ t, Leads (.trainingSend p) s t ∧ (x.state ≠ .training → t = s) ∧
      (x.state = .training → t = put { x with trainFrom := s.now, trainDue := true })) ∧
    ∃ t, Leads (.idleSend p) s t ∧
      (x.state = .up → x.tx = none → (if p = .up then s.nextUp else s.nextDown) = none →
        t = put
          { x with
            tx := some { cls := .idle, frame := { dst := 127, src := s.link.own, kind := 0, seq := x.seq, payload := [] } } }) ∧
      ((x.state ≠ .up ∨ x.tx ≠ none ∨ (if p = .up then s.nextUp else s.nextDown) ≠ none) → t = s)

/-- A port that leaves UP at a timeout enters DOWN with its transmission abandoned, its forward queue emptied and counted, and LINK_STATE. The UP port's loss touches nothing else. The DOWN port's loss is a field link fault: monitors disarmed, orders cancelled, the timing queue emptied with DROP frames withdrawn and the others counted, reservations released, LINK_STATE, and the STOP latch set with LINK_DOWN. A port in another state has no such measure (R175, R178, R183, R184; a timeout is taken when commanded, log 4). A training frame in answer that waits or is abandoned stays to be sent at the return (R184; the field, log 11); STOP_SEEN follows in the same event where the level changes (log 8). That the CORRECTION of a withdrawn drop of an eyeless chute carries the tag with which the DROP was fired is log 17 (R131). That orders are cancelled with the FULL test at a chute in OPEN or FULL, one that holds none too, is log 39 (R114, R124). -/
def Obligations.LinkFaults : Prop :=
  ∀ s : State,
    (∃ t, Leads (.linkTimeout .up) s t ∧ (s.link.up.state ≠ .up → t = s) ∧
      (s.link.up.state = .up →
        t = { s with
          link :=
            { s.link with
              up :=
                { s.link.up with
                  state := .down, since := s.now, tx := none, trainDue := false, forward := []
                  forwardDropped := min 65535 (s.link.up.forwardDropped + s.link.up.forward.length) } }
          mgmt := s.mgmt.push (s.stamp { Notice.of .linkState with detail1 := 1, detail2 := 3, detail3 := 1 }) })) ∧
    ∃ t, Leads (.linkTimeout .down) s t ∧ (s.link.down.state ≠ .up → t = s) ∧
      (s.link.down.state = .up → s.SessionLaw →
        Emptied s t ∧ t.link.timing = [] ∧
          t.tracker = { s.tracker with latch := some (s.tracker.latch.getD .linkDown) } ∧
          t.link =
            { s.link with
              down :=
                { s.link.down with
                  state := .down, since := s.now, tx := none, trainDue := false, forward := []
                  forwardDropped := min 65535 (s.link.down.forwardDropped + s.link.down.forward.length) }
              timing := []
              timingDiscarded :=
                min 65535 (s.link.timingDiscarded + (s.link.timing.filter (fun f => !f.body.isDrop)).length)
              irefs := t.link.irefs } ∧
          t.arch = { s.arch with mon := none } ∧ t.manifest = s.manifest ∧ t.strays = s.strays ∧ t.pins = s.pins ∧
          (t.mgmt.notices.length < 64 →
            ∃ withdrawn, t.mgmt.notices =
              s.mgmt.notices ++ withdrawn ++
                  [s.stamp { Notice.of .linkState with detail1 := 2, detail2 := 3, detail3 := 1 }] ++
                (if s.tracker.latch = none then
                  [s.stamp (Notice.of (.stopAsserted .linkDown))] ++
                    (if s.tracker.stopIn = true ∧ s.tracker.stopOut = true ∧ s.pins.stopHeld = false then
                      [s.stamp (Notice.of (.stopSeen true))]
                    else [])
                else [])))

/-- A frame received whole: nothing at a port in DOWN; uncounted in TRAINING unless it is a valid training frame; a valid training or IDLE frame does what the row TRAINING_FRAME or IDLE_FRAME does, in every link state; at an UP port counted when malformed or badly checked, counted as SELF from the own station, forwarded unchanged through a queue with room toward a port that is UP or counted as dropped, and, where addressed to the part, counted by KIND_REJECTED, WRONG_PORT or FOREIGN, or, for a field frame from a configured field node, taken as its own row takes it, or, for a management request at the UP port, queued with its source as the host station. A frame for station 127 is forwarded and then taken so. REQUEST_INTAKE queues a request, answers the fifth with BUSY, and counts REPLY_LOST where the reply list is full too (R175 to R179, R187, R188). That FRAME_RECEIVED makes the effect of the frame's own row in the same step, and that REQUEST_INTAKE leaves the host station as it stands, is the model's choice (log 2). -/
def Obligations.FramesReceived : Prop :=
  ∀ (p q : PortId) (broken : Bool) (bytes : List Byte) (f : Frame) (s u v : State) (x y z : Port),
    x = s.link.port p → y = s.link.port q → (q = if p = .up then .down else .up) →
    u = { s with
      link :=
        match p with
        | .up => { s.link with up := { x with lastValid := s.now } }
        | .down => { s.link with down := { x with lastValid := s.now } } } →
    z = (if y.state = .up ∧ y.forward.length < 8 then { y with forward := y.forward ++ [f] }
      else { y with forwardDropped := satInc 65535 y.forwardDropped }) →
    ((f.dst = s.link.own ∧ v = u) ∨
      (f.dst = 127 ∧ f.dst ≠ s.link.own ∧
        v = { u with
          link :=
            match p with
            | .up => { u.link with down := z }
            | .down => { u.link with up := z } }) ∨
      (f.dst ≠ s.link.own ∧ f.dst ≠ 127)) →
    (∃ t, Leads (.frameReceived p broken bytes) s t ∧ (x.state = .down → t = s) ∧
      (∀ g, receiveFrame broken bytes = .valid g →
        (g.kind = 1 → Leads (.trainingFrame p) s t) ∧ (g.kind = 0 → Leads (.idleFrame p) s t)) ∧
      (x.state = .training → (∀ g, receiveFrame broken bytes = .valid g → g.kind ≠ 1) → t = s) ∧
      (x.state = .up →
        (receiveFrame broken bytes = .malformed →
          t.link.port p = { x with formatErrors := satInc 65535 x.formatErrors } ∧ t.link.port q = y ∧ t = { s with link := t.link } ∧
            { t.link with up := s.link.up, down := s.link.down } = s.link) ∧
        (receiveFrame broken bytes = .badCheck →
          t.link.port p = { x with checkErrors := satInc 65535 x.checkErrors } ∧ t.link.port q = y ∧ t = { s with link := t.link } ∧
            { t.link with up := s.link.up, down := s.link.down } = s.link) ∧
        (receiveFrame broken bytes = .valid f → f.kind ≠ 0 → f.kind ≠ 1 →
          (f.src = s.link.own →
            t = { u with link := { u.link with selfCount := satInc 65535 s.link.selfCount } }) ∧
          (f.src ≠ s.link.own → f.dst ≠ s.link.own → f.dst ≠ 127 →
            t.link.port p = { x with lastValid := s.now } ∧ t = { s with link := t.link } ∧
              { t.link with up := s.link.up, down := s.link.down } = s.link ∧
              t.link.port q = z) ∧
          (f.src ≠ s.link.own → (f.dst = s.link.own ∨ f.dst = 127) →
            ((0x10 ≤ f.kind ∧ f.kind ≤ 0x17 → p = .up →
              t = { v with link := { v.link with wrongPort := satInc 65535 s.link.wrongPort } }) ∧
            (0x10 ≤ f.kind ∧ f.kind ≤ 0x17 → p = .down →
              (∀ g ∈ s.tracker.geo, g.archStation ≠ f.src) → (∀ l ∈ s.lines, ∀ c ∈ l.cfg, c.station ≠ f.src) →
              (∀ c ∈ s.carts.chutes, c.cfg.station ≠ f.src) →
              t = { v with link := { v.link with foreign := satInc 65535 s.link.foreign } }) ∧
            (p = .down → (∃ g ∈ s.tracker.geo, g.archStation = f.src) ∨ (∃ l ∈ s.lines, ∃ c ∈ l.cfg, c.station = f.src) ∨
                (∃ c ∈ s.carts.chutes, c.cfg.station = f.src) →
              ∀ x ∈ [(0x10, Instr.brdy f.src (readBrdy f.payload)), (0x11, .ldon f.src (readLdon f.payload)),
                (0x12, .tscn f.src (readTscn f.payload)), (0x13, .ceye f.src (readChute f.payload)),
                (0x14, .cout f.src (readChute f.payload)), (0x15, .cin f.src (readChute f.payload)),
                (0x16, .cflt f.src (readChute f.payload)), (0x17, .cclr f.src (readChute f.payload))],
                f.kind = x.1 → Leads x.2 v t) ∧
            ((f.kind < 0x10 ∨ (0x17 < f.kind ∧ f.kind < 0x40) ∨ 0x55 < f.kind) →
              t = { v with link := { v.link with kindRejected := satInc 65535 s.link.kindRejected } }) ∧
            (∀ r, 0x40 ≤ f.kind ∧ f.kind ≤ 0x55 → readRequest f.kind f.payload = some r →
              (p = .down → t = { v with link := { v.link with wrongPort := satInc 65535 s.link.wrongPort } }) ∧
              (p = .up →
                t = takeRequest { src := f.src, seq := f.seq } r { v with link := { v.link with host := some f.src } })))))) ) ∧
    ∀ (hdr : ReqHdr) (r : Request), ∃ t, Leads (.requestIntake hdr r) s t ∧ t = takeRequest hdr r s ∧
      t = { s with mgmt := t.mgmt } ∧
      t.mgmt =
        if s.mgmt.requests.length < 4 then
          { s.mgmt with requests := s.mgmt.requests ++ [{ hdr := hdr, request := r }] }
        else if s.mgmt.replies.length < 8 then
          { s.mgmt with
            replies := s.mgmt.replies ++ [{ hdr := hdr, kind := requestKind r, status := .busy, results := [] }] }
        else { s.mgmt with replyLost := satInc 65535 s.mgmt.replyLost }

/-- The end of a transmission: the frame leaves its place, the port's sequence advances unless the frame is forwarded or a reply, and the 10 ms measure restarts; a transmitted DROP lets the drain watch decide; the last CART frame of a report sends it: its chute's report state becomes NONE, a chute in SWAP with a cart present ends its swap with a new cart, which takes the next cart serial, and the oldest report of the waiting list takes the freed place of the report queue. A port that transmits nothing is not changed (R126, R133, R134, R136, R169, R174, R180 to R182; the sequence counts when a frame has been transmitted, log 9). -/
def Obligations.FramesTransmitted : Prop :=
  ∀ (s : State) (f : Frame),
    (s.link.down.tx = none → Leads .downFrameTransmitted s s) ∧ (s.link.up.tx = none → Leads .upFrameTransmitted s s) ∧
    (∀ cls, s.link.down.tx = some { cls := cls, frame := f } →
      ∃ t, Leads .downFrameTransmitted s t ∧
        t.link.down =
          { s.link.down with
            tx := none, lastSent := s.now
            seq := if cls = .forward ∨ cls = .reply then s.link.down.seq else (s.link.down.seq + 1) % 256
            answer := if cls = .answer then false else s.link.down.answer
            forward := if cls = .forward then s.link.down.forward.tail else s.link.down.forward } ∧
        t.link.up = s.link.up ∧
        (cls ∈ [.training, .idle, .answer, .forward] → t = { s with link := { s.link with down := t.link.down } }) ∧
        (∀ e rest, cls = .timing → s.link.timing = e :: rest → e.begun = true →
          (e.body.isDrop = false → t = { s with link := { s.link with down := t.link.down, timing := rest } }) ∧
          (e.body.isDrop = true →
            t = drainWatch { s with link := { s.link with down := t.link.down, timing := rest } })) ∧
        (∀ i e rest, cls = .iref i → s.link.irefs = e :: rest → e.begun = true →
          t = { s with link := { s.link with down := t.link.down, irefs := rest } })) ∧
    ∀ cls, s.link.up.tx = some { cls := cls, frame := f } →
      ∃ t, Leads .upFrameTransmitted s t ∧
        t.link =
          { s.link with
            up :=
              { s.link.up with
                tx := none, lastSent := s.now
                seq := if cls = .forward ∨ cls = .reply then s.link.up.seq else (s.link.up.seq + 1) % 256
                answer := if cls = .answer then false else s.link.up.answer
                forward := if cls = .forward then s.link.up.forward.tail else s.link.up.forward }
            timing := t.link.timing, irefs := t.link.irefs } ∧
        (cls ≠ .timing → (∀ i, cls ≠ .iref i) →
          t.link.timing = s.link.timing ∧ t.link.irefs = s.link.irefs) ∧
        (cls ∈ [.training, .idle, .answer, .forward] → t = { s with link := t.link }) ∧
        (cls = .reply → t = { s with link := t.link, mgmt := { s.mgmt with replies := s.mgmt.replies.tail } }) ∧
        (cls = .note → t = { s with link := t.link, mgmt := { s.mgmt with notices := s.mgmt.notices.tail } }) ∧
        (∀ r rest, cls = .cart → s.carts.reports = r :: rest →
          (20 * (s.carts.cartPart + 1) < r.entries.length →
            t = { s with link := t.link, carts := { s.carts with cartPart := s.carts.cartPart + 1 } }) ∧
          (r.entries.length ≤ 20 * (s.carts.cartPart + 1) →
            ∀ u : CartUnit,
              u = { s.carts with
                reports := rest
                cartPart := 0
                chutes := s.carts.chutes.modify r.chute (fun c => { c with report := .none }) } →
              ∃ v : CartUnit,
                ((∀ c, s.carts.chutes[r.chute]? = some c → c.state ≠ .swap ∨ c.present = false) → v = u) ∧
                (∀ c, s.carts.chutes[r.chute]? = some c → c.state = .swap → c.present = true → c.queue = [] →
                  1 ≤ c.cfg.capacity → v = u.recarted r.chute { c with report := .none }) ∧
                ((s.carts.waiting = [] ∨ 8 ≤ rest.length) → t = { s with link := t.link, carts := v }) ∧
                ∀ w more, s.carts.waiting = w :: more → rest.length < 8 →
                  t = { s with
                    link := t.link
                    carts :=
                      { v with
                        reports := rest ++ [w]
                        waiting := more
                        chutes := v.chutes.modify w.chute (fun c => { c with report := .queued }) } }))

/-- The arbiters: a busy transmitter goes on and nothing else changes. A free DOWN port that is UP begins a training frame in answer, else the head of the timing queue, else of its forward queue, else the oldest unsent IREF, addressed to its line's station; a free UP port a training frame in answer, else the oldest reply, else the head of its forward queue, else the next CART frame of the head report, else the oldest notice, CART and NOTE addressed to the host station, or to 127 while there is none; each with its payload, a forwarded frame unchanged; with no frame waiting it begins none. A free port in TRAINING begins the training frame that is due, and none is due then; with none due it stays as it is (R31, R134, R173, R175, R176, R178, R181, R182). That a training frame that falls due while the transmitter is busy waits for it is log 11. That a frame takes the port's sequence number as it begins, the number advancing when it has been sent, is log 9 (R174). -/
def Obligations.ArbiterOrder : Prop :=
  ∀ s : State,
    settle s =
      { s with
        link :=
          { s.link with
            up := { s.link.up with tx := (settle s).link.up.tx, trainDue := (settle s).link.up.trainDue }
            down := { s.link.down with tx := (settle s).link.down.tx, trainDue := (settle s).link.down.trainDue }
            timing := (settle s).link.timing
            irefs := (settle s).link.irefs } } ∧
    (settle s).link.timing.map (fun e => { e with begun := false }) =
      s.link.timing.map (fun e => { e with begun := false }) ∧
    (settle s).link.irefs.map (fun r => { r with begun := false }) =
      s.link.irefs.map (fun r => { r with begun := false }) ∧
    (∀ x, s.link.down.tx = some x → (settle s).link.down.tx = some x) ∧
    (∀ x, s.link.up.tx = some x → (settle s).link.up.tx = some x) ∧
    (s.link.down.tx = none → s.link.down.state = .up →
      (settle s).link.down.tx.map Tx.cls =
        if s.link.down.answer then some .answer
        else if s.link.timing ≠ [] then some .timing
        else if s.link.down.forward ≠ [] then some .forward
        else s.link.irefs.head?.map (fun r => .iref r.line)) ∧
    (∀ e rest, s.link.down.tx = none → s.link.down.state = .up → s.link.down.answer = false → s.link.timing = e :: rest →
      (settle s).link.timing = { e with begun := true } :: rest ∧
        (settle s).link.down.tx =
          some
            { cls := .timing
              frame :=
                { dst := e.dst, src := s.link.own, kind := e.body.kind, seq := s.link.down.seq
                  payload := e.body.payload } }) ∧
    (s.link.up.tx = none → s.link.up.state = .up →
      (settle s).link.up.tx.map Tx.cls =
        if s.link.up.answer then some .answer
        else if s.mgmt.replies ≠ [] then some .reply
        else if s.link.up.forward ≠ [] then some .forward
        else if s.carts.reports ≠ [] then some .cart
        else if s.mgmt.notices ≠ [] then some .note
        else none) ∧
    (∀ r rest, s.link.up.tx = none → s.link.up.state = .up → s.link.up.answer = false → s.mgmt.replies = r :: rest →
      (settle s).link.up.tx =
        some
          { cls := .reply
            frame := { dst := r.hdr.src, src := s.link.own, kind := 0x60, seq := r.hdr.seq, payload := r.payload } }) ∧
    (∀ p x, x = s.link.port p → x.tx = none → x.state = .up → x.answer = true →
      ((settle s).link.port p).tx =
        some { cls := .answer, frame := { dst := 127, src := s.link.own, kind := 1, seq := x.seq, payload := [] } }) ∧
    (∀ f rest, s.link.down.tx = none → s.link.down.state = .up → s.link.down.answer = false → s.link.timing = [] →
      s.link.down.forward = f :: rest → (settle s).link.down.tx = some { cls := .forward, frame := f }) ∧
    (∀ r rest l c, s.link.down.tx = none → s.link.down.state = .up → s.link.down.answer = false → s.link.timing = [] →
      s.link.down.forward = [] → s.link.irefs = r :: rest → s.lines[r.line]? = some l → l.cfg = some c →
      (settle s).link.irefs = { r with begun := true } :: rest ∧
        (settle s).link.down.tx =
          some
            { cls := .iref r.line
              frame :=
                { dst := c.station, src := s.link.own, kind := 0x23, seq := s.link.down.seq, payload := r.payload } }) ∧
    (∀ f rest, s.link.up.tx = none → s.link.up.state = .up → s.link.up.answer = false → s.mgmt.replies = [] →
      s.link.up.forward = f :: rest → (settle s).link.up.tx = some { cls := .forward, frame := f }) ∧
    (∀ r rest, s.link.up.tx = none → s.link.up.state = .up → s.link.up.answer = false → s.mgmt.replies = [] →
      s.link.up.forward = [] → s.carts.reports = r :: rest →
      (settle s).link.up.tx =
        some
          { cls := .cart
            frame :=
              { dst := s.link.host.getD 127, src := s.link.own, kind := 0x62, seq := s.link.up.seq
                payload := r.payload s.carts.cartPart } }) ∧
    (∀ n rest, s.link.up.tx = none → s.link.up.state = .up → s.link.up.answer = false → s.mgmt.replies = [] →
      s.link.up.forward = [] → s.carts.reports = [] → s.mgmt.notices = n :: rest →
      (settle s).link.up.tx =
        some
          { cls := .note
            frame :=
              { dst := s.link.host.getD 127, src := s.link.own, kind := 0x61, seq := s.link.up.seq
                payload := n.payload } }) ∧
    (∀ p x, x = s.link.port p → x.tx = none → x.state = .training →
      (x.trainDue = false → (settle s).link.port p = x) ∧
      (x.trainDue = true →
        (settle s).link.port p =
          { x with
            tx := some
              { cls := .training, frame := { dst := 127, src := s.link.own, kind := 1, seq := x.seq, payload := [] } }
            trainDue := false })) ∧
    (s.link.down.state = .down → s.link.down.tx = none → (settle s).link.down = s.link.down) ∧
    (s.link.up.state = .down → s.link.up.tx = none → (settle s).link.up = s.link.up)

/-! ## Management requests (chapter 11) -/

/-- LCFG: MODE outside IDLE and SETUP; RANGE for a value, a stray set or a station order out of R192's rows; DUPLICATE for two equal stations; otherwise the tracker, trays, lines, arch, default action, stray set and policy take their values, every monitor is disarmed, LNCH and SCAN frames are discarded and counted, unsent IREF frames go, no notice is queued, and nothing else changes; the reply carries Lu, the line count and the lap limit (R9, R25, R49, R97, R159, R192, R193; its layout, log 14). That no STOP_SEEN is queued where the new output enable changes the STOP level, as R193 says though R17 names each change, is the model's reading (log 8). -/
def Obligations.LoopConfigured : Prop :=
  ∀ (hdr : ReqHdr) (arg : Option LoopArg) (s : State), s.mayServe hdr (.lcfg arg) = true →
    (s.mode ≠ .idle → s.mode ≠ .setup → Answers (.lcfg hdr arg) hdr (.lcfg arg) s .mode [] (dropRequest s)) ∧
    ((s.mode = .idle ∨ s.mode = .setup) →
      (arg = none → Answers (.lcfg hdr arg) hdr (.lcfg arg) s .range [] (dropRequest s)) ∧
      ∀ a, arg = some a →
        (¬ (LoopInRange a ∧ LoopInOrder a s.carts.chutes) → Answers (.lcfg hdr arg) hdr (.lcfg arg) s .range [] (dropRequest s)) ∧
        (LoopInRange a → LoopInOrder a s.carts.chutes → ¬ (loopStations a s).Nodup →
          Answers (.lcfg hdr arg) hdr (.lcfg arg) s .duplicate [] (dropRequest s)) ∧
        (LoopInRange a → LoopInOrder a s.carts.chutes → (loopStations a s).Nodup →
          ∃ t,
            Answers (.lcfg hdr arg) hdr (.lcfg arg) s .done
              [.u32 (a.trays * a.pitch), .u8 a.lines.length, .u8 (if a.lapLimit = 0 then 1 else a.lapLimit)] t ∧
            t = { dropRequest s with
              tracker :=
                { s.tracker with
                  state := .unsynced
                  geo := some {
                    trays := a.trays, pitch := a.pitch, driftTol := a.driftTol, archLoc := a.archLoc
                    archDelay := if 250 < a.archDelay then 250 else a.archDelay, archStation := a.archStation }
                  disp := 0
                  homeCorrection := 0
                  stopOut := a.stopOut == 1
                  stopIn := a.stopIn == 1
                  archClamped := 0 }
              trays := List.replicate a.trays (Tray.blank .empty)
              lines := t.lines
              arch := {
                mon := none, outstanding := none, lapLimit := some (if a.lapLimit = 0 then 1 else a.lapLimit), sent := 0
                missed := 0, replaced := 0, stale := 0, rejected := 0, skipped := 0 }
              router :=
                { s.router with
                  dflt := if a.dflt = 1 then .recirculate else .stray
                  straySet := a.straySet }
              strays := { s.strays with policy := if a.policy = 1 then .keepOldest else .dropOldest }
              carts := { s.carts with chutes := s.carts.chutes.map (fun c => { c with mon := none }) }
              link :=
                { s.link with
                  irefs := []
                  timing := s.link.timing.filter (fun f => f.body.isDrop)
                  timingDiscarded :=
                    min 65535 (s.link.timingDiscarded + (s.link.timing.filter (fun f => !f.body.isDrop)).length) } } ∧
            t.lines.length = 4 ∧
            (∀ (i : Nat) (l : LineArg), a.lines[i]? = some l →
              t.lines[i]? = some {
                cfg := some {
                  loc := l.loc, delay := if 250 < l.delay then 250 else l.delay, gap := if 7 < l.gap then 7 else l.gap
                  station := l.station, enable := l.enable == 1 }
                state := .free, bar := [], mon := none, clamped := 0 }) ∧
            ∀ i, a.lines.length ≤ i → i < 4 →
              t.lines[i]? = some { cfg := none, state := .free, bar := [], mon := none, clamped := 0 }))

/-- LRST: DONE is formed first, and the reset is made in the same event: IREF MODE for each HELD or RESERVED line, every monitor disarmed, the outstanding scan gone, the order queues and awaiting lists emptied without cancellation or expiry, DROP frames withdrawn and LNCH and SCAN discarded, each counted, every tray but a DISABLED one EMPTY, a running rebuild abandoned, the tracker UNSYNCED with D and v 0 and the latch released; the tables, carts, strays and session are kept, but that a drain completes (R10, R25, R42, R49, R77, R115, R145, R169, R186, R196). A chute that was FULL stays FULL (log 27). -/
def Obligations.LineReset : Prop :=
  ∀ (hdr : ReqHdr) (s : State), s.mayServe hdr .lrst = true →
    ∃ t, Leads (.lrst hdr) s t ∧
      t = { s with
        tracker :=
          { s.tracker with
            state := if s.tracker.state = .unconfigured then .unconfigured else .unsynced
            disp := 0
            speed := 0
            net := 0
            windowStart := s.now
            latch := none }
        trays := s.trays.map (fun x => if x.state = .disabled then x else Tray.blank .empty)
        lines := s.lines.map (fun l => { l with state := .free, bar := [], mon := none })
        arch := { s.arch with mon := none, outstanding := none }
        manifest :=
          { s.manifest with
            rebuild := none
            rebuildsAbandoned :=
              if s.manifest.rebuild.isSome then satInc 65535 s.manifest.rebuildsAbandoned
              else s.manifest.rebuildsAbandoned }
        router := if s.session.watch then { s.router with staging := [] } else s.router
        sched :=
          { s.sched with
            withdrawn := min 65535 (s.sched.withdrawn + (s.link.timing.filter (fun f => f.body.isDrop)).length) }
        carts := { s.carts with chutes := s.carts.chutes.map (fun c => { c with queue := [], mon := none, awaiting := [] }) }
        session := if s.session.watch then { s.session with mode := .drained, watch := false } else s.session
        link :=
          { s.link with
            irefs := t.link.irefs
            timing := []
            timingDiscarded :=
              min 65535 (s.link.timingDiscarded + (s.link.timing.filter (fun f => !f.body.isDrop)).length) }
        mgmt := t.mgmt } ∧
      (∀ (i : Nat) (l : Line) (a b k : Nat), s.lines[i]? = some l → (l.state = .held a b ∨ l.state = .reserved k a b) →
        { line := i, tag1 := a, tag2 := b, reason := .mode, begun := false } ∈ t.link.irefs) ∧
      (∀ x ∈ s.link.irefs,
        (∀ l ∈ s.lines[x.line]?, (∀ a b, l.state ≠ .held a b) ∧ ∀ k a b, l.state ≠ .reserved k a b) → x ∈ t.link.irefs) ∧
      t.mgmt.requests = s.mgmt.requests.tail ∧
      t.mgmt.replies = s.mgmt.replies ++ [{ hdr := hdr, kind := 0x55, status := .done, results := [] }] ∧
      (t.mgmt.notices, t.mgmt.dropped) =
        (let m :=
          if s.tracker.stopIn = true ∧ s.tracker.stopOut = true ∧ s.tracker.latch ≠ none ∧ s.pins.stopHeld = false then
            s.mgmt.push (s.stamp (Notice.of (.stopSeen false)))
          else s.mgmt
        let n := if s.session.watch then m.push (s.stamp { Notice.of .drained with detail1 := s.session.voyage }) else m
        (n.notices, n.dropped))

/-- STAT, CRD and MGET change no state and are taken in every mode. STAT answers RANGE for a payload too short, an unknown part and a first number above 63, and carries the values of SESSION, TRACKER, LINES, ARCH, MANIFEST, ROUTES, CHUTES and LINK, ROUTES those of up to 32 rules and CHUTES those of up to 4 chutes from the first number. CRD answers RANGE and NOT_FOUND, and carries the chute, its orders, its confirmations, up to 8 entries and the count. MGET answers RANGE for a tag out of range, NOT_FOUND where nothing holds the tag, and otherwise its four parts: the entry, the tray, the open cart's entry and the stray record (R20, R43, R49, R72, R79, R98, R119, R144, R145, R160, R161, R186, R191, R199). The layouts, the codes and the widths are log 14, the stray reason codes log 35, and that a first entry number of 255 in CRD is RANGE is log 29. -/
def Obligations.Reports : Prop :=
  ∀ (hdr : ReqHdr) (s : State),
    (∀ arg, s.mayServe hdr (.stat arg) = true →
      (arg = none → Answers (.stat hdr arg) hdr (.stat arg) s .range [] (dropRequest s)) ∧
      ∀ a, arg = some a →
        ((a.part = 0 ∨ 8 < a.part ∨ ((a.part = 6 ∨ a.part = 7) ∧ 63 < a.first)) →
          Answers (.stat hdr arg) hdr (.stat arg) s .range [] (dropRequest s)) ∧
        (1 ≤ a.part → a.part ≤ 8 → ((a.part = 6 ∨ a.part = 7) → a.first ≤ 63) →
          ∃ d : List Datum,
            Answers (.stat hdr arg) hdr (.stat arg) s .done
              (.u8 a.part :: .u8 (if a.part = 6 ∨ a.part = 7 then a.first else 255) :: d) (dropRequest s) ∧
            (a.part = 1 → d = sessionValues s) ∧ (a.part = 2 → d = trackerValues s) ∧ (a.part = 3 → d = linesValues s) ∧
            (a.part = 5 → d = manifestValues s.manifest) ∧ (a.part = 6 → d = routesValues s.router a.first) ∧
            (a.part = 7 → d = chutesValues s a.first) ∧
            (a.part = 4 →
              d = [.u16 s.arch.sent, .u16 s.arch.missed, .u16 s.arch.replaced, .u16 s.arch.stale, .u16 s.arch.rejected,
                .u16 s.arch.skipped, .u8 (s.arch.lapLimit.getD 0), .u16 (s.arch.outstanding.getD 65535),
                .u8 (if s.arch.mon = none then 2 else 1), .u16 ((s.arch.mon.map Monitor.tray).getD 65535),
                .u16 s.tracker.archClamped]) ∧
            (a.part = 8 →
              d = [.u8 s.link.own, .u8 (s.link.host.getD 0), .u8 s.link.up.state.code, .u8 s.link.down.state.code,
                .u8 s.link.down.forward.length, .u8 s.link.up.forward.length, .u8 s.link.timing.length,
                .u8 s.link.irefs.length, .u16 s.link.up.formatErrors, .u16 s.link.up.checkErrors,
                .u16 s.link.down.formatErrors, .u16 s.link.down.checkErrors, .u16 s.link.down.forwardDropped,
                .u16 s.link.up.forwardDropped, .u16 s.link.selfCount, .u16 s.link.kindRejected, .u16 s.link.wrongPort,
                .u16 s.link.foreign, .u16 s.link.timingDiscarded]))) ∧
    (∀ arg, s.mayServe hdr (.crd arg) = true →
      (arg = none → Answers (.crd hdr arg) hdr (.crd arg) s .range [] (dropRequest s)) ∧
      ∀ a, arg = some a →
        ((63 < a.chute ∨ 254 < a.first) → Answers (.crd hdr arg) hdr (.crd arg) s .range [] (dropRequest s)) ∧
        (a.chute ≤ 63 → a.first ≤ 254 → s.carts.chutes[a.chute]? = none →
          Answers (.crd hdr arg) hdr (.crd arg) s .notFound [] (dropRequest s)) ∧
        (∀ c, a.chute ≤ 63 → a.first ≤ 254 → s.carts.chutes[a.chute]? = some c →
          Answers (.crd hdr arg) hdr (.crd arg) s .done (crdValues c a.first) (dropRequest s))) ∧
    ∀ arg, s.mayServe hdr (.mget arg) = true →
      (arg = none → Answers (.mget hdr arg) hdr (.mget arg) s .range [] (dropRequest s)) ∧
      ∀ tag, arg = some tag →
        ((tag = 0 ∨ 999999999 < tag) → Answers (.mget hdr arg) hdr (.mget arg) s .range [] (dropRequest s)) ∧
        (1 ≤ tag → tag ≤ 999999999 → (∀ x ∈ s.manifest.entries, x.2.tag ≠ tag) → (∀ x ∈ s.trays, x.tag ≠ tag) →
          (∀ c ∈ s.carts.chutes, ∀ e ∈ c.cart, e.tag ≠ tag) →
          (∀ r ∈ s.strays.recs, r.tag ≠ tag ∧ r.resolvedTag ≠ tag) →
          Answers (.mget hdr arg) hdr (.mget arg) s .notFound [] (dropRequest s)) ∧
        ∀ entry tray cart stray : List Datum, 1 ≤ tag → tag ≤ 999999999 → s.manifest.Law →
          ((∃ x ∈ s.manifest.entries, x.2.tag = tag) ∨ (∃ x ∈ s.trays, x.tag = tag) ∨
            (∃ c ∈ s.carts.chutes, ∃ e ∈ c.cart, e.tag = tag) ∨
            ∃ r ∈ s.strays.recs, r.tag = tag ∨ r.resolvedTag = tag) →
          ((∀ x ∈ s.manifest.entries, x.2.tag ≠ tag) → entry = [.u32 0]) →
          (∀ k e, (k, e) ∈ s.manifest.entries → e.tag = tag →
            entry =
              [.u32 tag, .u16 e.cabin, .u8 e.group, .u8 (if e.hold then 1 else 0), .u8 (if e.priority then 1 else 0),
                .u8 (if e.oversize then 1 else 0)]) →
          ((∀ x ∈ s.trays, x.tag ≠ tag) → tray = [.u16 65535]) →
          (∀ (k : Nat) (x : Tray), s.trays[k]? = some x → x.tag = tag → (∀ y ∈ s.trays.take k, y.tag ≠ tag) →
            tray =
              [.u16 k, .u8 x.state.code, .u8 x.lap, .u8 (x.zone.getD 255), .u8 ((x.reason.map StrayReason.code).getD 0),
                .u8 (x.target.getD 255)]) →
          ((∀ c ∈ s.carts.chutes, ∀ e ∈ c.cart, e.tag ≠ tag) → cart = [.u8 255]) →
          (∀ (j : Nat) (c : Chute) (e : CartEntry) (before after : List CartEntry), s.carts.chutes[j]? = some c →
            c.cart = before ++ e :: after → e.tag = tag → (∀ x ∈ before, x.tag ≠ tag) →
            (∀ d ∈ s.carts.chutes.take j, ∀ x ∈ d.cart, x.tag ≠ tag) →
            cart = [.u8 j, .u16 (c.serial.getD 0), .u8 e.status.code, .u8 (if e.amended then 1 else 0)]) →
          ((∀ r ∈ s.strays.recs, r.tag ≠ tag ∧ r.resolvedTag ≠ tag) → stray = [.u16 0]) →
          (∀ (before after : List StrayRec) (r : StrayRec), s.strays.recs = before ++ r :: after →
            (r.tag = tag ∨ r.resolvedTag = tag) → (∀ x ∈ before, x.tag ≠ tag ∧ x.resolvedTag ≠ tag) →
            stray = [.u16 r.serial, .u8 (if r.resolved then 2 else 1), .u8 r.reason.code]) →
          Answers (.mget hdr arg) hdr (.mget arg) s .done (entry ++ tray ++ cart ++ stray) (dropRequest s)
end

