-- ==== Sys2Proof/Laws/Frame.lean ====
section
/-! SUPPORT. What an operation inside an event can touch: the frame that the operations of the monitors, the induction lines, the arch and the chutes all keep. -/

namespace Sys2Proof.Machine

open Sys2Proof

theorem Kept.refl (s : State) : Kept s s := ⟨rfl, rfl, rfl, rfl, rfl, rfl, rfl, List.prefix_refl _, rfl, rfl, rfl⟩

theorem Kept.trans {a b c : State} (h : Kept a b) (k : Kept b c) : Kept a c where
  pins := k.pins.trans h.pins
  now := k.now.trans h.now
  free := k.free.trans h.free
  pending := k.pending.trans h.pending
  tracker := by rw [← h.tracker, ← k.tracker]
  link := by rw [← h.link, ← k.link]
  mgmt := by rw [← h.mgmt, ← k.mgmt]
  notices := h.notices.trans k.notices
  entries := k.entries.trans h.entries
  filter := k.filter.trans h.filter
  rebuild := k.rebuild.trans h.rebuild

/-- The frame of a run of operations over a list. -/
theorem Kept.foldl {α : Type} {f : State → α → State} (h : ∀ s x, Kept s (f s x)) :
    ∀ (l : List α) (s : State), Kept s (l.foldl f s)
  | [], s => .refl s
  | x :: rest, s => (h s x).trans (Kept.foldl h rest (f s x))

theorem Kept.ite {s a b : State} {p : Prop} [Decidable p] (ha : Kept s a) (hb : Kept s b) :
    Kept s (if p then a else b) := by
  split <;> assumption

/-! ## The plain writes -/

theorem Mgmt.push_prefix (m : Mgmt) (n : Notice) : m.notices <+: (m.push n).notices := by
  unfold Mgmt.push
  split
  · exact List.prefix_append _ _
  · exact List.prefix_refl _

theorem Mgmt.push_rest (m : Mgmt) (n : Notice) :
    { m.push n with notices := m.notices, dropped := m.dropped } = m := by
  unfold Mgmt.push
  split <;> rfl

theorem notify_frame (n : Notice) (s : State) : Kept s (notify n s) :=
  ⟨rfl, rfl, rfl, rfl, rfl, rfl, Mgmt.push_rest _ _, Mgmt.push_prefix _ _, rfl, rfl, rfl⟩

theorem drainWatch_frame (s : State) : Kept s (drainWatch s) := by
  refine ⟨rfl, rfl, rfl, rfl, rfl, rfl, ?_, ?_, rfl, rfl, rfl⟩
  · unfold drainWatch
    by_cases h : s.drainDone = true
    · simp only [h, if_true]
      exact Mgmt.push_rest _ _
    · simp only [h]
      rfl
  · unfold drainWatch
    by_cases h : s.drainDone = true
    · simp only [h, if_true]
      exact Mgmt.push_prefix _ _
    · simp only [h]
      exact List.prefix_refl _

/-- A write that leaves the fields of the frame as they stand. -/
theorem Kept.of {s t : State} (h1 : t.pins = s.pins) (h2 : t.now = s.now) (h3 : t.free = s.free)
    (h4 : t.pending = s.pending) (h5 : t.tracker = s.tracker) (h6 : t.link = s.link) (h7 : t.mgmt = s.mgmt)
    (h8 : t.manifest = s.manifest) : Kept s t where
  pins := h1
  now := h2
  free := h3
  pending := h4
  tracker := by rw [h5]
  link := by rw [h6]
  mgmt := by rw [h7]
  notices := by rw [h7]
  entries := by rw [h8]
  filter := by rw [h8]
  rebuild := by rw [h8]

theorem putTray_frame (k : Nat) (t : Tray) (s : State) : Kept s (putTray k t s) :=
  .of rfl rfl rfl rfl rfl rfl rfl rfl

theorem modifyLine_frame (i : Nat) (f : Line → Line) (s : State) : Kept s (modifyLine i f s) :=
  .of rfl rfl rfl rfl rfl rfl rfl rfl

theorem modifyChute_frame (j : Nat) (f : Chute → Chute) (s : State) : Kept s (modifyChute j f s) :=
  .of rfl rfl rfl rfl rfl rfl rfl rfl

theorem withArch_frame (a : Arch) (s : State) : Kept s (withArch a s) := .of rfl rfl rfl rfl rfl rfl rfl rfl
theorem withRouter_frame (r : Router) (s : State) : Kept s (withRouter r s) := .of rfl rfl rfl rfl rfl rfl rfl rfl
theorem withSched_frame (x : Scheduler) (s : State) : Kept s (withSched x s) := .of rfl rfl rfl rfl rfl rfl rfl rfl
theorem withStrays_frame (l : StrayList) (s : State) : Kept s (withStrays l s) := .of rfl rfl rfl rfl rfl rfl rfl rfl
theorem withSession_frame (x : Session) (s : State) : Kept s (withSession x s) := .of rfl rfl rfl rfl rfl rfl rfl rfl
theorem newCart_frame (j : Nat) (s : State) : Kept s (newCart j s) := .of rfl rfl rfl rfl rfl rfl rfl rfl
theorem rejectChute_frame (s : State) : Kept s (rejectChute s) := .of rfl rfl rfl rfl rfl rfl rfl rfl

theorem queueTimed_frame (dst : Nat) (b : TimedBody) (s : State) : Kept s (queueTimed dst b s) :=
  ⟨rfl, rfl, rfl, rfl, rfl, rfl, rfl, List.prefix_refl _, rfl, rfl, rfl⟩

theorem dropFirst_frame (s : State) : Kept s (dropFirst s) :=
  ⟨rfl, rfl, rfl, rfl, rfl, rfl, rfl, List.prefix_refl _, rfl, rfl, rfl⟩

theorem raiseIref_frame (i t1 t2 : Nat) (r : IrefReason) (s : State) : Kept s (raiseIref i t1 t2 r s) :=
  ⟨rfl, rfl, rfl, rfl, rfl, rfl, rfl, List.prefix_refl _, rfl, rfl, rfl⟩

theorem countLookup_frame (tag : Nat) (s : State) : Kept s (countLookup tag s) :=
  ⟨rfl, rfl, rfl, rfl, rfl, rfl, rfl, List.prefix_refl _, rfl, rfl, rfl⟩

/-! ## Tray records -/

theorem settleTray_frame (k : Nat) (t : Tray) (s : State) : Kept s (settleTray k t s) :=
  .ite ((putTray_frame k t s).trans (drainWatch_frame _)) (putTray_frame k t s)

theorem changeTray_frame (k : Nat) (e : TrayState) (f : Tray → Tray) (s : State) : Kept s (changeTray k e f s) := by
  unfold changeTray
  split
  · exact .ite (settleTray_frame _ _ _) (.refl _)
  · exact .refl _

theorem doubtTray_frame (k : Nat) (s : State) : Kept s (doubtTray k s) := changeTray_frame _ _ _ _

/-! ## Chutes and carts -/

theorem openWithCart_frame (j : Nat) (s : State) : Kept s (openWithCart j s) :=
  (newCart_frame j s).trans (modifyChute_frame _ _ _)

theorem swapTest_frame (j : Nat) (s : State) : Kept s (swapTest j s) := by
  unfold swapTest
  split
  · exact .ite (openWithCart_frame _ _) (.refl _)
  · exact .refl _

theorem closeCart_frame (j : Nat) (s : State) : Kept s (closeCart j s) := by
  unfold closeCart
  split
  · exact .refl _
  · exact .ite (.of rfl rfl rfl rfl rfl rfl rfl rfl) (.of rfl rfl rfl rfl rfl rfl rfl rfl)

theorem admitWaiting_frame (s : State) : Kept s (admitWaiting s) := by
  unfold admitWaiting
  split
  · exact .refl _
  · exact .ite (.of rfl rfl rfl rfl rfl rfl rfl rfl) (.refl _)

theorem reportSent_frame (s : State) : Kept s (reportSent s) := by
  unfold reportSent
  split
  · exact .refl _
  · refine Kept.trans ?_ (admitWaiting_frame _)
    refine Kept.trans ?_ (swapTest_frame _ _)
    exact .of rfl rfl rfl rfl rfl rfl rfl rfl

theorem cartFrameSent_frame (s : State) : Kept s (cartFrameSent s) := by
  unfold cartFrameSent
  split
  · exact .refl _
  · exact .ite (.of rfl rfl rfl rfl rfl rfl rfl rfl) (reportSent_frame _)

theorem expireOldest_frame (j : Nat) (s : State) : Kept s (expireOldest j s) := by
  unfold expireOldest
  split
  · exact .refl _
  · split
    · exact .refl _
    · exact (modifyChute_frame _ _ _).trans (doubtTray_frame _ _)

theorem openConfirmation_frame (j k seq : Nat) (s : State) : Kept s (openConfirmation j k seq s) := by
  unfold openConfirmation
  split
  · exact .refl _
  · exact .ite (modifyChute_frame _ _ _) ((expireOldest_frame _ _).trans (modifyChute_frame _ _ _))

theorem warnNearFull_frame (j : Nat) (s : State) : Kept s (warnNearFull j s) := by
  unfold warnNearFull
  split
  · exact .refl _
  · exact .ite ((modifyChute_frame _ _ _).trans (notify_frame _ _)) (.refl _)

theorem recordDrop_frame (j k seq tag cabin : Nat) (s : State) : Kept s (recordDrop j k seq tag cabin s) := by
  unfold recordDrop
  split
  · exact .refl _
  · have h := ((modifyChute_frame j (fun c => { c with cart := c.cart ++ [c.newEntry k seq tag cabin] }) s).trans
      (warnNearFull_frame j _)).trans (modifyChute_frame j Chute.fullTest _)
    exact .ite h (h.trans (openConfirmation_frame _ _ _ _))

theorem undoDrop_frame (j serial k seq tag : Nat) (s : State) : Kept s (undoDrop j serial k seq tag s) := by
  unfold undoDrop
  split
  · exact (modifyChute_frame _ _ _).trans (notify_frame _ _)
  · exact notify_frame _ _

theorem presumeDrop_frame (j serial k seq : Nat) (s : State) : Kept s (presumeDrop j serial k seq s) :=
  modifyChute_frame _ _ _

theorem markAmended_frame (j serial k seq : Nat) (s : State) : Kept s (markAmended j serial k seq s) :=
  modifyChute_frame _ _ _

/-! ## Strays -/

theorem recordStray_frame (d : StrayDrop) (s : State) : Kept s (recordStray d s) := by
  unfold recordStray
  split
  · exact (withStrays_frame _ _).trans (notify_frame _ _)
  · split
    · exact (withStrays_frame _ _).trans (notify_frame _ _)
    · split <;> exact (withStrays_frame _ _).trans (notify_frame _ _)

theorem reinduct_frame (tray tag chute : Nat) (s : State) : Kept s (reinduct tray tag chute s) := by
  unfold reinduct
  split
  · split
    · exact (withStrays_frame _ _).trans (notify_frame _ _)
    · exact .refl _
  · exact .refl _

/-! ## Routes -/

theorem tryStraySet_frame (k tag : Nat) (r : StrayReason) (s : State) : Kept s (tryStraySet k tag r s).1 := by
  unfold tryStraySet
  split
  · exact withRouter_frame _ _
  · exact (withRouter_frame _ _).trans (notify_frame _ _)

theorem routeStray_frame (k tag : Nat) (r : StrayReason) (s : State) : Kept s (routeStray k tag r s).1 := by
  unfold routeStray
  dsimp only
  split
  · exact withRouter_frame _ _
  · split
    · exact ((withRouter_frame _ _).trans (withRouter_frame _ _)).trans (tryStraySet_frame _ _ _ _)
    · exact withRouter_frame _ _
  · exact (withRouter_frame _ _).trans (tryStraySet_frame _ _ _ _)
  · exact (withRouter_frame _ _).trans (tryStraySet_frame _ _ _ _)

theorem recirculateIdentified_frame (k tag cabin zone : Nat) (s : State) :
    Kept s (recirculateIdentified k tag cabin zone s).1 := by
  unfold recirculateIdentified
  split
  · exact (withRouter_frame _ _).trans (tryStraySet_frame _ _ _ _)
  · exact .refl _

theorem strayNoRoute_frame (k tag cabin zone : Nat) (s : State) : Kept s (strayNoRoute k tag cabin zone s).1 :=
  routeStray_frame _ _ _ _

theorem defaultAction_frame (k tag cabin zone : Nat) (s : State) : Kept s (defaultAction k tag cabin zone s).1 := by
  unfold defaultAction
  dsimp only
  split
  · exact (withRouter_frame _ _).trans (recirculateIdentified_frame _ _ _ _ _)
  · exact (withRouter_frame _ _).trans (strayNoRoute_frame _ _ _ _ _)

theorem routePlaced_frame (k cabin : Nat) (p : Placed) (s : State) : Kept s (routePlaced k cabin p s).1 := by
  unfold routePlaced
  dsimp only
  split
  · exact withRouter_frame _ _
  · exact (withRouter_frame _ _).trans (recirculateIdentified_frame _ _ _ _ _)
  · exact (withRouter_frame _ _).trans (strayNoRoute_frame _ _ _ _ _)
  · exact (withRouter_frame _ _).trans (defaultAction_frame _ _ _ _ _)

theorem resolveRoute_frame (k tag : Nat) (v : Verdict) (s : State) : Kept s (resolveRoute k tag v s).1 := by
  unfold resolveRoute
  split
  · exact routeStray_frame _ _ _ _
  · split
    · exact routeStray_frame _ _ _ _
    · exact routePlaced_frame _ _ _ _

/-! ## Discharge -/

theorem armHead_frame (j : Nat) (s : State) : Kept s (armHead j s) := .ite (modifyChute_frame _ _ _) (.refl _)

theorem missOrder_frame (j k : Nat) (s : State) : Kept s (missOrder j k s) :=
  (modifyChute_frame _ _ _).trans (changeTray_frame _ _ _ _)

theorem fireRefused_frame (j k : Nat) (s : State) : Kept s (fireRefused j k s) :=
  (withSched_frame _ _).trans (missOrder_frame _ _ _)

theorem shadowFire_frame (j k : Nat) (s : State) : Kept s (shadowFire j k s) :=
  (modifyChute_frame _ _ _).trans (changeTray_frame _ _ _ _)

theorem handStray_frame (d : Option StrayDrop) (s : State) : Kept s (handStray d s) := by
  unfold handStray
  split
  · exact recordStray_frame _ _
  · exact .refl _

theorem sendDrop_frame (j : Nat) (c : Chute) (o : Order) (t : Tray) (s : State) : Kept s (sendDrop j c o t s) :=
  (queueTimed_frame _ _ _).trans (modifyChute_frame _ _ _)

theorem fireWithEye_frame (j : Nat) (c : Chute) (o : Order) (t : Tray) (s : State) : Kept s (fireWithEye j c o t s) :=
  (((sendDrop_frame _ _ _ _ _).trans (changeTray_frame _ _ _ _)).trans (recordDrop_frame _ _ _ _ _ _)).trans
    (handStray_frame _ _)

theorem fireWithoutEye_frame (j : Nat) (c : Chute) (o : Order) (t : Tray) (s : State) :
    Kept s (fireWithoutEye j c o t s) :=
  (((sendDrop_frame _ _ _ _ _).trans (recordDrop_frame _ _ _ _ _ _)).trans (handStray_frame _ _)).trans
    (changeTray_frame _ _ _ _)

theorem dropFire_frame (j : Nat) (c : Chute) (o : Order) (s : State) : Kept s (dropFire j c o s) := by
  unfold dropFire
  split
  · exact .ite (fireWithoutEye_frame _ _ _ _ _) (fireWithEye_frame _ _ _ _ _)
  · exact .refl _

theorem fireOrder_frame (j : Nat) (c : Chute) (o : Order) (s : State) : Kept s (fireOrder j c o s) := by
  unfold fireOrder
  split
  · exact shadowFire_frame _ _ _
  · exact .ite (dropFire_frame _ _ _ _) (fireRefused_frame _ _ _)
  · exact .ite (dropFire_frame _ _ _ _) (fireRefused_frame _ _ _)
  all_goals exact missOrder_frame _ _ _

theorem decideHead_frame (j : Nat) (b : Bool) (s : State) : Kept s (decideHead j b s) := by
  unfold decideHead
  split
  · exact .refl _
  · split
    · exact modifyChute_frame _ _ _
    · exact .ite ((modifyChute_frame _ _ _).trans (fireOrder_frame _ _ _ _)) (missOrder_frame _ _ _)

theorem runHead_frame : ∀ (fuel adv j : Nat) (s : State), Kept s (runHead fuel adv j s)
  | 0, _, _, s => .refl s
  | fuel + 1, adv, j, s => by
    unfold runHead
    split
    · exact .refl _
    · exact ((decideHead_frame _ _ _).trans (armHead_frame _ _)).trans (runHead_frame fuel 0 j _)
    · exact ((decideHead_frame _ _ _).trans (armHead_frame _ _)).trans (runHead_frame fuel 0 j _)

theorem evalHead_frame (adv j : Nat) (s : State) : Kept s (evalHead adv j s) := runHead_frame _ _ _ _

theorem evalHeads_frame (adv : Nat) (js : List Nat) (s : State) : Kept s (evalHeads adv js s) :=
  .foldl (fun s j => evalHead_frame adv j s) js s

theorem resampleHead_frame (j : Nat) (s : State) : Kept s (resampleHead j s) :=
  (modifyChute_frame _ _ _).trans (evalHead_frame _ _ _)

theorem placeOrder_frame (j k : Nat) (kind : RouteKind) (r : Option StrayReason) (tag : Nat) (s : State) :
    Kept s (placeOrder j k kind r tag s) := (withSched_frame _ _).trans (modifyChute_frame _ _ _)

theorem queueOrder_frame (j k : Nat) (kind : RouteKind) (r : Option StrayReason) (tag : Nat) (w : Nat → State → State)
    (hw : ∀ n s, Kept s (w n s)) (s : State) : Kept s (queueOrder j k kind r tag w s) := by
  have h := (placeOrder_frame j k kind r tag s).trans (hw s.sched.nextSeq _)
  unfold queueOrder
  split
  · exact .refl _
  · exact .ite ((h.trans (armHead_frame _ _)).trans (evalHead_frame _ _ _)) h

theorem cancelTray_frame (k : Nat) (s : State) : Kept s (cancelTray k s) :=
  (withSched_frame _ _).trans (changeTray_frame _ _ _ _)

theorem cancelOne_frame (j k : Nat) (s : State) : Kept s (cancelOne j k s) := by
  have h := (modifyChute_frame j (Chute.cancel k) s).trans (cancelTray_frame k _)
  unfold cancelOne
  split
  · exact .refl _
  · exact .ite (.ite ((h.trans (armHead_frame _ _)).trans (evalHead_frame _ _ _)) h) (.refl _)

theorem cancelQueue_frame (j : Nat) (s : State) : Kept s (cancelQueue j s) := by
  unfold cancelQueue
  split
  · exact .refl _
  · exact (Kept.foldl (fun s (o : Order) => cancelTray_frame o.tray s) _ _).trans (modifyChute_frame _ _ _)

theorem cancelAll_frame (s : State) : Kept s (cancelAll s) := .foldl (fun s j => cancelQueue_frame j s) _ s

theorem endConfirmation_frame (j k seq : Nat) (s : State) : Kept s (endConfirmation j k seq s) := by
  unfold endConfirmation
  split
  · exact .refl _
  · exact .ite ((modifyChute_frame _ _ _).trans (doubtTray_frame _ _)) (.refl _)

theorem dropNotSent_frame (j k seq serial tag : Nat) (s : State) : Kept s (dropNotSent j k seq serial tag s) := by
  unfold dropNotSent
  split
  · exact .refl _
  · exact .ite (undoDrop_frame _ _ _ _ _ _) (endConfirmation_frame _ _ _ _)

theorem withdrawEach_frame : ∀ (l : List TimedFrame) (s : State), Kept s (withdrawEach l s)
  | [], s => .refl s
  | f :: rest, s => by
    unfold withdrawEach
    split
    · exact ((((dropFirst_frame _).trans (withSched_frame _ _)).trans (dropNotSent_frame _ _ _ _ _ _)).trans
        (drainWatch_frame _)).trans (withdrawEach_frame rest _)
    · exact withdrawEach_frame rest _
    · exact withdrawEach_frame rest _

theorem withdrawDrops_frame (s : State) : Kept s (withdrawDrops s) := withdrawEach_frame _ _

theorem answerLate_frame (kind : ChangeKind) (k tag j serial seq : Nat) (s : State) :
    Kept s (answerLate kind k tag j serial seq s) :=
  ((notify_frame _ _).trans (withSched_frame _ _)).trans (markAmended_frame _ _ _ _ _)

theorem changeInCarts_frame (kind : ChangeKind) (tag : Nat) (s : State) : Kept s (changeInCarts kind tag s) := by
  unfold changeInCarts
  split
  · exact answerLate_frame _ _ _ _ _ _ _
  · exact .refl _

theorem manifestChange_frame (kind : ChangeKind) (tag : Nat) (s : State) : Kept s (manifestChange kind tag s) := by
  unfold manifestChange
  split
  · exact changeInCarts_frame _ _ _
  · split
    · exact cancelOne_frame _ _ _
    · exact answerLate_frame _ _ _ _ _ _ _
    · exact answerLate_frame _ _ _ _ _ _ _
    all_goals exact changeInCarts_frame _ _ _

/-! ## Induction lines -/

theorem refuseLine_frame (i t1 t2 : Nat) (s : State) : Kept s (refuseLine i t1 t2 s) :=
  (modifyLine_frame _ _ _).trans (raiseIref_frame _ _ _ _ _)

theorem holdAgain_frame (i t1 t2 : Nat) (s : State) : Kept s (holdAgain i t1 t2 s) :=
  .ite (modifyLine_frame _ _ _) (refuseLine_frame _ _ _ _)

theorem releaseLine_frame (i : Nat) (s : State) : Kept s (releaseLine i s) := by
  unfold releaseLine
  split
  · exact ((modifyLine_frame _ _ _).trans (changeTray_frame _ _ _ _)).trans (holdAgain_frame _ _ _ _)
  · exact .refl _

theorem releaseReservations_frame (s : State) : Kept s (releaseReservations s) :=
  .foldl (fun s i => releaseLine_frame i s) _ s

theorem dropHeldLine_frame (i : Nat) (s : State) : Kept s (dropHeldLine i s) := by
  unfold dropHeldLine
  split
  · exact refuseLine_frame _ _ _ _
  · exact .refl _

theorem dropHeld_frame (s : State) : Kept s (dropHeld s) := .foldl (fun s i => dropHeldLine_frame i s) _ s

theorem sendLaunch_frame (i k t1 t2 : Nat) (s : State) : Kept s (sendLaunch i k t1 t2 s) :=
  ((queueTimed_frame _ _ _).trans (changeTray_frame _ _ _ _)).trans (modifyLine_frame _ _ _)

theorem launchFire_frame (i : Nat) (s : State) : Kept s (launchFire i s) := by
  unfold launchFire
  split
  · exact .ite (sendLaunch_frame _ _ _ _ _) (releaseLine_frame _ _)
  · exact modifyLine_frame _ _ _

theorem evalLaunch_frame (adv i : Nat) (s : State) : Kept s (evalLaunch adv i s) := by
  unfold evalLaunch
  split
  · exact .refl _
  · exact launchFire_frame _ _
  · exact releaseLine_frame _ _

theorem evalLaunches_frame (adv : Nat) (is : List Nat) (s : State) : Kept s (evalLaunches adv is s) :=
  .foldl (fun s i => evalLaunch_frame adv i s) is s

theorem resampleLaunch_frame (i : Nat) (s : State) : Kept s (resampleLaunch i s) :=
  (modifyLine_frame _ _ _).trans (evalLaunch_frame _ _ _)

theorem reserveTray_frame (i k t1 t2 : Nat) (s : State) : Kept s (reserveTray i k t1 t2 s) :=
  ((changeTray_frame _ _ _ _).trans (modifyLine_frame _ _ _)).trans (evalLaunch_frame _ _ _)

theorem attempt_frame (i : Nat) (s : State) : Kept s (attempt i s) := by
  unfold attempt
  split
  · split
    · split
      · split
        · exact reserveTray_frame _ _ _ _ _
        · exact .refl _
      · exact .refl _
    · exact .refl _
  · exact .refl _

theorem passLine_frame (i k : Nat) (s : State) : Kept s (passLine i k s) :=
  (modifyLine_frame _ _ _).trans (attempt_frame _ _)

theorem freeWithBar_frame (i k g : Nat) (s : State) : Kept s (freeWithBar i k g s) := modifyLine_frame _ _ _

theorem launchDone_frame (i k t1 t2 g o : Nat) (s : State) : Kept s (launchDone i k t1 t2 g o s) :=
  Kept.trans (.ite (putTray_frame _ _ _) (settleTray_frame _ _ _)) (freeWithBar_frame _ _ _ _)

theorem takeLdon_frame (src : Nat) (b : LdonBody) (s : State) : Kept s (takeLdon src b s) := by
  unfold takeLdon
  split
  · exact notify_frame _ _
  · split
    · exact .ite (launchDone_frame _ _ _ _ _ _ _) (notify_frame _ _)
    · exact notify_frame _ _

theorem freeLaunch_frame (k : Nat) (i : Option Nat) (s : State) : Kept s (freeLaunch k i s) := by
  unfold freeLaunch
  split
  · exact .refl _
  · exact modifyLine_frame _ _ _

theorem loadAtArch_frame (k : Nat) (i : Option Nat) (s : State) : Kept s (loadAtArch k i s) :=
  ((putTray_frame _ _ _).trans (freeLaunch_frame _ _ _)).trans (notify_frame _ _)

theorem emptyAtArch_frame (k : Nat) (i : Option Nat) (s : State) : Kept s (emptyAtArch k i s) :=
  ((settleTray_frame _ _ _).trans (freeLaunch_frame _ _ _)).trans (notify_frame _ _)

theorem takeBrdy_frame (src line t1 t2 : Nat) (s : State) : Kept s (takeBrdy src line t1 t2 s) := by
  unfold takeBrdy
  split
  · exact notify_frame _ _
  · split
    · exact notify_frame _ _
    · refine .ite (notify_frame _ _) (.ite (raiseIref_frame _ _ _ _ _) (.ite (raiseIref_frame _ _ _ _ _) (.ite ?_ ?_)))
      · exact (raiseIref_frame _ _ _ _ _).trans (notify_frame _ _)
      · exact (modifyLine_frame _ _ _).trans (attempt_frame _ _)

/-! ## The arch -/

theorem countLookups_frame (lap : Nat) (set : List SetTag) (s : State) : Kept s (countLookups lap set s) := by
  unfold countLookups
  split
  · exact .refl _
  · split
    · exact countLookup_frame _ _
    · exact (countLookup_frame _ _).trans (countLookup_frame _ _)
    · exact .refl _

theorem tellDeck_frame (k tag j : Nat) (kind : RouteKind) (s : State) : Kept s (tellDeck k tag j kind s) := by
  unfold tellDeck
  split
  · exact reinduct_frame _ _ _ _
  · exact .refl _

theorem applyRoute_frame (k : Nat) (t : Tray) (r : Route) (s : State) : Kept s (applyRoute k t r s) := by
  unfold applyRoute
  split
  · exact putTray_frame _ _ _
  · exact (tellDeck_frame _ _ _ _ _).trans (queueOrder_frame _ _ _ _ _ _ (fun _ _ => putTray_frame _ _ _) _)

theorem handOn_frame (k lap : Nat) (src : Option Nat) (r : Reading) (s : State) : Kept s (handOn k lap src r s) :=
  .ite ((resolveRoute_frame _ _ _ _).trans (applyRoute_frame _ _ _ _)) (putTray_frame _ _ _)

theorem passBag_frame (k lap : Nat) (src : Option Nat) (set : List SetTag) (s : State) :
    Kept s (passBag k lap src set s) := (countLookups_frame _ _ _).trans (handOn_frame _ _ _ _ _)

theorem passEmpty_frame (k : Nat) (o : Occupancy) (a b : Nat) (s : State) : Kept s (passEmpty k o a b s) := by
  unfold passEmpty
  split
  · exact (notify_frame _ _).trans (passBag_frame _ _ _ _ _)
  · exact .refl _
  · exact .refl _

theorem passLoaded_frame (k : Nat) (t : Tray) (o : Occupancy) (a b : Nat) (s : State) :
    Kept s (passLoaded k t o a b s) := by
  unfold passLoaded
  split
  · exact passBag_frame _ _ _ _ _
  · exact passBag_frame _ _ _ _ _
  · exact (settleTray_frame _ _ _).trans (notify_frame _ _)

theorem passRecirculate_frame (k : Nat) (t : Tray) (o : Occupancy) (a b : Nat) (s : State) :
    Kept s (passRecirculate k t o a b s) := by
  unfold passRecirculate
  split
  · exact passBag_frame _ _ _ _ _
  · exact passBag_frame _ _ _ _ _
  · exact (settleTray_frame _ _ _).trans (notify_frame _ _)

theorem passDoubt_frame (k : Nat) (t : Tray) (o : Occupancy) (a b : Nat) (s : State) :
    Kept s (passDoubt k t o a b s) := by
  unfold passDoubt
  split
  · exact (undoDrop_frame _ _ _ _ _ _).trans (passBag_frame _ _ _ _ _)
  · exact (presumeDrop_frame _ _ _ _ _).trans (settleTray_frame _ _ _)
  · exact .refl _

theorem passLaunching_frame (k : Nat) (t : Tray) (o : Occupancy) (a b : Nat) (s : State) :
    Kept s (passLaunching k t o a b s) := by
  unfold passLaunching
  split
  · exact emptyAtArch_frame _ _ _
  · exact (loadAtArch_frame _ _ _).trans (passLoaded_frame _ _ _ _ _ _)
  · exact (loadAtArch_frame _ _ _).trans (passLoaded_frame _ _ _ _ _ _)

theorem passTray_frame (k : Nat) (o : Occupancy) (a b : Nat) (s : State) : Kept s (passTray k o a b s) := by
  unfold passTray
  split
  · exact .refl _
  · split
    · exact passEmpty_frame _ _ _ _ _
    · exact passLaunching_frame _ _ _ _ _ _
    · exact passLoaded_frame _ _ _ _ _ _
    · exact passRecirculate_frame _ _ _ _ _ _
    · exact passDoubt_frame _ _ _ _ _ _
    all_goals exact withArch_frame _ _

theorem armScan_frame (k : Nat) (s : State) : Kept s (armScan k s) := by
  unfold armScan
  split
  · exact ⟨rfl, rfl, rfl, rfl, rfl, rfl, rfl, List.prefix_refl _, rfl, rfl, rfl⟩
  · exact .refl _

theorem disarmScan_frame (s : State) : Kept s (disarmScan s) := withArch_frame _ _

theorem missScan_frame (k : Nat) (s : State) : Kept s (missScan k s) :=
  (withArch_frame _ _).trans (passTray_frame _ _ _ _ _)

theorem replaceScan_frame (s : State) : Kept s (replaceScan s) := by
  unfold replaceScan
  split
  · exact .refl _
  · exact (withArch_frame _ _).trans (passTray_frame _ _ _ _ _)

theorem fireScan_frame (k : Nat) (s : State) : Kept s (fireScan k s) :=
  .ite (((queueTimed_frame _ _ _).trans (replaceScan_frame _)).trans (withArch_frame _ _)) (missScan_frame _ _)

theorem armFollowing_frame (start k : Nat) (s : State) : Kept s (armFollowing start k s) := by
  unfold armFollowing
  split
  · exact .ite (disarmScan_frame _) (armScan_frame _ _)
  · exact disarmScan_frame _

theorem runScan_frame : ∀ (fuel adv start : Nat) (s : State), Kept s (runScan fuel adv start s)
  | 0, _, _, s => .refl s
  | fuel + 1, adv, start, s => by
    unfold runScan
    split
    · exact .refl _
    · split
      · exact .refl _
      · exact ((fireScan_frame _ _).trans (armFollowing_frame _ _ _)).trans (runScan_frame fuel 0 start _)
      · exact ((missScan_frame _ _).trans (armFollowing_frame _ _ _)).trans (runScan_frame fuel 0 start _)

theorem evalScan_frame (adv : Nat) (s : State) : Kept s (evalScan adv s) := by
  unfold evalScan
  split
  · exact .refl _
  · exact runScan_frame _ _ _ _

theorem freshArm_frame (s : State) : Kept s (freshArm s) := by
  unfold freshArm
  split
  · split
    · split
      · exact (armScan_frame _ _).trans (evalScan_frame _ _)
      · exact .refl _
    · exact .refl _
  · exact .refl _

theorem resampleScan_frame (s : State) : Kept s (resampleScan s) := by
  unfold resampleScan
  split
  · exact (armScan_frame _ _).trans (evalScan_frame _ _)
  · exact freshArm_frame _

theorem moveScan_frame (k : Nat) (s : State) : Kept s (moveScan k s) := by
  unfold moveScan
  split
  · split
    · exact (armScan_frame _ _).trans (evalScan_frame _ _)
    · exact disarmScan_frame _
  · exact .refl _

theorem takeTscn_frame (src : Nat) (b : TscnBody) (s : State) : Kept s (takeTscn src b s) := by
  unfold takeTscn
  split
  · exact withArch_frame _ _
  · exact .ite (withArch_frame _ _) (.ite (withArch_frame _ _) ((withArch_frame _ _).trans (passTray_frame _ _ _ _ _)))

theorem tscnOp_frame (src : Nat) (b : Body TscnBody) (s : State) : Kept s (tscnOp src b s) := by
  unfold tscnOp
  split
  · exact takeTscn_frame _ _ _
  · exact withArch_frame _ _

/-! ## Chute frames and commands, the STOP latch apart -/

theorem eyeSaw_frame (j : Nat) (c : Chute) (s : State) : Kept s (eyeSaw j c s) := by
  unfold eyeSaw
  split
  · exact (modifyChute_frame _ _ _).trans (notify_frame _ _)
  · exact (modifyChute_frame _ _ _).trans (changeTray_frame _ _ _ _)

theorem beginSwap_frame (j : Nat) (s : State) : Kept s (beginSwap j s) :=
  ((modifyChute_frame _ _ _).trans (cancelQueue_frame _ _)).trans (closeCart_frame _ _)

theorem beginPriorSwap_frame (j : Nat) (s : State) : Kept s (beginPriorSwap j s) :=
  (modifyChute_frame _ _ _).trans (closeCart_frame _ _)

theorem cartOut_frame (j : Nat) (c : Chute) (s : State) : Kept s (cartOut j c s) := by
  unfold cartOut
  split
  · exact beginSwap_frame _ _
  · exact beginSwap_frame _ _
  · exact modifyChute_frame _ _ _
  · exact .refl _
  · split
    · exact beginPriorSwap_frame _ _
    · exact beginPriorSwap_frame _ _
    · exact modifyChute_frame _ _ _
    all_goals exact .refl _

theorem cartIn_frame (j : Nat) (c : Chute) (s : State) : Kept s (cartIn j c s) := by
  unfold cartIn
  split
  · exact (modifyChute_frame _ _ _).trans (swapTest_frame _ _)
  · exact .ite (modifyChute_frame _ _ _) (.refl _)
  all_goals exact .refl _

theorem clearFault_frame (j : Nat) (c : Chute) (s : State) : Kept s (clearFault j c s) :=
  .ite ((modifyChute_frame _ _ _).trans (swapTest_frame _ _)) (.refl _)

theorem closeOrDiscard_frame (j : Nat) (c : Chute) (s : State) : Kept s (closeOrDiscard j c s) :=
  .ite (.refl _) (closeCart_frame _ _)

theorem closeInUse_frame (j : Nat) (c : Chute) (s : State) : Kept s (closeInUse j c s) :=
  ((modifyChute_frame _ _ _).trans (cancelQueue_frame _ _)).trans (closeOrDiscard_frame _ _ _)

theorem closeChute_frame (j : Nat) (c : Chute) (s : State) : Kept s (closeChute j c s) := by
  unfold closeChute
  split
  · exact closeInUse_frame _ _ _
  · exact closeInUse_frame _ _ _
  · exact modifyChute_frame _ _ _
  · exact .refl _
  · split
    · exact (modifyChute_frame _ _ _).trans (closeOrDiscard_frame _ _ _)
    · exact (modifyChute_frame _ _ _).trans (closeOrDiscard_frame _ _ _)
    · exact modifyChute_frame _ _ _
    all_goals exact .refl _

theorem closeAtEnd_frame (j : Nat) (s : State) : Kept s (closeAtEnd j s) := by
  unfold closeAtEnd
  split
  · exact .refl _
  · exact .ite (Kept.trans (.ite (closeOrDiscard_frame _ _ _) (.refl _)) (modifyChute_frame _ _ _)) (closeChute_frame _ _ _)

theorem closeAllChutes_frame (s : State) : Kept s (closeAllChutes s) := .foldl (fun s j => closeAtEnd_frame j s) _ s

/-! ## The chain -/

theorem announceLine_frame (adv i : Nat) (s : State) : Kept s (announceLine adv i s) := by
  unfold announceLine
  split
  · exact .foldl (fun s k => passLine_frame i k s) _ s
  · exact .refl _

theorem announce_frame (adv : Nat) (s : State) : Kept s (announce adv s) := .foldl (fun s i => announceLine_frame adv i s) _ s

theorem evalAll_frame (adv : Nat) (b s : State) : Kept s (evalAll adv b s) :=
  ((evalLaunches_frame _ _ _).trans (Kept.ite (evalScan_frame _ _) (.refl _))).trans (evalHeads_frame _ _ _)

theorem movedForward_frame (adv : Nat) (s : State) : Kept s (movedForward adv s) :=
  (announce_frame _ _).trans (evalAll_frame _ _ _)

theorem resampleAll_frame (s : State) : Kept s (resampleAll s) :=
  ((Kept.foldl (fun s i => resampleLaunch_frame i s) _ s).trans (resampleScan_frame _)).trans
    (Kept.foldl (fun s j => resampleHead_frame j s) _ _)

end Sys2Proof.Machine
end

