-- ==== Sys2Proof/Laws/State.lean ====
section
/-! SUPPORT. One lemma per field per update of State, each true by unfolding, so that no later proof unfolds a record update. -/

namespace Sys2Proof.Machine

open Sys2Proof

/-! ## notify -/

@[simp] theorem notify_tracker (n : Notice) (s : State) : (notify n s).tracker = s.tracker := rfl
@[simp] theorem notify_pins (n : Notice) (s : State) : (notify n s).pins = s.pins := rfl
@[simp] theorem notify_trays (n : Notice) (s : State) : (notify n s).trays = s.trays := rfl
@[simp] theorem notify_lines (n : Notice) (s : State) : (notify n s).lines = s.lines := rfl
@[simp] theorem notify_arch (n : Notice) (s : State) : (notify n s).arch = s.arch := rfl
@[simp] theorem notify_manifest (n : Notice) (s : State) : (notify n s).manifest = s.manifest := rfl
@[simp] theorem notify_router (n : Notice) (s : State) : (notify n s).router = s.router := rfl
@[simp] theorem notify_sched (n : Notice) (s : State) : (notify n s).sched = s.sched := rfl
@[simp] theorem notify_carts (n : Notice) (s : State) : (notify n s).carts = s.carts := rfl
@[simp] theorem notify_strays (n : Notice) (s : State) : (notify n s).strays = s.strays := rfl
@[simp] theorem notify_session (n : Notice) (s : State) : (notify n s).session = s.session := rfl
@[simp] theorem notify_link (n : Notice) (s : State) : (notify n s).link = s.link := rfl
@[simp] theorem notify_mgmt (n : Notice) (s : State) :
    (notify n s).mgmt =
      s.mgmt.push { n with second := s.session.clock } := rfl
@[simp] theorem notify_now (n : Notice) (s : State) : (notify n s).now = s.now := rfl
@[simp] theorem notify_free (n : Notice) (s : State) : (notify n s).free = s.free := rfl
@[simp] theorem notify_pending (n : Notice) (s : State) : (notify n s).pending = s.pending := rfl

/-! ## drainWatch -/

@[simp] theorem drainWatch_tracker (s : State) : (drainWatch s).tracker = s.tracker := rfl
@[simp] theorem drainWatch_pins (s : State) : (drainWatch s).pins = s.pins := rfl
@[simp] theorem drainWatch_trays (s : State) : (drainWatch s).trays = s.trays := rfl
@[simp] theorem drainWatch_lines (s : State) : (drainWatch s).lines = s.lines := rfl
@[simp] theorem drainWatch_arch (s : State) : (drainWatch s).arch = s.arch := rfl
@[simp] theorem drainWatch_manifest (s : State) : (drainWatch s).manifest = s.manifest := rfl
@[simp] theorem drainWatch_router (s : State) :
    (drainWatch s).router =
      if s.drainDone then { s.router with staging := [] } else s.router := rfl
@[simp] theorem drainWatch_sched (s : State) : (drainWatch s).sched = s.sched := rfl
@[simp] theorem drainWatch_carts (s : State) : (drainWatch s).carts = s.carts := rfl
@[simp] theorem drainWatch_strays (s : State) : (drainWatch s).strays = s.strays := rfl
@[simp] theorem drainWatch_session (s : State) :
    (drainWatch s).session =
      if s.drainDone then { s.session with mode := .drained, watch := false } else s.session := rfl
@[simp] theorem drainWatch_link (s : State) : (drainWatch s).link = s.link := rfl
@[simp] theorem drainWatch_mgmt (s : State) :
    (drainWatch s).mgmt =
      if s.drainDone then s.mgmt.push { Notice.of .drained with second := s.session.clock, detail1 := s.session.voyage }
      else s.mgmt := rfl
@[simp] theorem drainWatch_now (s : State) : (drainWatch s).now = s.now := rfl
@[simp] theorem drainWatch_free (s : State) : (drainWatch s).free = s.free := rfl
@[simp] theorem drainWatch_pending (s : State) : (drainWatch s).pending = s.pending := rfl

/-! ## putTray -/

@[simp] theorem putTray_tracker (k : Nat) (t : Tray) (s : State) : (putTray k t s).tracker = s.tracker := rfl
@[simp] theorem putTray_pins (k : Nat) (t : Tray) (s : State) : (putTray k t s).pins = s.pins := rfl
@[simp] theorem putTray_trays (k : Nat) (t : Tray) (s : State) :
    (putTray k t s).trays =
      s.trays.set k t := rfl
@[simp] theorem putTray_lines (k : Nat) (t : Tray) (s : State) : (putTray k t s).lines = s.lines := rfl
@[simp] theorem putTray_arch (k : Nat) (t : Tray) (s : State) : (putTray k t s).arch = s.arch := rfl
@[simp] theorem putTray_manifest (k : Nat) (t : Tray) (s : State) : (putTray k t s).manifest = s.manifest := rfl
@[simp] theorem putTray_router (k : Nat) (t : Tray) (s : State) : (putTray k t s).router = s.router := rfl
@[simp] theorem putTray_sched (k : Nat) (t : Tray) (s : State) : (putTray k t s).sched = s.sched := rfl
@[simp] theorem putTray_carts (k : Nat) (t : Tray) (s : State) : (putTray k t s).carts = s.carts := rfl
@[simp] theorem putTray_strays (k : Nat) (t : Tray) (s : State) : (putTray k t s).strays = s.strays := rfl
@[simp] theorem putTray_session (k : Nat) (t : Tray) (s : State) : (putTray k t s).session = s.session := rfl
@[simp] theorem putTray_link (k : Nat) (t : Tray) (s : State) : (putTray k t s).link = s.link := rfl
@[simp] theorem putTray_mgmt (k : Nat) (t : Tray) (s : State) : (putTray k t s).mgmt = s.mgmt := rfl
@[simp] theorem putTray_now (k : Nat) (t : Tray) (s : State) : (putTray k t s).now = s.now := rfl
@[simp] theorem putTray_free (k : Nat) (t : Tray) (s : State) : (putTray k t s).free = s.free := rfl
@[simp] theorem putTray_pending (k : Nat) (t : Tray) (s : State) : (putTray k t s).pending = s.pending := rfl

/-! ## modifyLine -/

@[simp] theorem modifyLine_tracker (i : Nat) (f : Line → Line) (s : State) : (modifyLine i f s).tracker = s.tracker := rfl
@[simp] theorem modifyLine_pins (i : Nat) (f : Line → Line) (s : State) : (modifyLine i f s).pins = s.pins := rfl
@[simp] theorem modifyLine_trays (i : Nat) (f : Line → Line) (s : State) : (modifyLine i f s).trays = s.trays := rfl
@[simp] theorem modifyLine_lines (i : Nat) (f : Line → Line) (s : State) :
    (modifyLine i f s).lines =
      s.lines.modify i f := rfl
@[simp] theorem modifyLine_arch (i : Nat) (f : Line → Line) (s : State) : (modifyLine i f s).arch = s.arch := rfl
@[simp] theorem modifyLine_manifest (i : Nat) (f : Line → Line) (s : State) : (modifyLine i f s).manifest = s.manifest := rfl
@[simp] theorem modifyLine_router (i : Nat) (f : Line → Line) (s : State) : (modifyLine i f s).router = s.router := rfl
@[simp] theorem modifyLine_sched (i : Nat) (f : Line → Line) (s : State) : (modifyLine i f s).sched = s.sched := rfl
@[simp] theorem modifyLine_carts (i : Nat) (f : Line → Line) (s : State) : (modifyLine i f s).carts = s.carts := rfl
@[simp] theorem modifyLine_strays (i : Nat) (f : Line → Line) (s : State) : (modifyLine i f s).strays = s.strays := rfl
@[simp] theorem modifyLine_session (i : Nat) (f : Line → Line) (s : State) : (modifyLine i f s).session = s.session := rfl
@[simp] theorem modifyLine_link (i : Nat) (f : Line → Line) (s : State) : (modifyLine i f s).link = s.link := rfl
@[simp] theorem modifyLine_mgmt (i : Nat) (f : Line → Line) (s : State) : (modifyLine i f s).mgmt = s.mgmt := rfl
@[simp] theorem modifyLine_now (i : Nat) (f : Line → Line) (s : State) : (modifyLine i f s).now = s.now := rfl
@[simp] theorem modifyLine_free (i : Nat) (f : Line → Line) (s : State) : (modifyLine i f s).free = s.free := rfl
@[simp] theorem modifyLine_pending (i : Nat) (f : Line → Line) (s : State) : (modifyLine i f s).pending = s.pending := rfl

/-! ## modifyChute -/

@[simp] theorem modifyChute_tracker (j : Nat) (f : Chute → Chute) (s : State) : (modifyChute j f s).tracker = s.tracker := rfl
@[simp] theorem modifyChute_pins (j : Nat) (f : Chute → Chute) (s : State) : (modifyChute j f s).pins = s.pins := rfl
@[simp] theorem modifyChute_trays (j : Nat) (f : Chute → Chute) (s : State) : (modifyChute j f s).trays = s.trays := rfl
@[simp] theorem modifyChute_lines (j : Nat) (f : Chute → Chute) (s : State) : (modifyChute j f s).lines = s.lines := rfl
@[simp] theorem modifyChute_arch (j : Nat) (f : Chute → Chute) (s : State) : (modifyChute j f s).arch = s.arch := rfl
@[simp] theorem modifyChute_manifest (j : Nat) (f : Chute → Chute) (s : State) : (modifyChute j f s).manifest = s.manifest := rfl
@[simp] theorem modifyChute_router (j : Nat) (f : Chute → Chute) (s : State) : (modifyChute j f s).router = s.router := rfl
@[simp] theorem modifyChute_sched (j : Nat) (f : Chute → Chute) (s : State) : (modifyChute j f s).sched = s.sched := rfl
@[simp] theorem modifyChute_carts (j : Nat) (f : Chute → Chute) (s : State) :
    (modifyChute j f s).carts =
      { s.carts with chutes := s.carts.chutes.modify j f } := rfl
@[simp] theorem modifyChute_strays (j : Nat) (f : Chute → Chute) (s : State) : (modifyChute j f s).strays = s.strays := rfl
@[simp] theorem modifyChute_session (j : Nat) (f : Chute → Chute) (s : State) : (modifyChute j f s).session = s.session := rfl
@[simp] theorem modifyChute_link (j : Nat) (f : Chute → Chute) (s : State) : (modifyChute j f s).link = s.link := rfl
@[simp] theorem modifyChute_mgmt (j : Nat) (f : Chute → Chute) (s : State) : (modifyChute j f s).mgmt = s.mgmt := rfl
@[simp] theorem modifyChute_now (j : Nat) (f : Chute → Chute) (s : State) : (modifyChute j f s).now = s.now := rfl
@[simp] theorem modifyChute_free (j : Nat) (f : Chute → Chute) (s : State) : (modifyChute j f s).free = s.free := rfl
@[simp] theorem modifyChute_pending (j : Nat) (f : Chute → Chute) (s : State) : (modifyChute j f s).pending = s.pending := rfl

/-! ## modifyPort -/

@[simp] theorem modifyPort_tracker (p : PortId) (f : Port → Port) (s : State) : (modifyPort p f s).tracker = s.tracker := rfl
@[simp] theorem modifyPort_pins (p : PortId) (f : Port → Port) (s : State) : (modifyPort p f s).pins = s.pins := rfl
@[simp] theorem modifyPort_trays (p : PortId) (f : Port → Port) (s : State) : (modifyPort p f s).trays = s.trays := rfl
@[simp] theorem modifyPort_lines (p : PortId) (f : Port → Port) (s : State) : (modifyPort p f s).lines = s.lines := rfl
@[simp] theorem modifyPort_arch (p : PortId) (f : Port → Port) (s : State) : (modifyPort p f s).arch = s.arch := rfl
@[simp] theorem modifyPort_manifest (p : PortId) (f : Port → Port) (s : State) : (modifyPort p f s).manifest = s.manifest := rfl
@[simp] theorem modifyPort_router (p : PortId) (f : Port → Port) (s : State) : (modifyPort p f s).router = s.router := rfl
@[simp] theorem modifyPort_sched (p : PortId) (f : Port → Port) (s : State) : (modifyPort p f s).sched = s.sched := rfl
@[simp] theorem modifyPort_carts (p : PortId) (f : Port → Port) (s : State) : (modifyPort p f s).carts = s.carts := rfl
@[simp] theorem modifyPort_strays (p : PortId) (f : Port → Port) (s : State) : (modifyPort p f s).strays = s.strays := rfl
@[simp] theorem modifyPort_session (p : PortId) (f : Port → Port) (s : State) : (modifyPort p f s).session = s.session := rfl
@[simp] theorem modifyPort_link (p : PortId) (f : Port → Port) (s : State) :
    (modifyPort p f s).link =
      s.link.modifyPort p f := rfl
@[simp] theorem modifyPort_mgmt (p : PortId) (f : Port → Port) (s : State) : (modifyPort p f s).mgmt = s.mgmt := rfl
@[simp] theorem modifyPort_now (p : PortId) (f : Port → Port) (s : State) : (modifyPort p f s).now = s.now := rfl
@[simp] theorem modifyPort_free (p : PortId) (f : Port → Port) (s : State) : (modifyPort p f s).free = s.free := rfl
@[simp] theorem modifyPort_pending (p : PortId) (f : Port → Port) (s : State) : (modifyPort p f s).pending = s.pending := rfl

/-! ## queueTimed -/

@[simp] theorem queueTimed_tracker (dst : Nat) (b : TimedBody) (s : State) : (queueTimed dst b s).tracker = s.tracker := rfl
@[simp] theorem queueTimed_pins (dst : Nat) (b : TimedBody) (s : State) : (queueTimed dst b s).pins = s.pins := rfl
@[simp] theorem queueTimed_trays (dst : Nat) (b : TimedBody) (s : State) : (queueTimed dst b s).trays = s.trays := rfl
@[simp] theorem queueTimed_lines (dst : Nat) (b : TimedBody) (s : State) : (queueTimed dst b s).lines = s.lines := rfl
@[simp] theorem queueTimed_arch (dst : Nat) (b : TimedBody) (s : State) : (queueTimed dst b s).arch = s.arch := rfl
@[simp] theorem queueTimed_manifest (dst : Nat) (b : TimedBody) (s : State) : (queueTimed dst b s).manifest = s.manifest := rfl
@[simp] theorem queueTimed_router (dst : Nat) (b : TimedBody) (s : State) : (queueTimed dst b s).router = s.router := rfl
@[simp] theorem queueTimed_sched (dst : Nat) (b : TimedBody) (s : State) : (queueTimed dst b s).sched = s.sched := rfl
@[simp] theorem queueTimed_carts (dst : Nat) (b : TimedBody) (s : State) : (queueTimed dst b s).carts = s.carts := rfl
@[simp] theorem queueTimed_strays (dst : Nat) (b : TimedBody) (s : State) : (queueTimed dst b s).strays = s.strays := rfl
@[simp] theorem queueTimed_session (dst : Nat) (b : TimedBody) (s : State) : (queueTimed dst b s).session = s.session := rfl
@[simp] theorem queueTimed_link (dst : Nat) (b : TimedBody) (s : State) :
    (queueTimed dst b s).link =
      { s.link with timing := s.link.timing ++ [{ dst := dst, body := b, begun := false }] } := rfl
@[simp] theorem queueTimed_mgmt (dst : Nat) (b : TimedBody) (s : State) : (queueTimed dst b s).mgmt = s.mgmt := rfl
@[simp] theorem queueTimed_now (dst : Nat) (b : TimedBody) (s : State) : (queueTimed dst b s).now = s.now := rfl
@[simp] theorem queueTimed_free (dst : Nat) (b : TimedBody) (s : State) : (queueTimed dst b s).free = s.free := rfl
@[simp] theorem queueTimed_pending (dst : Nat) (b : TimedBody) (s : State) : (queueTimed dst b s).pending = s.pending := rfl

/-! ## discardTimed -/

@[simp] theorem discardTimed_tracker (s : State) : (discardTimed s).tracker = s.tracker := rfl
@[simp] theorem discardTimed_pins (s : State) : (discardTimed s).pins = s.pins := rfl
@[simp] theorem discardTimed_trays (s : State) : (discardTimed s).trays = s.trays := rfl
@[simp] theorem discardTimed_lines (s : State) : (discardTimed s).lines = s.lines := rfl
@[simp] theorem discardTimed_arch (s : State) : (discardTimed s).arch = s.arch := rfl
@[simp] theorem discardTimed_manifest (s : State) : (discardTimed s).manifest = s.manifest := rfl
@[simp] theorem discardTimed_router (s : State) : (discardTimed s).router = s.router := rfl
@[simp] theorem discardTimed_sched (s : State) : (discardTimed s).sched = s.sched := rfl
@[simp] theorem discardTimed_carts (s : State) : (discardTimed s).carts = s.carts := rfl
@[simp] theorem discardTimed_strays (s : State) : (discardTimed s).strays = s.strays := rfl
@[simp] theorem discardTimed_session (s : State) : (discardTimed s).session = s.session := rfl
@[simp] theorem discardTimed_link (s : State) :
    (discardTimed s).link =
      { s.link with
        timing := s.link.timing.filter (fun f => f.body.isDrop)
        timingDiscarded :=
          min Config.tallyMax (s.link.timingDiscarded + (s.link.timing.filter (fun f => !f.body.isDrop)).length) } := rfl
@[simp] theorem discardTimed_mgmt (s : State) : (discardTimed s).mgmt = s.mgmt := rfl
@[simp] theorem discardTimed_now (s : State) : (discardTimed s).now = s.now := rfl
@[simp] theorem discardTimed_free (s : State) : (discardTimed s).free = s.free := rfl
@[simp] theorem discardTimed_pending (s : State) : (discardTimed s).pending = s.pending := rfl

/-! ## raiseIref -/

@[simp] theorem raiseIref_tracker (i a b : Nat) (r : IrefReason) (s : State) : (raiseIref i a b r s).tracker = s.tracker := rfl
@[simp] theorem raiseIref_pins (i a b : Nat) (r : IrefReason) (s : State) : (raiseIref i a b r s).pins = s.pins := rfl
@[simp] theorem raiseIref_trays (i a b : Nat) (r : IrefReason) (s : State) : (raiseIref i a b r s).trays = s.trays := rfl
@[simp] theorem raiseIref_lines (i a b : Nat) (r : IrefReason) (s : State) : (raiseIref i a b r s).lines = s.lines := rfl
@[simp] theorem raiseIref_arch (i a b : Nat) (r : IrefReason) (s : State) : (raiseIref i a b r s).arch = s.arch := rfl
@[simp] theorem raiseIref_manifest (i a b : Nat) (r : IrefReason) (s : State) : (raiseIref i a b r s).manifest = s.manifest := rfl
@[simp] theorem raiseIref_router (i a b : Nat) (r : IrefReason) (s : State) : (raiseIref i a b r s).router = s.router := rfl
@[simp] theorem raiseIref_sched (i a b : Nat) (r : IrefReason) (s : State) : (raiseIref i a b r s).sched = s.sched := rfl
@[simp] theorem raiseIref_carts (i a b : Nat) (r : IrefReason) (s : State) : (raiseIref i a b r s).carts = s.carts := rfl
@[simp] theorem raiseIref_strays (i a b : Nat) (r : IrefReason) (s : State) : (raiseIref i a b r s).strays = s.strays := rfl
@[simp] theorem raiseIref_session (i a b : Nat) (r : IrefReason) (s : State) : (raiseIref i a b r s).session = s.session := rfl
@[simp] theorem raiseIref_link (i a b : Nat) (r : IrefReason) (s : State) :
    (raiseIref i a b r s).link =
      { s.link with
        irefs := placeIref { line := i, tag1 := a, tag2 := b, reason := r, begun := false } s.link.irefs } := rfl
@[simp] theorem raiseIref_mgmt (i a b : Nat) (r : IrefReason) (s : State) : (raiseIref i a b r s).mgmt = s.mgmt := rfl
@[simp] theorem raiseIref_now (i a b : Nat) (r : IrefReason) (s : State) : (raiseIref i a b r s).now = s.now := rfl
@[simp] theorem raiseIref_free (i a b : Nat) (r : IrefReason) (s : State) : (raiseIref i a b r s).free = s.free := rfl
@[simp] theorem raiseIref_pending (i a b : Nat) (r : IrefReason) (s : State) : (raiseIref i a b r s).pending = s.pending := rfl

/-! ## withTracker -/

@[simp] theorem withTracker_tracker (x : Tracker) (s : State) :
    (withTracker x s).tracker =
      x := rfl
@[simp] theorem withTracker_pins (x : Tracker) (s : State) : (withTracker x s).pins = s.pins := rfl
@[simp] theorem withTracker_trays (x : Tracker) (s : State) : (withTracker x s).trays = s.trays := rfl
@[simp] theorem withTracker_lines (x : Tracker) (s : State) : (withTracker x s).lines = s.lines := rfl
@[simp] theorem withTracker_arch (x : Tracker) (s : State) : (withTracker x s).arch = s.arch := rfl
@[simp] theorem withTracker_manifest (x : Tracker) (s : State) : (withTracker x s).manifest = s.manifest := rfl
@[simp] theorem withTracker_router (x : Tracker) (s : State) : (withTracker x s).router = s.router := rfl
@[simp] theorem withTracker_sched (x : Tracker) (s : State) : (withTracker x s).sched = s.sched := rfl
@[simp] theorem withTracker_carts (x : Tracker) (s : State) : (withTracker x s).carts = s.carts := rfl
@[simp] theorem withTracker_strays (x : Tracker) (s : State) : (withTracker x s).strays = s.strays := rfl
@[simp] theorem withTracker_session (x : Tracker) (s : State) : (withTracker x s).session = s.session := rfl
@[simp] theorem withTracker_link (x : Tracker) (s : State) : (withTracker x s).link = s.link := rfl
@[simp] theorem withTracker_mgmt (x : Tracker) (s : State) : (withTracker x s).mgmt = s.mgmt := rfl
@[simp] theorem withTracker_now (x : Tracker) (s : State) : (withTracker x s).now = s.now := rfl
@[simp] theorem withTracker_free (x : Tracker) (s : State) : (withTracker x s).free = s.free := rfl
@[simp] theorem withTracker_pending (x : Tracker) (s : State) : (withTracker x s).pending = s.pending := rfl

/-! ## withLatch -/

@[simp] theorem withLatch_tracker (x : Option StopCause) (s : State) :
    (withLatch x s).tracker =
      { s.tracker with latch := x } := rfl
@[simp] theorem withLatch_pins (x : Option StopCause) (s : State) : (withLatch x s).pins = s.pins := rfl
@[simp] theorem withLatch_trays (x : Option StopCause) (s : State) : (withLatch x s).trays = s.trays := rfl
@[simp] theorem withLatch_lines (x : Option StopCause) (s : State) : (withLatch x s).lines = s.lines := rfl
@[simp] theorem withLatch_arch (x : Option StopCause) (s : State) : (withLatch x s).arch = s.arch := rfl
@[simp] theorem withLatch_manifest (x : Option StopCause) (s : State) : (withLatch x s).manifest = s.manifest := rfl
@[simp] theorem withLatch_router (x : Option StopCause) (s : State) : (withLatch x s).router = s.router := rfl
@[simp] theorem withLatch_sched (x : Option StopCause) (s : State) : (withLatch x s).sched = s.sched := rfl
@[simp] theorem withLatch_carts (x : Option StopCause) (s : State) : (withLatch x s).carts = s.carts := rfl
@[simp] theorem withLatch_strays (x : Option StopCause) (s : State) : (withLatch x s).strays = s.strays := rfl
@[simp] theorem withLatch_session (x : Option StopCause) (s : State) : (withLatch x s).session = s.session := rfl
@[simp] theorem withLatch_link (x : Option StopCause) (s : State) : (withLatch x s).link = s.link := rfl
@[simp] theorem withLatch_mgmt (x : Option StopCause) (s : State) : (withLatch x s).mgmt = s.mgmt := rfl
@[simp] theorem withLatch_now (x : Option StopCause) (s : State) : (withLatch x s).now = s.now := rfl
@[simp] theorem withLatch_free (x : Option StopCause) (s : State) : (withLatch x s).free = s.free := rfl
@[simp] theorem withLatch_pending (x : Option StopCause) (s : State) : (withLatch x s).pending = s.pending := rfl

/-! ## withPins -/

@[simp] theorem withPins_tracker (x : Pins) (s : State) : (withPins x s).tracker = s.tracker := rfl
@[simp] theorem withPins_pins (x : Pins) (s : State) :
    (withPins x s).pins =
      x := rfl
@[simp] theorem withPins_trays (x : Pins) (s : State) : (withPins x s).trays = s.trays := rfl
@[simp] theorem withPins_lines (x : Pins) (s : State) : (withPins x s).lines = s.lines := rfl
@[simp] theorem withPins_arch (x : Pins) (s : State) : (withPins x s).arch = s.arch := rfl
@[simp] theorem withPins_manifest (x : Pins) (s : State) : (withPins x s).manifest = s.manifest := rfl
@[simp] theorem withPins_router (x : Pins) (s : State) : (withPins x s).router = s.router := rfl
@[simp] theorem withPins_sched (x : Pins) (s : State) : (withPins x s).sched = s.sched := rfl
@[simp] theorem withPins_carts (x : Pins) (s : State) : (withPins x s).carts = s.carts := rfl
@[simp] theorem withPins_strays (x : Pins) (s : State) : (withPins x s).strays = s.strays := rfl
@[simp] theorem withPins_session (x : Pins) (s : State) : (withPins x s).session = s.session := rfl
@[simp] theorem withPins_link (x : Pins) (s : State) : (withPins x s).link = s.link := rfl
@[simp] theorem withPins_mgmt (x : Pins) (s : State) : (withPins x s).mgmt = s.mgmt := rfl
@[simp] theorem withPins_now (x : Pins) (s : State) : (withPins x s).now = s.now := rfl
@[simp] theorem withPins_free (x : Pins) (s : State) : (withPins x s).free = s.free := rfl
@[simp] theorem withPins_pending (x : Pins) (s : State) : (withPins x s).pending = s.pending := rfl

/-! ## withArch -/

@[simp] theorem withArch_tracker (x : Arch) (s : State) : (withArch x s).tracker = s.tracker := rfl
@[simp] theorem withArch_pins (x : Arch) (s : State) : (withArch x s).pins = s.pins := rfl
@[simp] theorem withArch_trays (x : Arch) (s : State) : (withArch x s).trays = s.trays := rfl
@[simp] theorem withArch_lines (x : Arch) (s : State) : (withArch x s).lines = s.lines := rfl
@[simp] theorem withArch_arch (x : Arch) (s : State) :
    (withArch x s).arch =
      x := rfl
@[simp] theorem withArch_manifest (x : Arch) (s : State) : (withArch x s).manifest = s.manifest := rfl
@[simp] theorem withArch_router (x : Arch) (s : State) : (withArch x s).router = s.router := rfl
@[simp] theorem withArch_sched (x : Arch) (s : State) : (withArch x s).sched = s.sched := rfl
@[simp] theorem withArch_carts (x : Arch) (s : State) : (withArch x s).carts = s.carts := rfl
@[simp] theorem withArch_strays (x : Arch) (s : State) : (withArch x s).strays = s.strays := rfl
@[simp] theorem withArch_session (x : Arch) (s : State) : (withArch x s).session = s.session := rfl
@[simp] theorem withArch_link (x : Arch) (s : State) : (withArch x s).link = s.link := rfl
@[simp] theorem withArch_mgmt (x : Arch) (s : State) : (withArch x s).mgmt = s.mgmt := rfl
@[simp] theorem withArch_now (x : Arch) (s : State) : (withArch x s).now = s.now := rfl
@[simp] theorem withArch_free (x : Arch) (s : State) : (withArch x s).free = s.free := rfl
@[simp] theorem withArch_pending (x : Arch) (s : State) : (withArch x s).pending = s.pending := rfl

/-! ## withManifest -/

@[simp] theorem withManifest_tracker (x : Manifest) (s : State) : (withManifest x s).tracker = s.tracker := rfl
@[simp] theorem withManifest_pins (x : Manifest) (s : State) : (withManifest x s).pins = s.pins := rfl
@[simp] theorem withManifest_trays (x : Manifest) (s : State) : (withManifest x s).trays = s.trays := rfl
@[simp] theorem withManifest_lines (x : Manifest) (s : State) : (withManifest x s).lines = s.lines := rfl
@[simp] theorem withManifest_arch (x : Manifest) (s : State) : (withManifest x s).arch = s.arch := rfl
@[simp] theorem withManifest_manifest (x : Manifest) (s : State) :
    (withManifest x s).manifest =
      x := rfl
@[simp] theorem withManifest_router (x : Manifest) (s : State) : (withManifest x s).router = s.router := rfl
@[simp] theorem withManifest_sched (x : Manifest) (s : State) : (withManifest x s).sched = s.sched := rfl
@[simp] theorem withManifest_carts (x : Manifest) (s : State) : (withManifest x s).carts = s.carts := rfl
@[simp] theorem withManifest_strays (x : Manifest) (s : State) : (withManifest x s).strays = s.strays := rfl
@[simp] theorem withManifest_session (x : Manifest) (s : State) : (withManifest x s).session = s.session := rfl
@[simp] theorem withManifest_link (x : Manifest) (s : State) : (withManifest x s).link = s.link := rfl
@[simp] theorem withManifest_mgmt (x : Manifest) (s : State) : (withManifest x s).mgmt = s.mgmt := rfl
@[simp] theorem withManifest_now (x : Manifest) (s : State) : (withManifest x s).now = s.now := rfl
@[simp] theorem withManifest_free (x : Manifest) (s : State) : (withManifest x s).free = s.free := rfl
@[simp] theorem withManifest_pending (x : Manifest) (s : State) : (withManifest x s).pending = s.pending := rfl

/-! ## withRouter -/

@[simp] theorem withRouter_tracker (x : Router) (s : State) : (withRouter x s).tracker = s.tracker := rfl
@[simp] theorem withRouter_pins (x : Router) (s : State) : (withRouter x s).pins = s.pins := rfl
@[simp] theorem withRouter_trays (x : Router) (s : State) : (withRouter x s).trays = s.trays := rfl
@[simp] theorem withRouter_lines (x : Router) (s : State) : (withRouter x s).lines = s.lines := rfl
@[simp] theorem withRouter_arch (x : Router) (s : State) : (withRouter x s).arch = s.arch := rfl
@[simp] theorem withRouter_manifest (x : Router) (s : State) : (withRouter x s).manifest = s.manifest := rfl
@[simp] theorem withRouter_router (x : Router) (s : State) :
    (withRouter x s).router =
      x := rfl
@[simp] theorem withRouter_sched (x : Router) (s : State) : (withRouter x s).sched = s.sched := rfl
@[simp] theorem withRouter_carts (x : Router) (s : State) : (withRouter x s).carts = s.carts := rfl
@[simp] theorem withRouter_strays (x : Router) (s : State) : (withRouter x s).strays = s.strays := rfl
@[simp] theorem withRouter_session (x : Router) (s : State) : (withRouter x s).session = s.session := rfl
@[simp] theorem withRouter_link (x : Router) (s : State) : (withRouter x s).link = s.link := rfl
@[simp] theorem withRouter_mgmt (x : Router) (s : State) : (withRouter x s).mgmt = s.mgmt := rfl
@[simp] theorem withRouter_now (x : Router) (s : State) : (withRouter x s).now = s.now := rfl
@[simp] theorem withRouter_free (x : Router) (s : State) : (withRouter x s).free = s.free := rfl
@[simp] theorem withRouter_pending (x : Router) (s : State) : (withRouter x s).pending = s.pending := rfl

/-! ## withSched -/

@[simp] theorem withSched_tracker (x : Scheduler) (s : State) : (withSched x s).tracker = s.tracker := rfl
@[simp] theorem withSched_pins (x : Scheduler) (s : State) : (withSched x s).pins = s.pins := rfl
@[simp] theorem withSched_trays (x : Scheduler) (s : State) : (withSched x s).trays = s.trays := rfl
@[simp] theorem withSched_lines (x : Scheduler) (s : State) : (withSched x s).lines = s.lines := rfl
@[simp] theorem withSched_arch (x : Scheduler) (s : State) : (withSched x s).arch = s.arch := rfl
@[simp] theorem withSched_manifest (x : Scheduler) (s : State) : (withSched x s).manifest = s.manifest := rfl
@[simp] theorem withSched_router (x : Scheduler) (s : State) : (withSched x s).router = s.router := rfl
@[simp] theorem withSched_sched (x : Scheduler) (s : State) :
    (withSched x s).sched =
      x := rfl
@[simp] theorem withSched_carts (x : Scheduler) (s : State) : (withSched x s).carts = s.carts := rfl
@[simp] theorem withSched_strays (x : Scheduler) (s : State) : (withSched x s).strays = s.strays := rfl
@[simp] theorem withSched_session (x : Scheduler) (s : State) : (withSched x s).session = s.session := rfl
@[simp] theorem withSched_link (x : Scheduler) (s : State) : (withSched x s).link = s.link := rfl
@[simp] theorem withSched_mgmt (x : Scheduler) (s : State) : (withSched x s).mgmt = s.mgmt := rfl
@[simp] theorem withSched_now (x : Scheduler) (s : State) : (withSched x s).now = s.now := rfl
@[simp] theorem withSched_free (x : Scheduler) (s : State) : (withSched x s).free = s.free := rfl
@[simp] theorem withSched_pending (x : Scheduler) (s : State) : (withSched x s).pending = s.pending := rfl

/-! ## withStrays -/

@[simp] theorem withStrays_tracker (x : StrayList) (s : State) : (withStrays x s).tracker = s.tracker := rfl
@[simp] theorem withStrays_pins (x : StrayList) (s : State) : (withStrays x s).pins = s.pins := rfl
@[simp] theorem withStrays_trays (x : StrayList) (s : State) : (withStrays x s).trays = s.trays := rfl
@[simp] theorem withStrays_lines (x : StrayList) (s : State) : (withStrays x s).lines = s.lines := rfl
@[simp] theorem withStrays_arch (x : StrayList) (s : State) : (withStrays x s).arch = s.arch := rfl
@[simp] theorem withStrays_manifest (x : StrayList) (s : State) : (withStrays x s).manifest = s.manifest := rfl
@[simp] theorem withStrays_router (x : StrayList) (s : State) : (withStrays x s).router = s.router := rfl
@[simp] theorem withStrays_sched (x : StrayList) (s : State) : (withStrays x s).sched = s.sched := rfl
@[simp] theorem withStrays_carts (x : StrayList) (s : State) : (withStrays x s).carts = s.carts := rfl
@[simp] theorem withStrays_strays (x : StrayList) (s : State) :
    (withStrays x s).strays =
      x := rfl
@[simp] theorem withStrays_session (x : StrayList) (s : State) : (withStrays x s).session = s.session := rfl
@[simp] theorem withStrays_link (x : StrayList) (s : State) : (withStrays x s).link = s.link := rfl
@[simp] theorem withStrays_mgmt (x : StrayList) (s : State) : (withStrays x s).mgmt = s.mgmt := rfl
@[simp] theorem withStrays_now (x : StrayList) (s : State) : (withStrays x s).now = s.now := rfl
@[simp] theorem withStrays_free (x : StrayList) (s : State) : (withStrays x s).free = s.free := rfl
@[simp] theorem withStrays_pending (x : StrayList) (s : State) : (withStrays x s).pending = s.pending := rfl

/-! ## withSession -/

@[simp] theorem withSession_tracker (x : Session) (s : State) : (withSession x s).tracker = s.tracker := rfl
@[simp] theorem withSession_pins (x : Session) (s : State) : (withSession x s).pins = s.pins := rfl
@[simp] theorem withSession_trays (x : Session) (s : State) : (withSession x s).trays = s.trays := rfl
@[simp] theorem withSession_lines (x : Session) (s : State) : (withSession x s).lines = s.lines := rfl
@[simp] theorem withSession_arch (x : Session) (s : State) : (withSession x s).arch = s.arch := rfl
@[simp] theorem withSession_manifest (x : Session) (s : State) : (withSession x s).manifest = s.manifest := rfl
@[simp] theorem withSession_router (x : Session) (s : State) : (withSession x s).router = s.router := rfl
@[simp] theorem withSession_sched (x : Session) (s : State) : (withSession x s).sched = s.sched := rfl
@[simp] theorem withSession_carts (x : Session) (s : State) : (withSession x s).carts = s.carts := rfl
@[simp] theorem withSession_strays (x : Session) (s : State) : (withSession x s).strays = s.strays := rfl
@[simp] theorem withSession_session (x : Session) (s : State) :
    (withSession x s).session =
      x := rfl
@[simp] theorem withSession_link (x : Session) (s : State) : (withSession x s).link = s.link := rfl
@[simp] theorem withSession_mgmt (x : Session) (s : State) : (withSession x s).mgmt = s.mgmt := rfl
@[simp] theorem withSession_now (x : Session) (s : State) : (withSession x s).now = s.now := rfl
@[simp] theorem withSession_free (x : Session) (s : State) : (withSession x s).free = s.free := rfl
@[simp] theorem withSession_pending (x : Session) (s : State) : (withSession x s).pending = s.pending := rfl

/-! ## withLink -/

@[simp] theorem withLink_tracker (x : Link) (s : State) : (withLink x s).tracker = s.tracker := rfl
@[simp] theorem withLink_pins (x : Link) (s : State) : (withLink x s).pins = s.pins := rfl
@[simp] theorem withLink_trays (x : Link) (s : State) : (withLink x s).trays = s.trays := rfl
@[simp] theorem withLink_lines (x : Link) (s : State) : (withLink x s).lines = s.lines := rfl
@[simp] theorem withLink_arch (x : Link) (s : State) : (withLink x s).arch = s.arch := rfl
@[simp] theorem withLink_manifest (x : Link) (s : State) : (withLink x s).manifest = s.manifest := rfl
@[simp] theorem withLink_router (x : Link) (s : State) : (withLink x s).router = s.router := rfl
@[simp] theorem withLink_sched (x : Link) (s : State) : (withLink x s).sched = s.sched := rfl
@[simp] theorem withLink_carts (x : Link) (s : State) : (withLink x s).carts = s.carts := rfl
@[simp] theorem withLink_strays (x : Link) (s : State) : (withLink x s).strays = s.strays := rfl
@[simp] theorem withLink_session (x : Link) (s : State) : (withLink x s).session = s.session := rfl
@[simp] theorem withLink_link (x : Link) (s : State) :
    (withLink x s).link =
      x := rfl
@[simp] theorem withLink_mgmt (x : Link) (s : State) : (withLink x s).mgmt = s.mgmt := rfl
@[simp] theorem withLink_now (x : Link) (s : State) : (withLink x s).now = s.now := rfl
@[simp] theorem withLink_free (x : Link) (s : State) : (withLink x s).free = s.free := rfl
@[simp] theorem withLink_pending (x : Link) (s : State) : (withLink x s).pending = s.pending := rfl

/-! ## countLookup -/

@[simp] theorem countLookup_tracker (t : Nat) (s : State) : (countLookup t s).tracker = s.tracker := rfl
@[simp] theorem countLookup_pins (t : Nat) (s : State) : (countLookup t s).pins = s.pins := rfl
@[simp] theorem countLookup_trays (t : Nat) (s : State) : (countLookup t s).trays = s.trays := rfl
@[simp] theorem countLookup_lines (t : Nat) (s : State) : (countLookup t s).lines = s.lines := rfl
@[simp] theorem countLookup_arch (t : Nat) (s : State) : (countLookup t s).arch = s.arch := rfl
@[simp] theorem countLookup_manifest (t : Nat) (s : State) :
    (countLookup t s).manifest =
      s.manifest.countLookup t := rfl
@[simp] theorem countLookup_router (t : Nat) (s : State) : (countLookup t s).router = s.router := rfl
@[simp] theorem countLookup_sched (t : Nat) (s : State) : (countLookup t s).sched = s.sched := rfl
@[simp] theorem countLookup_carts (t : Nat) (s : State) : (countLookup t s).carts = s.carts := rfl
@[simp] theorem countLookup_strays (t : Nat) (s : State) : (countLookup t s).strays = s.strays := rfl
@[simp] theorem countLookup_session (t : Nat) (s : State) : (countLookup t s).session = s.session := rfl
@[simp] theorem countLookup_link (t : Nat) (s : State) : (countLookup t s).link = s.link := rfl
@[simp] theorem countLookup_mgmt (t : Nat) (s : State) : (countLookup t s).mgmt = s.mgmt := rfl
@[simp] theorem countLookup_now (t : Nat) (s : State) : (countLookup t s).now = s.now := rfl
@[simp] theorem countLookup_free (t : Nat) (s : State) : (countLookup t s).free = s.free := rfl
@[simp] theorem countLookup_pending (t : Nat) (s : State) : (countLookup t s).pending = s.pending := rfl

/-! ## disarmAll -/

@[simp] theorem disarmAll_tracker (s : State) : (disarmAll s).tracker = s.tracker := rfl
@[simp] theorem disarmAll_pins (s : State) : (disarmAll s).pins = s.pins := rfl
@[simp] theorem disarmAll_trays (s : State) : (disarmAll s).trays = s.trays := rfl
@[simp] theorem disarmAll_lines (s : State) :
    (disarmAll s).lines =
      s.lines.map (fun l => { l with mon := none }) := rfl
@[simp] theorem disarmAll_arch (s : State) :
    (disarmAll s).arch =
      { s.arch with mon := none } := rfl
@[simp] theorem disarmAll_manifest (s : State) : (disarmAll s).manifest = s.manifest := rfl
@[simp] theorem disarmAll_router (s : State) : (disarmAll s).router = s.router := rfl
@[simp] theorem disarmAll_sched (s : State) : (disarmAll s).sched = s.sched := rfl
@[simp] theorem disarmAll_carts (s : State) :
    (disarmAll s).carts =
      { s.carts with chutes := s.carts.chutes.map (fun c => { c with mon := none }) } := rfl
@[simp] theorem disarmAll_strays (s : State) : (disarmAll s).strays = s.strays := rfl
@[simp] theorem disarmAll_session (s : State) : (disarmAll s).session = s.session := rfl
@[simp] theorem disarmAll_link (s : State) : (disarmAll s).link = s.link := rfl
@[simp] theorem disarmAll_mgmt (s : State) : (disarmAll s).mgmt = s.mgmt := rfl
@[simp] theorem disarmAll_now (s : State) : (disarmAll s).now = s.now := rfl
@[simp] theorem disarmAll_free (s : State) : (disarmAll s).free = s.free := rfl
@[simp] theorem disarmAll_pending (s : State) : (disarmAll s).pending = s.pending := rfl

/-! ## pushReply -/

@[simp] theorem pushReply_tracker (h : ReqHdr) (r : Request) (st : Status) (d : List Datum) (s : State) : (pushReply h r st d s).tracker = s.tracker := rfl
@[simp] theorem pushReply_pins (h : ReqHdr) (r : Request) (st : Status) (d : List Datum) (s : State) : (pushReply h r st d s).pins = s.pins := rfl
@[simp] theorem pushReply_trays (h : ReqHdr) (r : Request) (st : Status) (d : List Datum) (s : State) : (pushReply h r st d s).trays = s.trays := rfl
@[simp] theorem pushReply_lines (h : ReqHdr) (r : Request) (st : Status) (d : List Datum) (s : State) : (pushReply h r st d s).lines = s.lines := rfl
@[simp] theorem pushReply_arch (h : ReqHdr) (r : Request) (st : Status) (d : List Datum) (s : State) : (pushReply h r st d s).arch = s.arch := rfl
@[simp] theorem pushReply_manifest (h : ReqHdr) (r : Request) (st : Status) (d : List Datum) (s : State) : (pushReply h r st d s).manifest = s.manifest := rfl
@[simp] theorem pushReply_router (h : ReqHdr) (r : Request) (st : Status) (d : List Datum) (s : State) : (pushReply h r st d s).router = s.router := rfl
@[simp] theorem pushReply_sched (h : ReqHdr) (r : Request) (st : Status) (d : List Datum) (s : State) : (pushReply h r st d s).sched = s.sched := rfl
@[simp] theorem pushReply_carts (h : ReqHdr) (r : Request) (st : Status) (d : List Datum) (s : State) : (pushReply h r st d s).carts = s.carts := rfl
@[simp] theorem pushReply_strays (h : ReqHdr) (r : Request) (st : Status) (d : List Datum) (s : State) : (pushReply h r st d s).strays = s.strays := rfl
@[simp] theorem pushReply_session (h : ReqHdr) (r : Request) (st : Status) (d : List Datum) (s : State) : (pushReply h r st d s).session = s.session := rfl
@[simp] theorem pushReply_link (h : ReqHdr) (r : Request) (st : Status) (d : List Datum) (s : State) : (pushReply h r st d s).link = s.link := rfl
@[simp] theorem pushReply_mgmt (h : ReqHdr) (r : Request) (st : Status) (d : List Datum) (s : State) :
    (pushReply h r st d s).mgmt =
      { s.mgmt with
        replies := s.mgmt.replies ++ [{ hdr := h, kind := requestKind r, status := st, results := d }] } := rfl
@[simp] theorem pushReply_now (h : ReqHdr) (r : Request) (st : Status) (d : List Datum) (s : State) : (pushReply h r st d s).now = s.now := rfl
@[simp] theorem pushReply_free (h : ReqHdr) (r : Request) (st : Status) (d : List Datum) (s : State) : (pushReply h r st d s).free = s.free := rfl
@[simp] theorem pushReply_pending (h : ReqHdr) (r : Request) (st : Status) (d : List Datum) (s : State) : (pushReply h r st d s).pending = s.pending := rfl

/-! ## dropRequest -/

@[simp] theorem dropRequest_tracker (s : State) : (dropRequest s).tracker = s.tracker := rfl
@[simp] theorem dropRequest_pins (s : State) : (dropRequest s).pins = s.pins := rfl
@[simp] theorem dropRequest_trays (s : State) : (dropRequest s).trays = s.trays := rfl
@[simp] theorem dropRequest_lines (s : State) : (dropRequest s).lines = s.lines := rfl
@[simp] theorem dropRequest_arch (s : State) : (dropRequest s).arch = s.arch := rfl
@[simp] theorem dropRequest_manifest (s : State) : (dropRequest s).manifest = s.manifest := rfl
@[simp] theorem dropRequest_router (s : State) : (dropRequest s).router = s.router := rfl
@[simp] theorem dropRequest_sched (s : State) : (dropRequest s).sched = s.sched := rfl
@[simp] theorem dropRequest_carts (s : State) : (dropRequest s).carts = s.carts := rfl
@[simp] theorem dropRequest_strays (s : State) : (dropRequest s).strays = s.strays := rfl
@[simp] theorem dropRequest_session (s : State) : (dropRequest s).session = s.session := rfl
@[simp] theorem dropRequest_link (s : State) : (dropRequest s).link = s.link := rfl
@[simp] theorem dropRequest_mgmt (s : State) :
    (dropRequest s).mgmt =
      { s.mgmt with requests := s.mgmt.requests.tail } := rfl
@[simp] theorem dropRequest_now (s : State) : (dropRequest s).now = s.now := rfl
@[simp] theorem dropRequest_free (s : State) : (dropRequest s).free = s.free := rfl
@[simp] theorem dropRequest_pending (s : State) : (dropRequest s).pending = s.pending := rfl

/-! ## queueRequest -/

@[simp] theorem queueRequest_tracker (h : ReqHdr) (r : Request) (s : State) : (queueRequest h r s).tracker = s.tracker := rfl
@[simp] theorem queueRequest_pins (h : ReqHdr) (r : Request) (s : State) : (queueRequest h r s).pins = s.pins := rfl
@[simp] theorem queueRequest_trays (h : ReqHdr) (r : Request) (s : State) : (queueRequest h r s).trays = s.trays := rfl
@[simp] theorem queueRequest_lines (h : ReqHdr) (r : Request) (s : State) : (queueRequest h r s).lines = s.lines := rfl
@[simp] theorem queueRequest_arch (h : ReqHdr) (r : Request) (s : State) : (queueRequest h r s).arch = s.arch := rfl
@[simp] theorem queueRequest_manifest (h : ReqHdr) (r : Request) (s : State) : (queueRequest h r s).manifest = s.manifest := rfl
@[simp] theorem queueRequest_router (h : ReqHdr) (r : Request) (s : State) : (queueRequest h r s).router = s.router := rfl
@[simp] theorem queueRequest_sched (h : ReqHdr) (r : Request) (s : State) : (queueRequest h r s).sched = s.sched := rfl
@[simp] theorem queueRequest_carts (h : ReqHdr) (r : Request) (s : State) : (queueRequest h r s).carts = s.carts := rfl
@[simp] theorem queueRequest_strays (h : ReqHdr) (r : Request) (s : State) : (queueRequest h r s).strays = s.strays := rfl
@[simp] theorem queueRequest_session (h : ReqHdr) (r : Request) (s : State) : (queueRequest h r s).session = s.session := rfl
@[simp] theorem queueRequest_link (h : ReqHdr) (r : Request) (s : State) : (queueRequest h r s).link = s.link := rfl
@[simp] theorem queueRequest_mgmt (h : ReqHdr) (r : Request) (s : State) :
    (queueRequest h r s).mgmt =
      { s.mgmt with requests := s.mgmt.requests ++ [{ hdr := h, request := r }] } := rfl
@[simp] theorem queueRequest_now (h : ReqHdr) (r : Request) (s : State) : (queueRequest h r s).now = s.now := rfl
@[simp] theorem queueRequest_free (h : ReqHdr) (r : Request) (s : State) : (queueRequest h r s).free = s.free := rfl
@[simp] theorem queueRequest_pending (h : ReqHdr) (r : Request) (s : State) : (queueRequest h r s).pending = s.pending := rfl

/-! ## dropFirst -/

@[simp] theorem dropFirst_tracker (s : State) : (dropFirst s).tracker = s.tracker := rfl
@[simp] theorem dropFirst_pins (s : State) : (dropFirst s).pins = s.pins := rfl
@[simp] theorem dropFirst_trays (s : State) : (dropFirst s).trays = s.trays := rfl
@[simp] theorem dropFirst_lines (s : State) : (dropFirst s).lines = s.lines := rfl
@[simp] theorem dropFirst_arch (s : State) : (dropFirst s).arch = s.arch := rfl
@[simp] theorem dropFirst_manifest (s : State) : (dropFirst s).manifest = s.manifest := rfl
@[simp] theorem dropFirst_router (s : State) : (dropFirst s).router = s.router := rfl
@[simp] theorem dropFirst_sched (s : State) : (dropFirst s).sched = s.sched := rfl
@[simp] theorem dropFirst_carts (s : State) : (dropFirst s).carts = s.carts := rfl
@[simp] theorem dropFirst_strays (s : State) : (dropFirst s).strays = s.strays := rfl
@[simp] theorem dropFirst_session (s : State) : (dropFirst s).session = s.session := rfl
@[simp] theorem dropFirst_link (s : State) :
    (dropFirst s).link =
      { s.link with timing := s.link.timing.eraseP (fun f => f.body.isDrop) } := rfl
@[simp] theorem dropFirst_mgmt (s : State) : (dropFirst s).mgmt = s.mgmt := rfl
@[simp] theorem dropFirst_now (s : State) : (dropFirst s).now = s.now := rfl
@[simp] theorem dropFirst_free (s : State) : (dropFirst s).free = s.free := rfl
@[simp] theorem dropFirst_pending (s : State) : (dropFirst s).pending = s.pending := rfl

/-! ## resetTrays -/

@[simp] theorem resetTrays_tracker (s : State) : (resetTrays s).tracker = s.tracker := rfl
@[simp] theorem resetTrays_pins (s : State) : (resetTrays s).pins = s.pins := rfl
@[simp] theorem resetTrays_trays (s : State) :
    (resetTrays s).trays =
      s.trays.map Tray.lineReset := rfl
@[simp] theorem resetTrays_lines (s : State) : (resetTrays s).lines = s.lines := rfl
@[simp] theorem resetTrays_arch (s : State) : (resetTrays s).arch = s.arch := rfl
@[simp] theorem resetTrays_manifest (s : State) : (resetTrays s).manifest = s.manifest := rfl
@[simp] theorem resetTrays_router (s : State) : (resetTrays s).router = s.router := rfl
@[simp] theorem resetTrays_sched (s : State) : (resetTrays s).sched = s.sched := rfl
@[simp] theorem resetTrays_carts (s : State) : (resetTrays s).carts = s.carts := rfl
@[simp] theorem resetTrays_strays (s : State) : (resetTrays s).strays = s.strays := rfl
@[simp] theorem resetTrays_session (s : State) : (resetTrays s).session = s.session := rfl
@[simp] theorem resetTrays_link (s : State) : (resetTrays s).link = s.link := rfl
@[simp] theorem resetTrays_mgmt (s : State) : (resetTrays s).mgmt = s.mgmt := rfl
@[simp] theorem resetTrays_now (s : State) : (resetTrays s).now = s.now := rfl
@[simp] theorem resetTrays_free (s : State) : (resetTrays s).free = s.free := rfl
@[simp] theorem resetTrays_pending (s : State) : (resetTrays s).pending = s.pending := rfl

/-! ## resetChutes -/

@[simp] theorem resetChutes_tracker (s : State) : (resetChutes s).tracker = s.tracker := rfl
@[simp] theorem resetChutes_pins (s : State) : (resetChutes s).pins = s.pins := rfl
@[simp] theorem resetChutes_trays (s : State) : (resetChutes s).trays = s.trays := rfl
@[simp] theorem resetChutes_lines (s : State) : (resetChutes s).lines = s.lines := rfl
@[simp] theorem resetChutes_arch (s : State) : (resetChutes s).arch = s.arch := rfl
@[simp] theorem resetChutes_manifest (s : State) : (resetChutes s).manifest = s.manifest := rfl
@[simp] theorem resetChutes_router (s : State) : (resetChutes s).router = s.router := rfl
@[simp] theorem resetChutes_sched (s : State) : (resetChutes s).sched = s.sched := rfl
@[simp] theorem resetChutes_carts (s : State) :
    (resetChutes s).carts =
      { s.carts with chutes := s.carts.chutes.map Chute.lineReset } := rfl
@[simp] theorem resetChutes_strays (s : State) : (resetChutes s).strays = s.strays := rfl
@[simp] theorem resetChutes_session (s : State) : (resetChutes s).session = s.session := rfl
@[simp] theorem resetChutes_link (s : State) : (resetChutes s).link = s.link := rfl
@[simp] theorem resetChutes_mgmt (s : State) : (resetChutes s).mgmt = s.mgmt := rfl
@[simp] theorem resetChutes_now (s : State) : (resetChutes s).now = s.now := rfl
@[simp] theorem resetChutes_free (s : State) : (resetChutes s).free = s.free := rfl
@[simp] theorem resetChutes_pending (s : State) : (resetChutes s).pending = s.pending := rfl

/-! ## settle -/

@[simp] theorem settle_tracker (s : State) : (settle s).tracker = s.tracker := rfl
@[simp] theorem settle_pins (s : State) : (settle s).pins = s.pins := rfl
@[simp] theorem settle_trays (s : State) : (settle s).trays = s.trays := rfl
@[simp] theorem settle_lines (s : State) : (settle s).lines = s.lines := rfl
@[simp] theorem settle_arch (s : State) : (settle s).arch = s.arch := rfl
@[simp] theorem settle_manifest (s : State) : (settle s).manifest = s.manifest := rfl
@[simp] theorem settle_router (s : State) : (settle s).router = s.router := rfl
@[simp] theorem settle_sched (s : State) : (settle s).sched = s.sched := rfl
@[simp] theorem settle_carts (s : State) : (settle s).carts = s.carts := rfl
@[simp] theorem settle_strays (s : State) : (settle s).strays = s.strays := rfl
@[simp] theorem settle_session (s : State) : (settle s).session = s.session := rfl
@[simp] theorem settle_mgmt (s : State) : (settle s).mgmt = s.mgmt := rfl
@[simp] theorem settle_now (s : State) : (settle s).now = s.now := rfl
@[simp] theorem settle_free (s : State) : (settle s).free = s.free := rfl
@[simp] theorem settle_pending (s : State) : (settle s).pending = s.pending := rfl

end Sys2Proof.Machine
end

