-- ==== Sys2Proof/Laws/Ops.lean ====
section
/-! SUPPORT. What each shared operation does, said once by cases. -/

namespace Sys2Proof.Machine

open Sys2Proof

/-! ## Outcomes -/

@[simp] theorem done_eq (s : State) : done s = .next (settle s) := rfl

theorem serve_eq (hdr : ReqHdr) (r : Request) (owner : State → Served) (s : State) :
    serve hdr r owner s = .next (settle (if s.mayServe hdr r then reply hdr r (owner (dropRequest s)) else s)) := rfl

/-- A request whose turn has come. -/
theorem serve_of {hdr : ReqHdr} {r : Request} {owner : State → Served} {s : State} (h : s.mayServe hdr r = true) :
    serve hdr r owner s =
      .next
        (settle
          (pushReply hdr r (owner (dropRequest s)).status (owner (dropRequest s)).results (owner (dropRequest s)).state)) := by
  rw [serve_eq, if_pos h]
  rfl

/-- A request that waits. -/
theorem serve_waits {hdr : ReqHdr} {r : Request} {owner : State → Served} {s : State} (h : s.mayServe hdr r = false) :
    serve hdr r owner s = .next (settle s) := by
  rw [serve_eq, if_neg (by simp [h])]

@[simp] theorem refuse_status (x : Status) (s : State) : (refuse x s).status = x := rfl
@[simp] theorem refuse_results (x : Status) (s : State) : (refuse x s).results = [] := rfl
@[simp] theorem refuse_state (x : Status) (s : State) : (refuse x s).state = s := rfl
@[simp] theorem doneWith_status (d : List Datum) (s : State) : (doneWith d s).status = .done := rfl
@[simp] theorem doneWith_results (d : List Datum) (s : State) : (doneWith d s).results = d := rfl
@[simp] theorem doneWith_state (d : List Datum) (s : State) : (doneWith d s).state = s := rfl

/-- A step with a command in front. -/
theorem step_cons {c : Instr} {rest : List Instr} {s : State} (h : s.pending = c :: rest) :
    step s = exec c { s with pending := rest } := by
  unfold step
  rw [h]

/-! ## The drain watch (R169) -/

theorem drainWatch_off {s : State} (h : s.drainDone = false) : drainWatch s = s := by
  unfold drainWatch
  simp [h]

theorem drainWatch_on {s : State} (h : s.drainDone = true) :
    drainWatch s =
      { s with
        session := { s.session with mode := .drained, watch := false }
        router := { s.router with staging := [] }
        mgmt := s.mgmt.push { Notice.of .drained with second := s.session.clock, detail1 := s.session.voyage } } := by
  unfold drainWatch
  simp [h]

theorem drainDone_unwatched {s : State} (h : s.session.watch = false) : s.drainDone = false := by
  unfold State.drainDone
  simp [h]

/-! ## Tray records (R22, R23) -/

/-- A change to a state other than EMPTY and DISABLED is a plain write. -/
theorem settleTray_aboard {k : Nat} {t : Tray} (s : State) (h : t.state ≠ .empty) (h' : t.state ≠ .disabled) :
    settleTray k t s = putTray k t s := by
  unfold settleTray
  rw [if_neg (by simp [h, h'])]

/-- A change to EMPTY or DISABLED is a write and an evaluation of the drain watch. -/
theorem settleTray_away {k : Nat} {t : Tray} (s : State) (h : t.state = .empty ∨ t.state = .disabled) :
    settleTray k t s = drainWatch (putTray k t s) := by
  unfold settleTray
  rw [if_pos h]

/-- A change asked for in the expected state is made. -/
theorem changeTray_made {k : Nat} {e : TrayState} {f : Tray → Tray} {s : State} {t : Tray} (h : s.trays[k]? = some t)
    (he : t.state = e) : changeTray k e f s = settleTray k (f t) s := by
  unfold changeTray
  simp [h, he]

/-- A change asked for in another state is dropped. -/
theorem changeTray_dropped {k : Nat} {e : TrayState} {f : Tray → Tray} {s : State}
    (h : ∀ t, s.trays[k]? = some t → t.state ≠ e) : changeTray k e f s = s := by
  unfold changeTray
  split
  · rename_i t ht
    rw [if_neg (h t ht)]
  · rfl

/-! ## Tables -/

/-- A chute whose table entry is written reads as written. -/
theorem chute?_modifyChute_same {j : Nat} {f : Chute → Chute} {s : State} {c : Chute} (h : s.chute? j = some c) :
    (modifyChute j f s).chute? j = some (f c) := by
  unfold State.chute? at *
  simp [modifyChute, h]

/-- Every other chute reads as before. -/
theorem chute?_modifyChute_other {i j : Nat} (f : Chute → Chute) (s : State) (h : i ≠ j) :
    (modifyChute j f s).chute? i = s.chute? i := by
  unfold State.chute?
  simp [modifyChute, Ne.symm h]

/-! ## Monitors (R14) -/

theorem decideMonitor_stay {a l w : Nat} : decideMonitor a l w = .stay ↔ l < a := by
  unfold decideMonitor
  split
  · simp_all
  · split <;> simp_all

theorem decideMonitor_fire {a l w : Nat} : decideMonitor a l w = .fire ↔ a ≤ l ∧ l - a < w := by
  unfold decideMonitor
  split
  · rename_i h
    simp only [reduceCtorEq, false_iff, not_and]
    omega
  · split
    · rename_i h h'
      simp [h']
      omega
    · rename_i h h'
      simp only [reduceCtorEq, false_iff, not_and]
      omega

end Sys2Proof.Machine
end

