-- ==== Sys2Proof/Laws/Table.lean ====
section
/-! SUPPORT. The laws of the sparse tables: read after write, and the canonical form that every operation keeps. -/

namespace Sys2Proof.Machine

open Sys2Proof

theorem Table.get_nil {α : Type} (k : Nat) : Table.get ([] : List (Nat × α)) k = none := rfl

/-- A key below every listed key is not listed. -/
theorem Table.get_below {α : Type} {t : List (Nat × α)} {k : Nat} (h : ∀ x ∈ t, k < x.1) : Table.get t k = none := by
  induction t with
  | nil => rfl
  | cons x rest ih =>
    have hx := h x (by simp)
    simp only [Table.get]
    rw [if_neg (by omega)]
    exact ih (fun y hy => h y (by simp [hy]))

/-- The key written reads as the value written. -/
@[simp] theorem Table.get_put_same {α : Type} (t : List (Nat × α)) (k : Nat) (a : α) :
    Table.get (Table.put t k a) k = some a := by
  induction t with
  | nil => simp [Table.put, Table.get]
  | cons x rest ih =>
    simp only [Table.put]
    split
    · simp [Table.get]
    · split
      · simp [Table.get]
      · simp only [Table.get]
        rw [if_neg (by omega), ih]

/-- Every other key reads as before. -/
theorem Table.get_put_other {α : Type} (t : List (Nat × α)) {k k' : Nat} (a : α) (h : k' ≠ k) :
    Table.get (Table.put t k a) k' = Table.get t k' := by
  induction t with
  | nil => simp [Table.put, Table.get, Ne.symm h]
  | cons x rest ih =>
    simp only [Table.put]
    split
    · simp [Table.get, Ne.symm h]
    · split
      · rename_i _ h2
        simp [Table.get, Ne.symm h, ← h2]
      · simp only [Table.get, ih]

/-- A key freed from a table in canonical form is not listed. -/
theorem Table.get_del_same {α : Type} {t : List (Nat × α)} (k : Nat) (h : Table.wf t) :
    Table.get (Table.del t k) k = none := by
  induction t with
  | nil => rfl
  | cons x rest ih =>
    have hp := List.pairwise_cons.1 h
    simp only [Table.del]
    split
    · rename_i hk
      exact Table.get_below (fun y hy => by have := hp.1 y hy; omega)
    · rename_i hk
      simp only [Table.get]
      rw [if_neg hk, ih hp.2]

/-- Every other key reads as before. -/
theorem Table.get_del_other {α : Type} (t : List (Nat × α)) {k k' : Nat} (h : k' ≠ k) :
    Table.get (Table.del t k) k' = Table.get t k' := by
  induction t with
  | nil => rfl
  | cons x rest ih =>
    simp only [Table.del]
    split
    · rename_i hk
      simp only [Table.get]
      rw [if_neg (by omega)]
    · simp only [Table.get, ih]

/-- What a table holds after a write. -/
theorem Table.mem_put {α : Type} {t : List (Nat × α)} {k : Nat} {a : α} {x : Nat × α} (h : x ∈ Table.put t k a) :
    x = (k, a) ∨ x ∈ t := by
  induction t with
  | nil => simpa [Table.put] using h
  | cons y rest ih =>
    simp only [Table.put] at h
    split at h
    · simpa using h
    · split at h
      · rcases List.mem_cons.1 h with h | h
        · exact .inl h
        · exact .inr (by simp [h])
      · rcases List.mem_cons.1 h with h | h
        · exact .inr (by simp [h])
        · rcases ih h with h | h
          · exact .inl h
          · exact .inr (by simp [h])

/-- What a table holds after a key is freed stood in it before. -/
theorem Table.mem_del {α : Type} {t : List (Nat × α)} {k : Nat} {x : Nat × α} (h : x ∈ Table.del t k) : x ∈ t := by
  induction t with
  | nil => simp [Table.del] at h
  | cons y rest ih =>
    simp only [Table.del] at h
    split at h
    · simp [h]
    · rcases List.mem_cons.1 h with h | h
      · simp [h]
      · simp [ih h]

/-- A write keeps the canonical form. -/
theorem Table.wf_put {α : Type} {t : List (Nat × α)} (k : Nat) (a : α) (h : Table.wf t) : Table.wf (Table.put t k a) := by
  induction t with
  | nil => simp [Table.put, Table.wf]
  | cons x rest ih =>
    have hp := List.pairwise_cons.1 h
    simp only [Table.put]
    split
    · rename_i hk
      refine List.pairwise_cons.2 ⟨fun y hy => ?_, h⟩
      rcases List.mem_cons.1 hy with hy | hy
      · simpa [hy] using hk
      · have := hp.1 y hy
        show k < y.1
        omega
    · split
      · rename_i _ hk
        exact List.pairwise_cons.2 ⟨fun y hy => by have := hp.1 y hy; show k < y.1; omega, hp.2⟩
      · rename_i h1 h2
        refine List.pairwise_cons.2 ⟨fun y hy => ?_, ih hp.2⟩
        rcases Table.mem_put hy with hy | hy
        · subst hy
          show x.1 < k
          omega
        · exact hp.1 y hy

/-- Freeing a key keeps the canonical form. -/
theorem Table.wf_del {α : Type} {t : List (Nat × α)} (k : Nat) (h : Table.wf t) : Table.wf (Table.del t k) := by
  induction t with
  | nil => exact h
  | cons x rest ih =>
    have hp := List.pairwise_cons.1 h
    simp only [Table.del]
    split
    · exact hp.2
    · exact List.pairwise_cons.2 ⟨fun y hy => hp.1 y (Table.mem_del hy), ih hp.2⟩

/-! ## Filters (R63) -/

/-- Setting a counter to a value of at most 15 keeps a filter's form. -/
theorem filterForm_setCounter {f : List (Nat × Nat)} (cell : Nat) {n : Nat} (hn : n ≤ Config.counterMax)
    (h : FilterForm f) : FilterForm (setCounter f cell n) := by
  unfold setCounter
  split
  · exact ⟨Table.wf_del _ h.1, fun x hx => h.2 x (Table.mem_del hx)⟩
  · refine ⟨Table.wf_put _ _ h.1, fun x hx => ?_⟩
    rcases Table.mem_put hx with hx | hx
    · subst hx
      exact ⟨by show 1 ≤ n; omega, hn⟩
    · exact h.2 x hx

/-- Counting up keeps a filter's form. -/
theorem filterForm_countUp {f : List (Nat × Nat)} (cell : Nat) (h : FilterForm f) : FilterForm (countUp f cell) :=
  filterForm_setCounter cell (Nat.min_le_left _ _) h

/-- Counting down keeps a filter's form. -/
theorem filterForm_countDown {f : List (Nat × Nat)} (cell : Nat) (h : FilterForm f) : FilterForm (countDown f cell) := by
  unfold countDown
  split
  · exact filterForm_setCounter cell (by omega) h
  · exact h

/-- The counter set reads as the value set, in a filter in canonical form. -/
theorem counterAt_setCounter_same {f : List (Nat × Nat)} (cell n : Nat) (h : Table.wf f) :
    counterAt (setCounter f cell n) cell = n := by
  unfold setCounter counterAt
  split
  · rename_i hn
    simp [Table.get_del_same cell h, hn]
  · simp

/-- Every other counter reads as before. -/
theorem counterAt_setCounter_other (f : List (Nat × Nat)) {cell cell' : Nat} (n : Nat) (h : cell' ≠ cell) :
    counterAt (setCounter f cell n) cell' = counterAt f cell' := by
  unfold setCounter counterAt
  split
  · rw [Table.get_del_other f h]
  · rw [Table.get_put_other f n h]

/-- The tables are in canonical form right after reset. -/
theorem reset_tables_wf : Table.wf State.reset.manifest.entries ∧ FilterForm State.reset.manifest.filter :=
  ⟨.nil, .nil, fun x hx => by cases hx⟩

end Sys2Proof.Machine
end

