-- ==== Sys2Proof/WellFormed.lean ====
section
/-! DEFINITION. Well-formed commands: every operand a value that its frame or event can carry (R174, R185, section 10.7). Values in range for the part are its own checks, not these. -/

namespace Sys2Proof

/-- A number of one byte, of two bytes, of four bytes. -/
def fits8 (n : Nat) : Bool := n < 256
def fits16 (n : Nat) : Bool := n < 65536
def fits32 (n : Nat) : Bool := n < 4294967296

/-- A source station (R174). -/
def stationOk (n : Nat) : Bool := 1 ≤ n && n ≤ 126

/-- A request's source and sequence. -/
def ReqHdr.wf (h : ReqHdr) : Bool := stationOk h.src && fits8 h.seq

def BrdyBody.wf (b : BrdyBody) : Bool := fits8 b.line && fits32 b.tag1 && fits32 b.tag2
def LdonBody.wf (b : LdonBody) : Bool := fits8 b.line && fits16 b.tray && fits8 b.outcome
def TscnBody.wf (b : TscnBody) : Bool := fits16 b.tray && fits8 b.occupancy && fits32 b.tag1 && fits32 b.tag2

/-- A field frame's payload: fields that fit, or fewer bytes than the layout holds. -/
def Body.wf {α : Type} (fields : α → Bool) (layout : Nat) : Body α → Bool
  | .full a => fields a
  | .short bytes => bytes.length < layout

/-- An operand that fits, or a payload too short. -/
def optWf {α : Type} (ok : α → Bool) : Option α → Bool
  | some a => ok a
  | none => true

/-- A first number is carried for ROUTES and CHUTES alone (R191). -/
def StatArg.wf (a : StatArg) : Bool := fits8 a.part && fits8 a.first && (a.first == 0 || a.part == 6 || a.part == 7)

def ModeOpenArg.wf : ModeOpenArg → Bool
  | .voyage n => fits16 n
  | .short => true
  | .badAction code => fits8 code && !(1 ≤ code && code ≤ 6)

def LineArg.wf (l : LineArg) : Bool :=
  fits32 l.loc && fits8 l.delay && fits8 l.gap && fits8 l.station && fits8 l.enable

def LoopArg.wf (a : LoopArg) : Bool :=
  fits16 a.trays && fits16 a.pitch && fits8 a.driftTol && fits32 a.archLoc && fits8 a.archDelay && fits8 a.archStation &&
    fits8 a.lines.length && a.lines.all LineArg.wf && fits8 a.lapLimit && fits8 a.dflt && fits8 a.straySet.length &&
    a.straySet.all fits8 && fits8 a.policy && fits8 a.stopOut && fits8 a.stopIn

def ChuteArg.wf (c : ChuteArg) : Bool :=
  fits32 c.loc && fits8 c.delay && fits8 c.window && fits8 c.side && fits8 c.capacity && fits8 c.watermark &&
    fits16 c.confirm && fits8 c.station && fits8 c.stopOnFault

/-- As many items as a count of 1 to the limit says; none for a count out of range. -/
def countedWf (limit count items : Nat) : Bool := items == (if 1 ≤ count ∧ count ≤ limit then count else 0)

def CcfgArg.wf (a : CcfgArg) : Bool :=
  fits8 a.first && fits8 a.count && fits8 a.final && countedWf 16 a.count a.chutes.length && a.chutes.all ChuteArg.wf

def Zone.wf (z : Zone) : Bool := fits16 z.ending && fits8 z.deck && fits8 z.sec

/-- ZLOAD carries 32 zones (R82). -/
def zonesWf (zones : List Zone) : Bool := zones.length == 32 && zones.all Zone.wf

def MatchArg.wf : MatchArg → Bool
  | .zone lo hi => fits8 lo && fits8 hi
  | .deck lo hi sec => fits8 lo && fits8 hi && optWf (fun x => decide (x < 255)) sec
  | .group v => fits8 v
  | .flag code => fits8 code
  | .tag lo hi => fits32 lo && fits32 hi
  | .reason code => fits8 code
  | .any => true
  | .other code => fits8 code && !(1 ≤ code && code ≤ 7)

def RuleArg.wf (r : RuleArg) : Bool :=
  fits8 r.enabled && r.mtch.wf && fits8 r.action && fits8 r.targets.length && r.targets.all fits8

def RloadArg.wf (a : RloadArg) : Bool :=
  fits8 a.first && fits8 a.count && fits8 a.final && countedWf 16 a.count a.rules.length && a.rules.all RuleArg.wf

def RsetArg.wf (a : RsetArg) : Bool := fits8 a.number && a.rule.wf

def PutArg.wf (p : PutArg) : Bool :=
  fits32 p.tag && fits16 p.cabin && fits8 p.group && fits8 p.priority && fits8 p.oversize

def MputArg.wf (a : MputArg) : Bool := fits8 a.count && countedWf 16 a.count a.entries.length && a.entries.all PutArg.wf

def MdelArg.wf (a : MdelArg) : Bool := fits8 a.count && countedWf 32 a.count a.tags.length && a.tags.all fits32

/-- An action of a family of n actions on a number that fits, or none of them. -/
def ActionArg.wf (fits : Nat → Bool) (n : Nat) : ActionArg → Bool
  | .of k => fits k
  | .short => true
  | .badAction code => fits8 code && !(1 ≤ code && code ≤ n)

def CrdArg.wf (a : CrdArg) : Bool := fits8 a.chute && fits8 a.first
def SrdArg.wf (a : SrdArg) : Bool := fits16 a.serial && fits8 a.count
def SresArg.wf (a : SresArg) : Bool := fits16 a.serial && fits32 a.tag && fits16 a.cabin

/-- A request whose operands a payload can carry. -/
def Request.wf : Request → Bool
  | .stat a => optWf StatArg.wf a
  | .modeOpen a => a.wf
  | .modeShadow => true
  | .modeSetup => true
  | .modeSort => true
  | .modeDrain => true
  | .modeClose => true
  | .lcfg a => optWf LoopArg.wf a
  | .ccfg a => optWf CcfgArg.wf a
  | .zload a => optWf zonesWf a
  | .rload a => optWf RloadArg.wf a
  | .rset a => optWf RsetArg.wf a
  | .mput a => optWf MputArg.wf a
  | .mdel a => optWf MdelArg.wf a
  | .mget a => optWf fits32 a
  | .hold a => optWf fits32 a
  | .rlse a => optWf fits32 a
  | .fbld => true
  | .ccmdOpen a => a.wf fits8 4
  | .ccmdClose j => fits8 j
  | .ccmdForceClose j => fits8 j
  | .ccmdClearFault j => fits8 j
  | .tcmdDisable a => a.wf fits16 2
  | .tcmdEnable k => fits16 k
  | .crd a => optWf CrdArg.wf a
  | .srd a => optWf SrdArg.wf a
  | .sres a => optWf SresArg.wf a
  | .sdel a => optWf fits16 a
  | .sstp => true
  | .clrs => true
  | .lrst => true

/-- A well-formed command. -/
def Instr.wf : Instr → Bool
  | .encoderStep _ => true
  | .homePulse => true
  | .stopLevelChange _ => true
  | .powerOnReset straps => straps < 128
  | .speedSample => true
  | .sessionClockTick => true
  | .confirmationExpiry chute => chute < 64
  | .bucketScan => true
  | .frameReceived _ _ _ => true
  | .trainingFrame _ => true
  | .idleFrame _ => true
  | .linkTimeout _ => true
  | .linkHoldoffEnd _ => true
  | .trainingSend _ => true
  | .idleSend _ => true
  | .downFrameTransmitted => true
  | .upFrameTransmitted => true
  | .brdy src b => stationOk src && b.wf BrdyBody.wf 9
  | .ldon src b => stationOk src && b.wf LdonBody.wf 4
  | .tscn src b => stationOk src && b.wf TscnBody.wf 11
  | .ceye src b => stationOk src && b.wf fits8 1
  | .cout src b => stationOk src && b.wf fits8 1
  | .cin src b => stationOk src && b.wf fits8 1
  | .cflt src b => stationOk src && b.wf fits8 1
  | .cclr src b => stationOk src && b.wf fits8 1
  | .requestIntake h r => h.wf && r.wf
  | .stat h a => h.wf && (Request.stat a).wf
  | .modeOpen h a => h.wf && a.wf
  | .modeShadow h => h.wf
  | .modeSetup h => h.wf
  | .modeSort h => h.wf
  | .modeDrain h => h.wf
  | .modeClose h => h.wf
  | .lcfg h a => h.wf && (Request.lcfg a).wf
  | .ccfg h a => h.wf && (Request.ccfg a).wf
  | .zload h a => h.wf && (Request.zload a).wf
  | .rload h a => h.wf && (Request.rload a).wf
  | .rset h a => h.wf && (Request.rset a).wf
  | .mput h a => h.wf && (Request.mput a).wf
  | .mdel h a => h.wf && (Request.mdel a).wf
  | .mget h a => h.wf && (Request.mget a).wf
  | .hold h a => h.wf && (Request.hold a).wf
  | .rlse h a => h.wf && (Request.rlse a).wf
  | .fbld h => h.wf
  | .ccmdOpen h a => h.wf && (Request.ccmdOpen a).wf
  | .ccmdClose h j => h.wf && fits8 j
  | .ccmdForceClose h j => h.wf && fits8 j
  | .ccmdClearFault h j => h.wf && fits8 j
  | .tcmdDisable h a => h.wf && (Request.tcmdDisable a).wf
  | .tcmdEnable h k => h.wf && fits16 k
  | .crd h a => h.wf && (Request.crd a).wf
  | .srd h a => h.wf && (Request.srd a).wf
  | .sres h a => h.wf && (Request.sres a).wf
  | .sdel h a => h.wf && (Request.sdel a).wf
  | .sstp h => h.wf
  | .clrs h => h.wf
  | .lrst h => h.wf
  | .bothPhasesChangeTogether => true

end Sys2Proof
end

