-- ==== Sys2Proof/Tests/Slice0.lean ====
section
/-! SUPPORT. The model's own tests: ill-formed commands refused, the spec's worked cases one step at a time, and for each statement with hypotheses a state and operands that meet them. -/

set_option Elab.async false

namespace Sys2Proof.Tests

open Sys2Proof Sys2Proof.Machine

/-! ## Small states -/

/-- The state after one command. -/
def after (c : Instr) (s : State) : State :=
  match exec c s with
  | .next t => t
  | .fault _ => s
  | .refused _ => s

/-- A request's header: station 1, sequence 9. -/
def hdr : ReqHdr := { src := 1, seq := 9 }

/-- A loop of 16 trays, 200 steps apart, with drift tolerance 40 and the arch at 100. -/
def loop16 : Geometry :=
  { trays := 16, pitch := 200, driftTol := 40, archLoc := 100, archDelay := 50, archStation := 3 }

/-- An enabled induction line at 2,600. -/
def cfg0 : LineCfg := { loc := 2600, delay := 20, gap := 3, station := 4, enable := true }
def line0 : Line := { Line.powerOn with cfg := some cfg0 }

/-- A chute of this state, with this capacity, an eye and no orders. -/
def chuteAt (loc station capacity : Nat) (state : ChuteState) : Chute :=
  { installChute
      { loc := loc, delay := 117, window := 160, side := 1, capacity := capacity, watermark := 0, confirm := 400,
        station := station, stopOnFault := 1 } 0 with
    state := state
    serial := some 41 }

/-- A port that is UP with a free transmitter. -/
def portUp : Port := { Port.powerOn 126 with state := .up, tx := none }

/-- A small configured part in this mode and tracking state, both ports UP. -/
def ready (m : Mode) (k : TrackState) : State :=
  { State.reset with
    tracker := { Tracker.powerOn with state := k, geo := some loop16 }
    trays := List.replicate 16 (Tray.blank .empty)
    lines := line0 :: List.replicate 3 Line.powerOn
    arch := { Arch.powerOn with lapLimit := some 3 }
    carts := { CartUnit.powerOn with chutes := [chuteAt 600 20 2 .opened], loaded := true, nextSerial := 42 }
    session := { Session.powerOn with mode := m, voyage := if m = .idle then 0 else 7, watch := m == .draining }
    link := { Link.powerOn 0 with up := portUp, down := portUp } }

def State.withTrack (s : State) (f : Tracker → Tracker) : State := { s with tracker := f s.tracker }
def State.withTray (s : State) (k : Nat) (t : Tray) : State := { s with trays := s.trays.set k t }
def State.withChute (s : State) (c : Chute) : State := { s with carts := { s.carts with chutes := [c] } }
def State.withTiming (s : State) (l : List TimedBody) : State :=
  { s with link := { s.link with timing := l.map (fun b => { dst := 20, body := b, begun := false }) } }
def State.withDown (s : State) (f : Port → Port) : State := { s with link := { s.link with down := f s.link.down } }
def State.withUp (s : State) (f : Port → Port) : State := { s with link := { s.link with up := f s.link.up } }

/-- A tray with a bag in this state. -/
def bag (st : TrayState) (tag : Nat) : Tray := { Tray.blank st with tag := tag, cabin := 7214, lap := 1 }

/-- A reply that waits. -/
def oneReply : Reply := { hdr := hdr, kind := 0x40, status := .done, results := [] }

/-! ## Ill-formed commands are refused by WellFormed -/

theorem test_wf_accepts :
    [Instr.homePulse, .powerOnReset 127, .confirmationExpiry 63, .brdy 126 (.full ⟨255, 4294967295, 0⟩),
      .ldon 1 (.short [1#8, 2#8, 3#8]), .stat hdr (some ⟨7, 63⟩), .modeOpen hdr (.badAction 7), .lrst hdr].all Instr.wf =
      true := by decide

theorem test_wf_refuses_events :
    [Instr.powerOnReset 128, .confirmationExpiry 64].all (fun c => !c.wf) = true := by decide

theorem test_wf_refuses_sources :
    [Instr.brdy 0 (.full ⟨0, 0, 0⟩), .ldon 127 (.full ⟨0, 0, 1⟩), .tscn 0 (.full ⟨0, 1, 0, 0⟩), .ceye 127 (.full 0),
      .cout 0 (.full 0), .cin 0 (.full 0), .cflt 0 (.full 0), .cclr 0 (.full 0), .fbld ⟨127, 0⟩, .lrst ⟨1, 256⟩,
      .requestIntake ⟨0, 0⟩ .fbld].all (fun c => !c.wf) = true := by decide

theorem test_wf_refuses_field_values :
    [Instr.brdy 4 (.full ⟨256, 0, 0⟩), .brdy 4 (.full ⟨0, 4294967296, 0⟩), .brdy 4 (.full ⟨0, 0, 4294967296⟩),
      .ldon 4 (.full ⟨256, 0, 1⟩), .ldon 4 (.full ⟨0, 65536, 1⟩), .ldon 4 (.full ⟨0, 0, 256⟩),
      .tscn 3 (.full ⟨65536, 1, 0, 0⟩), .tscn 3 (.full ⟨0, 256, 0, 0⟩), .tscn 3 (.full ⟨0, 1, 4294967296, 0⟩),
      .tscn 3 (.full ⟨0, 1, 0, 4294967296⟩), .ceye 20 (.full 256), .cout 20 (.full 256), .cin 20 (.full 256),
      .cflt 20 (.full 256), .cclr 20 (.full 256)].all (fun c => !c.wf) = true := by decide

theorem test_wf_refuses_whole_payload_as_short :
    [Instr.brdy 4 (.short (List.replicate 9 0#8)), .ldon 4 (.short (List.replicate 4 0#8)),
      .tscn 3 (.short (List.replicate 11 0#8)), .ceye 20 (.short [0#8])].all (fun c => !c.wf) = true := by decide

theorem test_wf_refuses_request_values :
    [Instr.stat hdr (some ⟨256, 0⟩), .stat hdr (some ⟨6, 256⟩), .stat hdr (some ⟨1, 1⟩), .modeOpen hdr (.voyage 65536),
      .modeOpen hdr (.badAction 6), .modeOpen hdr (.badAction 256), .mget hdr (some 4294967296),
      .hold hdr (some 4294967296), .rlse hdr (some 4294967296), .ccmdOpen hdr (.of 256), .ccmdOpen hdr (.badAction 4),
      .ccmdClose hdr 256, .ccmdForceClose hdr 256, .ccmdClearFault hdr 256, .tcmdDisable hdr (.of 65536),
      .tcmdDisable hdr (.badAction 2), .tcmdEnable hdr 65536, .crd hdr (some ⟨256, 0⟩), .crd hdr (some ⟨0, 256⟩),
      .srd hdr (some ⟨65536, 1⟩), .srd hdr (some ⟨0, 256⟩), .sres hdr (some ⟨65536, 1, 0⟩),
      .sres hdr (some ⟨1, 4294967296, 0⟩), .sres hdr (some ⟨1, 1, 65536⟩), .sdel hdr (some 65536),
      .requestIntake hdr (.mget (some 4294967296))].all (fun c => !c.wf) = true := by decide

/-- A well-formed loop configuration, chute, rule and manifest entry, each of which the next tests spoil in one value. -/
def loopArg : LoopArg :=
  { trays := 300, pitch := 800, driftTol := 40, archLoc := 4000, archDelay := 40, archStation := 3,
    lines := [{ loc := 236000, delay := 255, gap := 9, station := 4, enable := 1 }], lapLimit := 0, dflt := 2,
    straySet := [12], policy := 1, stopOut := 1, stopIn := 1 }
def chuteArg : ChuteArg :=
  { loc := 600, delay := 255, window := 160, side := 1, capacity := 120, watermark := 255, confirm := 400, station := 20,
    stopOnFault := 1 }
def ruleArg : RuleArg := { enabled := 1, mtch := .any, action := 1, targets := [0] }
def putArg : PutArg := { tag := 400012345, cabin := 7214, group := 0, priority := 0, oversize := 0 }

theorem test_wf_accepts_tables :
    [Instr.lcfg hdr (some loopArg), .ccfg hdr (some ⟨0, 1, 1, [chuteArg]⟩), .rload hdr (some ⟨0, 1, 1, [ruleArg]⟩),
      .rset hdr (some ⟨63, ruleArg⟩), .mput hdr (some ⟨1, [putArg]⟩), .mdel hdr (some ⟨32, List.replicate 32 1⟩),
      .zload hdr (some (List.replicate 32 ⟨9999, 20, 3⟩)), .mput hdr (some ⟨17, []⟩)].all Instr.wf = true := by decide

theorem test_wf_refuses_loop_values :
    [{ loopArg with trays := 65536 }, { loopArg with pitch := 65536 }, { loopArg with driftTol := 256 },
      { loopArg with archLoc := 4294967296 }, { loopArg with archDelay := 256 }, { loopArg with archStation := 256 },
      { loopArg with lines := [⟨4294967296, 0, 0, 4, 1⟩] }, { loopArg with lines := [⟨0, 256, 0, 4, 1⟩] },
      { loopArg with lines := [⟨0, 0, 256, 4, 1⟩] }, { loopArg with lines := [⟨0, 0, 0, 256, 1⟩] },
      { loopArg with lines := [⟨0, 0, 0, 4, 256⟩] }, { loopArg with lapLimit := 256 }, { loopArg with dflt := 256 },
      { loopArg with straySet := [256] }, { loopArg with policy := 256 }, { loopArg with stopOut := 256 },
      { loopArg with stopIn := 256 }].all (fun a => !(Instr.lcfg hdr (some a)).wf) = true := by decide

theorem test_wf_refuses_chute_values :
    ([{ chuteArg with loc := 4294967296 }, { chuteArg with delay := 256 }, { chuteArg with window := 256 },
      { chuteArg with side := 256 }, { chuteArg with capacity := 256 }, { chuteArg with watermark := 256 },
      { chuteArg with confirm := 65536 }, { chuteArg with station := 256 }, { chuteArg with stopOnFault := 256 }].all
        (fun c => !(Instr.ccfg hdr (some ⟨0, 1, 1, [c]⟩)).wf) &&
      [(⟨256, 1, 1, [chuteArg]⟩ : CcfgArg), ⟨0, 256, 1, []⟩, ⟨0, 1, 256, [chuteArg]⟩, ⟨0, 2, 1, [chuteArg]⟩].all
        (fun a => !(Instr.ccfg hdr (some a)).wf)) = true := by decide

theorem test_wf_refuses_table_values :
    [Instr.zload hdr (some (List.replicate 31 ⟨0, 1, 0⟩)), .zload hdr (some (List.replicate 32 ⟨65536, 1, 0⟩)),
      .zload hdr (some (List.replicate 32 ⟨0, 256, 0⟩)), .zload hdr (some (List.replicate 32 ⟨0, 1, 256⟩)),
      .rload hdr (some ⟨256, 1, 1, [ruleArg]⟩), .rload hdr (some ⟨0, 256, 1, []⟩), .rload hdr (some ⟨0, 1, 256, [ruleArg]⟩),
      .rload hdr (some ⟨0, 2, 1, [ruleArg]⟩), .rset hdr (some ⟨256, ruleArg⟩), .mput hdr (some ⟨2, [putArg]⟩),
      .mput hdr (some ⟨256, []⟩), .mdel hdr (some ⟨1, [4294967296]⟩), .mdel hdr (some ⟨33, [1]⟩)].all (fun c => !c.wf) =
      true := by decide

theorem test_wf_refuses_rule_and_entry_values :
    ([{ ruleArg with enabled := 256 }, { ruleArg with action := 256 }, { ruleArg with targets := [256] },
      { ruleArg with mtch := .zone 256 0 }, { ruleArg with mtch := .zone 0 256 }, { ruleArg with mtch := .deck 256 1 none },
      { ruleArg with mtch := .deck 1 256 none }, { ruleArg with mtch := .deck 1 1 (some 255) },
      { ruleArg with mtch := .group 256 }, { ruleArg with mtch := .flag 256 }, { ruleArg with mtch := .tag 4294967296 1 },
      { ruleArg with mtch := .tag 1 4294967296 }, { ruleArg with mtch := .reason 256 }, { ruleArg with mtch := .other 7 },
      { ruleArg with mtch := .other 256 }].all (fun r => !(Instr.rset hdr (some ⟨0, r⟩)).wf) &&
      [{ putArg with tag := 4294967296 }, { putArg with cabin := 65536 }, { putArg with group := 256 },
        { putArg with priority := 256 }, { putArg with oversize := 256 }].all
        (fun p => !(Instr.mput hdr (some ⟨1, [p]⟩)).wf)) = true := by decide

/-! ## The spec's worked cases and plain steps -/

/-- Section 1.1, locating a tray centre: T = 300, P = 800. -/
def loop300 : Geometry :=
  { trays := 300, pitch := 800, driftTol := 40, archLoc := 4000, archDelay := 40, archStation := 3 }

theorem test_tray_centre : (loop300.trayAt 170000 57, loop300.trayAt 1000 290) = (124000, 8600) := by decide +kernel

/-- Section 1.3, drift checks: Lu = 32,000 and a tolerance of 40. -/
def loop64 : Geometry :=
  { trays := 64, pitch := 500, driftTol := 40, archLoc := 4000, archDelay := 40, archStation := 3 }

def on64 (d v : Nat) : State :=
  { ready .setup .tracking with
    tracker := { Tracker.powerOn with state := .tracking, geo := some loop64, disp := d, speed := v }
    trays := List.replicate 64 (Tray.blank .empty)
    lines := List.replicate 4 Line.powerOn
    carts := CartUnit.powerOn }

theorem test_home_corrects :
    ((after .homePulse (on64 31975 0)).tracker.disp, (after .homePulse (on64 31975 0)).tracker.homeCorrection) =
      (0, -25) := by decide +kernel

theorem test_home_drift_fault :
    ((after .homePulse (on64 16000 0)).tracker.disp, (after .homePulse (on64 16000 0)).tracker.state,
      (after .homePulse (on64 16000 0)).tracker.latch) = (16000, .lost, some (.drift 16000)) := by decide +kernel

/-- Section 1.4, one monitor through a slowdown: the scan monitor of tray 10 at v = 200, lead 800. -/
def scan64 (d : Nat) : State :=
  let s := on64 d 200
  { s with arch := { s.arch with mon := some { tray := 10, lead := 800 } }, pins := { s.pins with encA := true } }

theorem test_scan_stays_a_step_short :
    ((after (.encoderStep .b) (scan64 8448)).arch.outstanding,
      (after (.encoderStep .b) (scan64 8448)).arch.mon) = (none, some { tray := 10, lead := 800 }) := by decide +kernel

theorem test_scan_fires_on_time :
    ((after (.encoderStep .b) (scan64 8449)).arch.outstanding,
      (after (.encoderStep .b) (scan64 8449)).arch.mon.map Monitor.tray) = (some 10, some 11) := by decide +kernel

/-- R14: a monitor armed anew in the run that a step begins is evaluated without movement. Tray 0 comes within its lead of 2,999 and fires; tray 1, 3,199 steps away, stays armed. -/
def rearmed : State :=
  let s := State.withTrack (ready .sorting .tracking) (fun t =>
    { t with geo := some { loop16 with archDelay := 10 }, disp := 400, speed := 2999 })
  { s with arch := { s.arch with mon := some { tray := 0, lead := 2999 } } }

theorem test_rearmed_monitor_stays :
    ((after (.encoderStep .a) rearmed).arch.outstanding, (after (.encoderStep .a) rearmed).arch.mon,
      (after (.encoderStep .a) rearmed).arch.missed) = (some 0, some { tray := 1, lead := 2999 }, 0) := by decide +kernel

/-- Section 1.5: CFLT with both STOP enables set queues STOP_ASSERTED, then STOP_SEEN ASSERTED. -/
def stopReady : State := State.withTrack (ready .sorting .tracking) (fun t => { t with stopOut := true, stopIn := true })

theorem test_chute_fault_asserts_stop :
    (after (.cflt 20 (.full 0)) stopReady).mgmt.notices.map Notice.kind =
      [.stopAsserted (.chuteFault 0), .stopSeen true] := by decide +kernel

theorem test_clrs_releases_stop :
    ((after (.clrs hdr) (State.withTrack stopReady (fun t => { t with latch := some .sstp }))).tracker.latch,
      (after (.clrs hdr) (State.withTrack stopReady (fun t => { t with latch := some .sstp }))).mgmt.notices.map
        Notice.kind) = (none, [.stopSeen false]) := by decide +kernel

/-- Section 4.2, residues of one tag. -/
theorem test_residues :
    [400012345, 400013366, 400016438, 400011473].map (fun t => (bucketOf t, cellOf t)) =
      [(881, 3455), (881, 383), (890, 3455), (9, 2583)] := by decide

/-- Section 5.1, coverage of a table. -/
def zones8 : List Zone :=
  [⟨2999, 2, 0⟩, ⟨3499, 3, 0⟩, ⟨3999, 3, 1⟩, ⟨3999, 3, 1⟩, ⟨5499, 5, 0⟩, ⟨5999, 5, 1⟩, ⟨7499, 7, 0⟩, ⟨7999, 7, 1⟩] ++
    List.replicate 24 ⟨0, 1, 0⟩

theorem test_zone_coverage :
    ([3106, 5020, 7214, 8120].map (zoneOf zones8), coveringZones 0 zones8, highestEnding zones8) =
      ([some 1, some 4, some 6, none], 7, 7999) := by decide

/-- Section 5.3: of 12 with room 47, 13 with a full queue and 14 with room 47, chute 12 is chosen. -/
def rooms : List Chute :=
  List.replicate 12 (chuteAt 600 20 1 .closed) ++
    [{ chuteAt 600 20 50 .opened with queue := List.replicate 3 ⟨1, 1, .deck, none, 1⟩ },
      { chuteAt 600 21 120 .opened with queue := List.replicate 8 ⟨1, 1, .deck, none, 1⟩ }, chuteAt 600 22 47 .opened]

theorem test_most_room_lowest_number : chooseChute rooms [14, 12, 13] = some 12 := by decide

/-- Section 6.3, a lead that moves under a waiting order: chute 12 at 151,200 with d = 117 and w = 160. -/
def order57 : Order := { tray := 57, seq := 4101, kind := .deck, reason := none, tag := 400012345 }
def order60 : Order := { tray := 60, seq := 4102, kind := .deck, reason := none, tag := 400020001 }

def on300 (d net : Nat) : State :=
  let s := ready .sorting .tracking
  { s with
    tracker := { Tracker.powerOn with state := .tracking, geo := some loop300, disp := d, net := net, speed := 1500 }
    trays :=
      ((List.replicate 300 (Tray.blank .empty)).set 57
        { bag .routed 400012345 with target := some 0, seq := some 4101 }).set 60
        { bag .routed 400020001 with target := some 0, seq := some 4102 }
    lines := List.replicate 4 Line.powerOn
    carts :=
      { s.carts with
        chutes :=
          [{ chuteAt 151200 20 120 .opened with queue := [order57, order60], mon := some { tray := 57, lead := 17550 } }] } }

theorem test_lead_rounds_half_up : [rawLead 1625 117, rawLead 1500 117, rawLead 1560 117] = [19013, 17550, 18252] := by
  decide

theorem test_late_fire_at_a_sample :
    ((after .speedSample (on300 179000 1560)).trays.getD 57 (Tray.blank .empty)).state = .dropping ∧
      (after .speedSample (on300 179000 1560)).carts.chutes.map (fun c => (c.queue.map Order.tray, c.fired, c.mon)) =
        [([60], 1, some { tray := 60, lead := 18252 })] := by decide +kernel

theorem test_miss_at_a_sample :
    ((after .speedSample (on300 179000 1700)).trays.getD 57 (Tray.blank .empty)).state = .recirculate ∧
      (after .speedSample (on300 179000 1700)).carts.chutes.map (fun c => (c.queue.map Order.tray, c.missed, c.mon)) =
        [([60], 1, some { tray := 60, lead := 19890 })] := by decide +kernel

/-- Section 6.6, a DROP withdrawn at an encoder fault: tray 57 is in doubt, its entry PENDING, the order of tray 60 cancelled. -/
def dropped57 : State :=
  let s := on300 179000 0
  State.withTiming
    { s with
      trays := s.trays.set 57 { bag .dropping 400012345 with target := some 0, seq := some 4101, serial := some 41 }
      carts :=
        { s.carts with
          chutes :=
            [{ chuteAt 151200 20 120 .opened with
                queue := [order60], mon := some { tray := 60, lead := 18252 }
                cart := [⟨400012345, 7214, 57, 4101, .pending, false⟩], awaiting := [⟨57, 4101, 41, 4000⟩] }] } }
    [.drop 0 57 .left 4101 41 400012345]

theorem test_drop_withdrawn_at_encoder_fault :
    ((after .bothPhasesChangeTogether dropped57).trays.getD 57 (Tray.blank .empty)).state = .doubt ∧
      ((after .bothPhasesChangeTogether dropped57).trays.getD 60 (Tray.blank .empty)).state = .recirculate ∧
      ((after .bothPhasesChangeTogether dropped57).sched.cancelled,
        (after .bothPhasesChangeTogether dropped57).sched.withdrawn) = (1, 1) := by decide +kernel

/-- Section 10.6, a field link fault: LINK_STATE is queued, then STOP_ASSERTED; the latch names LINK_DOWN. -/
theorem test_field_link_fault :
    (after (.linkTimeout .down) dropped57).mgmt.notices.map Notice.kind = [.linkState, .stopAsserted .linkDown] ∧
      (after (.linkTimeout .down) dropped57).link.timing = [] ∧
      ((after (.linkTimeout .down) dropped57).trays.getD 57 (Tray.blank .empty)).state = .doubt := by decide +kernel

/-- R184: a training frame in answer that is abandoned part-way is sent at the return. -/
theorem test_answer_outlives_the_link :
    (after (.linkTimeout .up) (State.withUp (ready .sorting .tracking) (fun p =>
      { p with
        answer := true
        tx := some { cls := .answer, frame := { dst := 127, src := 126, kind := 1, seq := 0, payload := [] } } }))).link.up.answer =
      true := by decide +kernel

/-- Section 11.4, checking an LCFG against chute 12 at 151,200. -/
def lcfgWith (locs : List Nat) : LoopArg :=
  { loopArg with
    lines := locs.zipIdx.map (fun x => { loc := x.1, delay := 255, gap := 9, station := 4 + x.2, enable := 1 }) }

def order12 (locs : List Nat) : Bool := loopOrder (lcfgWith locs) [chuteAt 151200 20 120 .closed]

theorem test_lcfg_order :
    [order12 [8000, 12000], order12 [236000], order12 [236000, 236500], order12 [236000, 2000]] =
      [false, true, false, true] := by decide +kernel

theorem test_lcfg_taken :
    (after (.lcfg hdr (some (lcfgWith [236000]))) (State.withChute (ready .setup .lost) (chuteAt 151200 20 120 .closed))).mgmt.replies =
      [{ hdr := hdr, kind := 0x42, status := .done, results := [.u32 240000, .u8 1, .u8 1] }] := by decide +kernel

/-- R193, log 8: an LCFG that sets the output enable under a set latch changes the level of the STOP line and queues no notice. -/
theorem test_lcfg_queues_no_notice :
    (let t := after (.lcfg hdr (some (lcfgWith [236000])))
      (State.withTrack (State.withChute (ready .setup .lost) (chuteAt 151200 20 120 .closed)) (fun t =>
        { t with latch := some .sstp, stopIn := true }));
      (t.mgmt.notices, t.stopLevel)) = ([], true) := by
  decide +kernel

/-- Section 10.2: the check of the nine bytes 31h to 39h. -/
theorem test_check : checkOf [0x31#8, 0x32#8, 0x33#8, 0x34#8, 0x35#8, 0x36#8, 0x37#8, 0x38#8, 0x39#8] = 0x29B1#16 := by
  decide +kernel

/-- A BRDY reserves the nearest tray at least a pitch upstream: centre of tray 4 at 2,300, 300 steps from 2,600; while STOP is seen the line is HELD. -/
def brdy0 : Instr := .brdy 4 (.full { line := 0, tag1 := 400012345, tag2 := 0 })

theorem test_brdy_held_while_stopped :
    ((after brdy0 { State.withTrack (ready .sorting .tracking) (fun t => { t with stopIn := true }) with
      pins := { encA := false, encB := false, stopHeld := true } }).lines.map Line.state).head? =
      some (.held 400012345 0) := by decide +kernel

theorem test_brdy_reserves :
    ((after brdy0 (ready .sorting .tracking)).lines.map Line.state).head? = some (.reserved 4 400012345 0) := by
  decide +kernel

/-- R30, R198: a BRDY cut short after its fifth byte is refused with the tag 1 that it carries. -/
theorem test_short_brdy_carries_tag1 :
    (after (.brdy 4 (.short [0#8, 0#8, 0#8, 0#8, 5#8])) (ready .sorting .tracking)).mgmt.notices.map
      (fun n => (n.kind, n.tag)) = [(.inductProtocol .wrongNode, 5)] := by decide +kernel

/-- A read of an identified tag outside the routing conditions leaves the tray RECIRCULATE with its cabin. -/
def listed : State :=
  let s := ready .setup .tracking
  { s with
    manifest :=
      Manifest.insertAt s.manifest (wayKey 881 0) ⟨400012345, 7214, 0, false, false, false⟩
    arch := { s.arch with outstanding := some 2 } }

theorem test_found_bag_identified :
    (after (.tscn 3 (.full ⟨2, 1, 400012345, 0⟩)) listed).trays[2]? =
      some { Tray.blank .recirculate with tag := 400012345, cabin := 7214, lap := 1 } := by decide +kernel

theorem test_unlisted_tag_strays :
    ((after (.tscn 3 (.full ⟨2, 1, 400013366, 0⟩)) listed).trays[2]?).bind Tray.reason = some .notOnManifest := by
  decide +kernel

/-- An MPUT inserts; a second one with another cabin amends. -/
theorem test_mput_outcomes :
    (after (.mput hdr (some ⟨2, [putArg, { putArg with cabin := 3106 }]⟩)) (ready .setup .unsynced)).mgmt.replies.map
      Reply.results = [[.u8 2, .u8 4, .u8 2]] := by decide +kernel

/-- R190: in IDLE an MPUT with a bad count is RANGE, an MDEL with one MODE. -/
theorem test_counts_in_idle :
    (after (.mput hdr (some ⟨17, []⟩)) (ready .idle .unsynced)).mgmt.replies.map Reply.status ++
      (after (.mdel hdr (some ⟨33, []⟩)) (ready .idle .unsynced)).mgmt.replies.map Reply.status = [.range, .mode] := by
  decide +kernel

/-- A management request received at the UP port joins the request queue and names the host station. -/
theorem test_request_received :
    (after (.frameReceived .up false (Frame.bytes { dst := 126, src := 1, kind := 0x53, seq := 9, payload := [] }))
      (ready .setup .unsynced)).mgmt.requests = [{ hdr := hdr, request := .sstp }] := by decide +kernel

/-- CEYE confirms the drop of tray 57. -/
theorem test_ceye_confirms :
    ((after (.ceye 20 (.full 0)) dropped57).trays.getD 57 (bag .routed 1)).state = .empty ∧
      (after (.ceye 20 (.full 0)) dropped57).carts.chutes.flatMap (fun c => c.cart.map CartEntry.status) = [.confirmed] := by
  decide +kernel

/-- COUT of an empty cart still reports it; CIN with the report pending keeps the swap. -/
theorem test_cout_reports_empty_cart :
    (after (.cout 20 (.full 0)) (ready .sorting .tracking)).carts.reports = [⟨7, 0, 41, []⟩] := by decide +kernel

theorem test_cin_ends_swap :
    (after (.cin 20 (.full 0)) (State.withChute (ready .sorting .tracking) (chuteAt 600 20 2 .swap))).carts.chutes.map
      (fun c => (c.state, c.serial)) = [(.opened, some 42)] := by decide +kernel

/-- MODE SORT with nothing loaded lists every missing condition. -/
theorem test_sort_not_ready :
    (after (.modeSort hdr) { ready .setup .unsynced with carts := CartUnit.powerOn }).mgmt.replies.map
      (fun r => (r.status, r.results)) = [(.notReady, [.u8 4, .u8 1, .u8 2, .u8 3, .u8 4])] := by decide +kernel

/-- An empty queue lets 0.1 ms pass. -/
theorem test_idle_tick : (match step State.reset with | .next t => t.now | _ => 0) = 1 := by decide +kernel

/-- R175 at a tick: the link is lost 50 ms after the last valid frame, no tick before. -/
theorem test_tick_loses_the_link :
    [498, 499].map (fun n => match step { ready .sorting .tracking with now := n } with
      | .next t => some t.link.up.state
      | _ => none) = [some .up, some .down] := by decide +kernel

/-! ## What meets the hypotheses of each statement -/

/-- The outcome is a next state. -/
def goesOn (o : Host.Outcome State Fault Refusal) : Bool :=
  match o with
  | .next _ => true
  | .fault _ => false
  | .refused _ => false

def State.withMgmt (s : State) (f : Mgmt → Mgmt) : State := { s with mgmt := f s.mgmt }
def State.withLine (s : State) (i : Nat) (l : Line) : State := { s with lines := s.lines.set i l }
def State.withLines (s : State) (l : List Line) : State := { s with lines := l }
def State.withPins (s : State) (a b h : Bool) : State := { s with pins := { encA := a, encB := b, stopHeld := h } }
def State.withRules (s : State) (l : List Rule) : State := { s with router := { s.router with rules := l } }

/-- n notices wait. -/
def noticed (n : Nat) (s : State) : State :=
  State.withMgmt s (fun m => { m with notices := List.replicate n (Notice.of .drained) })

/-- n replies wait. -/
def replied (n : Nat) (s : State) : State := State.withMgmt s (fun m => { m with replies := List.replicate n oneReply })

/-- Another request heads the request queue. -/
def behind (s : State) : State :=
  State.withMgmt s (fun m => { m with requests := [{ hdr := { hdr with seq := 8 }, request := .sstp }] })

/-- n SCAN frames wait. -/
def queued (n : Nat) (s : State) : State := State.withTiming s (List.replicate n (.scan 1))

/-- A small part that tracks and routes. -/
def run : State := ready .sorting .tracking
def idleSt : State := ready .idle .unsynced
def setupSt : State := ready .setup .unsynced

theorem sessionLaw_ready (m : Mode) (k : TrackState) : (ready m k).SessionLaw := by
  cases m <;> cases k <;> simp [ready, State.SessionLaw]

theorem witness_FrontCommandRuns :
    ({ run with pending := [.homePulse, .bucketScan] }).pending = .homePulse :: [.bucketScan] ∧ State.reset.pending = [] ∧
      -- what is due at the next tick, and not the tick before
      [98, 99].map (fun n => decide (run.tracker.windowStart + 100 ≤ n + 1)) = [false, true] ∧
      [9998, 9999].map (fun n => decide (run.session.secondStart + 10000 ≤ n + 1)) = [false, true] ∧
      [3998, 3999].map (fun n =>
          dropped57.carts.chutes.map (fun c => (c.awaiting.filter (fun a => decide (a.expiry ≤ n + 1))).length)) =
        [[0], [1]] ∧
      run.link.up.state = .up ∧ State.reset.link.up.state = .training ∧
      (State.withUp run (fun p => { p with state := .down })).link.up.state = .down := by decide +kernel

theorem witness_EveryCommandCompletes :
    (∀ straps, Instr.homePulse ≠ .powerOnReset straps) ∧ (∀ ph, Instr.homePulse ≠ .encoderStep ph) ∧
      Instr.homePulse ≠ .bothPhasesChangeTogether ∧ ∀ held, Instr.homePulse ≠ .stopLevelChange held := by simp

/-- R173: the straps 0 and 127 read as 126. -/
theorem test_straps : [0, 1, 126, 127].map ownStation = [126, 1, 126, 126] := by decide

theorem witness_RequestReplies :
    requestOf (.sstp hdr) = some (hdr, .sstp) ∧ run.mayServe hdr .sstp = true ∧ (replied 7 run).mayServe hdr .sstp = true ∧
      (replied 8 run).mayServe hdr .sstp = false ∧ (behind run).mayServe hdr .sstp = false := by decide

/-- Line 0 holds the request of tag 5, and its yield bar these trays. -/
def heldWith (bar : List Nat) (s : State) : State := State.withLine s 0 { line0 with state := .held 5 0, bar := bar }

theorem inService (s : State) (k : Nat) (x : Tray) (h : s.trays[k]? = some x) (hx : x.state ≠ .disabled) :
    ¬ s.OutOfService k := by
  rintro ⟨y, hy, hd⟩
  rw [h] at hy
  cases hy
  exact hx hd

/-- Tray 4 passes line 0 at the next step, which carries the held request: with every tray but 4 and 6 barred, the attempt finds tray 6. -/
theorem witness_StepIsCounted_passing :
    (let s := State.withTrack (heldWith [4, 5] run) (fun t => { t with disp := 299 });
      s.isTracking = true ∧ s.tracker.geo = some loop16 ∧ s.lines[0]? = some { line0 with state := .held 5 0, bar := [4, 5] } ∧
        (List.range 16).filter (fun k => decide (1 ≤ loop16.approach 299 k 2600 ∧ loop16.approach 299 k 2600 ≤ 1)) = [4] ∧
        s.mayAllocate = true ∧
        (State.withTrack s (fun t => { t with disp := 300 })).searchTray loop16
          { line0 with state := .held 5 0, bar := [5] } cfg0 = some 6 ∧
        (State.withTrack s (fun t => { t with disp := 300 })).searchTray loop16
          { line0 with state := .held 5 0, bar := [5, 6, 7] } cfg0 = some 8 ∧
        (State.withTrack s (fun t => { t with stopIn := true })).stopSeen = false) ∧
      (State.withPins (State.withTrack run (fun t => { t with stopIn := true })) false false true).mayAllocate = false ∧
      (heldWith [] run).NoneArmed := by
  refine ⟨by decide +kernel, by decide +kernel, ?_⟩
  unfold State.NoneArmed
  decide +kernel

theorem witness_StepIsCounted :
    [0, 3198, 3199].all (fun d =>
        let s := State.withTrack run (fun t => { t with disp := d })
        s.tracker.state != .unconfigured && s.tracker.geo == some loop16 && s.isTracking && decide (d < 16 * 200) &&
          decide ((s.pins.encA, s.pins.encB, EncPhase.a) ∈ forwardSteps) &&
          decide ((s.pins.encA, s.pins.encB, EncPhase.b) ∉ forwardSteps)) = true ∧
      (State.withTrack run (fun t => { t with state := .unconfigured, geo := none })).tracker.state = .unconfigured ∧
      setupSt.isTracking = false ∧ run.NoneArmed ∧ ∀ l ∈ run.lines, ∀ a b, l.state ≠ .held a b := by
  refine ⟨by decide +kernel, rfl, rfl, ?_, ?_⟩
  · unfold State.NoneArmed; decide +kernel
  · intro l hl a b
    have : l.state = .free := (by decide +kernel : ∀ l ∈ run.lines, l.state = .free) l hl
    simp [this]

theorem witness_EncoderFault :
    (ready .idle .unconfigured).tracker.state = .unconfigured ∧
      [ready .setup .unsynced, noticed 63 (ready .setup .lost)].all (fun s =>
        (s.tracker.state == .unsynced || s.tracker.state == .lost) && s.tracker.latch == none &&
          decide (s.mgmt.notices.length < 64)) = true ∧
      (State.withTrack setupSt (fun t => { t with latch := some .sstp })).tracker.latch ≠ none ∧
      dropped57.isTracking = true ∧ dropped57.session.mode = .sorting ∧ dropped57.session.voyage = 7 ∧
      (after .bothPhasesChangeTogether dropped57).mgmt.notices.length < 64 := by decide +kernel

/-- Lines 0 and 1 are HELD at 2,600 and 2,800, and the next step brings tray 4 to the one and tray 3 to the other: line 0 reserves tray 6, and line 1, after it, tray 7. -/
theorem witness_StepIsCounted_lines :
    (let l1 : Line := { line0 with cfg := some { cfg0 with loc := 2800, station := 5 }, state := .held 7 0, bar := [3, 4, 5] };
      let s := State.withLine (State.withTrack (heldWith [4, 5] run) (fun t => { t with disp := 299 })) 1 l1;
      s.isTracking = true ∧ s.mayAllocate = true ∧
        [2600, 2800].map (fun loc => (List.range 16).filter (fun k =>
          decide (1 ≤ loop16.approach 299 k loc ∧ loop16.approach 299 k loc ≤ 1))) = [[4], [3]] ∧
        (after (.encoderStep .a) s).lines.map Line.state =
          [.reserved 6 5 0, .reserved 7 7 0, .free, .free]) := by decide +kernel

/-- Every tray is out of service. -/
def allOff : State := { (ready .setup .tracking) with trays := List.replicate 16 (Tray.blank .disabled) }

theorem witness_HomePulse :
    (ready .idle .unconfigured).tracker.state = .unconfigured ∧ (ready .setup .unsynced).tracker.state = .unsynced ∧
      (ready .setup .lost).tracker.state = .lost ∧ run.isTracking = true ∧ run.tracker.geo = some loop16 ∧
      run.SessionLaw ∧
      [0, 40, 41, 1600, 1601, 3159, 3160, 3199].map (fun d : Nat =>
          if d ≤ 16 * 200 / 2 then (d : Int) else (d : Int) - (16 * 200 : Nat)) =
        [0, 40, 41, 1600, -1599, -41, -40, -1] ∧
      (after .homePulse (State.withTrack run (fun t => { t with disp := 41 }))).mgmt.notices.length < 64 ∧
      -- a correction of 40 steps carries tray 3 past a line at 2,470 and no tray past one at 2,600
      [2470, 2600].map (fun loc => (List.range 16).filter (fun k =>
        decide (1 ≤ loop16.approach 3160 k loc ∧ loop16.approach 3160 k loc ≤ 40))) = [[3], []] ∧
      -- the fresh tray at a synchronisation, and none with every tray out of service
      (ready .setup .tracking).FreshTray loop16 15 ∧
      (State.withTrack (ready .setup .tracking) (fun t => { t with disp := 1 })).ScanStays loop16 0 ∧
      ¬ (ready .setup .tracking).ScanStays loop16 15 ∧ ∀ k, ¬ allOff.FreshTray loop16 k := by
  refine ⟨rfl, rfl, rfl, rfl, rfl, sessionLaw_ready _ _, by decide, by decide +kernel, by decide +kernel, ?_, ?_, ?_, ?_⟩
  · refine ⟨by decide, inService _ _ (Tray.blank .empty) rfl (by decide), by decide +kernel, ?_⟩
    intro x hx _ _
    have e : loop16.approach (ready .setup .tracking).tracker.disp 15 loop16.archLoc = 0 := by decide +kernel
    rw [e]
    exact Nat.zero_le _
  · unfold State.ScanStays; decide +kernel
  · unfold State.ScanStays; decide +kernel
  · rintro k ⟨hk, hs, -⟩
    exact hs ⟨Tray.blank .disabled, List.getElem?_replicate_of_lt hk, rfl⟩

theorem witness_SpeedSample :
    setupSt.isTracking = false ∧
      [-1, 0, 4095, 4096].map (fun n : Int =>
          let t := (after .speedSample (State.withTrack setupSt (fun t => { t with net := n }))).tracker
          (t.speed, t.speedClamps)) =
        [(0, 0), (0, 0), (4095, 0), (4095, 1)] ∧
      run.isTracking = true ∧ run.NoneArmed ∧
      -- an armed scan monitor, its lead taken anew: still short of tray 5, past tray 0
      (let s := { run with arch := { run.arch with mon := some { tray := 5, lead := 0 } } };
        s.isTracking = true ∧ s.tracker.geo = some loop16 ∧ s.arch.mon = some { tray := 5, lead := 0 } ∧
          (∀ l ∈ s.lines, l.mon = none) ∧ (∀ c ∈ s.carts.chutes, c.mon = none) ∧
          leadAt 239 50 = 1195 ∧ leadAt 240 50 = 1200 ∧ loop16.approach 0 5 100 = 1200) := by
  refine ⟨by decide +kernel, by decide +kernel, by decide +kernel, ?_, by decide +kernel⟩
  unfold State.NoneArmed
  decide +kernel

theorem witness_MonitorEvaluation :
    0 < loop16.trays * loop16.pitch ∧ 100 < loop16.trays * loop16.pitch ∧
      -- a step, a correction of 40 and a step past Lu; tray 0 stands 1, 40, 41 and 2 steps short before it
      [(99, 100, 1, 0), (3160, 0, 40, 3100), (3160, 0, 40, 3101), (3199, 0, 1, 3101)].all (fun x =>
        x.2.1 % 3200 == (x.1 + x.2.2.1) % 3200 && decide (x.2.2.1 < 3200) && decide (x.2.2.2 < 3200)) = true ∧
      [loop16.approach 99 0 0, loop16.approach 3160 0 3100, loop16.approach 3160 0 3101, loop16.approach 3199 0 3101] =
        [1, 40, 41, 2] ∧
      [decideMonitor 800 799 200, decideMonitor 800 800 200, decideMonitor 800 999 200, decideMonitor 800 1000 200] =
        [.stay, .fire, .fire, .miss] := by decide +kernel

theorem witness_StopLineReleased :
    run.mayServe hdr .clrs = true ∧ run.link.down.state = .up ∧
      (State.withDown run (fun p => { p with state := .down })).mayServe hdr .clrs = true ∧
      (State.withDown run (fun p => { p with state := .down })).link.down.state ≠ .up ∧
      (State.withDown run (fun p => { p with state := .training })).link.down.state ≠ .up := by decide

theorem witness_SstpSetsTheLatch :
    run.mayServe hdr .sstp = true ∧ run.tracker.latch = none ∧ run.tracker.stopOut = false ∧
      (State.withTrack stopReady (fun t => { t with latch := some .encoder })).mayServe hdr .sstp = true ∧
      (State.withTrack stopReady (fun t => { t with latch := some .encoder })).tracker.latch.isSome = true ∧
      stopReady.tracker.stopOut = true ∧ stopReady.tracker.stopIn = true ∧ stopReady.pins.stopHeld = false := by decide

/-- A launch monitor, a scan monitor and a chute monitor are armed at speed 1,500. -/
def armed : State :=
  let s := State.withTrack run (fun t => { t with speed := 1500 })
  State.withChute
    { (State.withLine s 0 { line0 with state := .reserved 4 400012345 0, mon := some { tray := 4, lead := 3000 } }) with
      arch := { s.arch with mon := some { tray := 1, lead := 7500 } }
      trays := (s.trays.set 4 { Tray.blank .reserved with source := some 0 }).set 7
        { bag .routed 5 with target := some 0, seq := some 1 } }
    { chuteAt 600 20 2 .opened with
      queue := [{ tray := 7, seq := 1, kind := .deck, reason := none, tag := 5 }], mon := some { tray := 7, lead := 17550 } }

theorem witness_MonitorLawIsKept : armed.MonitorLaw ∧ goesOn (step armed) = true := by
  refine ⟨?_, by decide +kernel⟩
  unfold State.MonitorLaw State.NoneArmed
  decide +kernel

/-- Every owner has a monitor armed, and a step, a correction or a sample evaluates it; in `run` none has. -/
theorem witness_OwnersEvaluated :
    armed.tracker.geo = some loop16 ∧
      armed.lines[0]? = some { line0 with state := .reserved 4 400012345 0, mon := some { tray := 4, lead := 3000 } } ∧
      line0.cfg = some cfg0 ∧ armed.arch.mon = some { tray := 1, lead := 7500 } ∧
      (armed.carts.chutes[0]?).map Chute.mon = some (some { tray := 7, lead := 17550 }) ∧
      run.lines[0]? = some line0 ∧ line0.mon = none ∧ run.arch.mon = none ∧
      run.carts.chutes[0]? = some (chuteAt 600 20 2 .opened) ∧ (chuteAt 600 20 2 .opened).mon = none ∧
      -- a chute window of 160 above floor(P/2), and one of 1 below it
      ¬ (chuteAt 600 20 2 .opened).cfg.window < loop16.pitch / 2 ∧ 1 < loop16.pitch / 2 ∧
      (armed.launchesArmed, armed.headsArmed) = ([0], [0]) ∧ armed.isTracking = true ∧
      (armed.pins.encA, armed.pins.encB, EncPhase.a) ∈ forwardSteps ∧
      0 < loop16.trays * loop16.pitch := by decide +kernel

/-- The unsent IREF of line 1. -/
def iref1 : Iref := { line := 1, tag1 := 5, tag2 := 6, reason := .busy, begun := false }

/-- An IREF of line 0 joins the end; one of line 1 takes the place of the line's. -/
theorem witness_IrefPlaced :
    (∀ x ∈ [iref1], x.line ≠ 0) ∧
      [iref1, { iref1 with line := 0 }] = [] ++ iref1 :: [{ iref1 with line := 0 }] ∧ iref1.line = 1 ∧
      ∀ y ∈ ([] ++ [{ iref1 with line := 0 }] : List Iref), y.line ≠ 1 := by decide

theorem witness_BrdyRefused :
    -- WRONG_NODE: no such line, a line not configured, another node's line
    [(4, 4), (3, 4), (0, 5)].all (fun x =>
        decide (∀ l ∈ run.lines[x.1]?, ∀ c ∈ l.cfg, c.station ≠ x.2)) = true ∧
      -- the last line, with its own node: MODE, LINE_OFF, BUSY
      ((State.withLine setupSt 3 line0).lines[3]? = some line0 ∧ line0.cfg = some cfg0 ∧ cfg0.station = 4 ∧
        (State.withLine setupSt 3 line0).mode ≠ .sorting) ∧
      (let c := { cfg0 with enable := false };
        (State.withLine run 3 { line0 with cfg := some c }).lines[3]? = some { line0 with cfg := some c } ∧
          run.mode = .sorting ∧ c.station = 4 ∧ c.enable = false) ∧
      (let l := { line0 with state := .held 1 0 };
        (State.withLine run 3 l).lines[3]? = some l ∧ l.cfg = some cfg0 ∧ cfg0.enable = true ∧ l.state ≠ .free) ∧
      [0, 999999999, 1000000000].map (fun t => if t ≤ 999999999 then t else 0) = [0, 999999999, 0] := by
  decide +kernel

theorem witness_BrdyTaken :
    999999999 ≤ 999999999 ∧ run.lines[0]? = some line0 ∧ line0.cfg = some cfg0 ∧ cfg0.station = 4 ∧ run.mode = .sorting ∧
      cfg0.enable = true ∧ line0.state = .free ∧
      ((State.withTrack (State.withPins run false false true) (fun t => { t with stopIn := true })).stopSeen = true) ∧
      run.tracker.geo = some loop16 ∧ 0 < loop16.pitch ∧ (run.isTracking && !run.stopSeen && run.downUp) = true ∧
      run.searchTray loop16 line0 cfg0 = some 4 ∧
      ({ run with trays := List.replicate 16 (bag .loaded 0) }).searchTray loop16 line0 cfg0 = none := by decide +kernel

theorem witness_AllocationSearch :
    0 < loop16.pitch ∧ 200 = min 65535 ((run.tracker.speed * cfg0.delay + 5) / 10) + loop16.pitch ∧
      run.searchTray loop16 line0 cfg0 = some 4 ∧ loop16.approach 0 4 2600 = 300 ∧
      run.searchTray loop16 { line0 with bar := [4, 5] } cfg0 = some 6 ∧
      (State.withTrack run (fun t => { t with disp := 100 })).searchTray loop16 line0 cfg0 = some 4 ∧
      loop16.approach 100 4 2600 = 200 ∧
      ({ run with trays := List.replicate 16 (bag .loaded 0) }).searchTray loop16 line0 cfg0 = none := by decide +kernel

/-- Line 0 has reserved tray 4, whose centre stands a steps short of the line. -/
def reservedAt (d lead n : Nat) : State :=
  let s := State.withTrack (queued n run) (fun t => { t with disp := d })
  State.withTray
    (State.withLine s 0 { line0 with state := .reserved 4 5 0, mon := some { tray := 4, lead := lead } }) 4
    { Tray.blank .reserved with source := some 0 }

theorem witness_LaunchDecided :
    (reservedAt 0 0 15).lines[0]? = some { line0 with state := .reserved 4 5 0, mon := some { tray := 4, lead := 0 } } ∧
      line0.cfg = some cfg0 ∧ (reservedAt 0 0 15).trays[4]? = some { Tray.blank .reserved with source := some 0 } ∧
      (reservedAt 0 299 15).launchDecision 0 0 = .stay ∧ (reservedAt 0 300 15).launchDecision 0 0 = .fire ∧
      (reservedAt 0 399 16).launchDecision 0 0 = .fire ∧ (reservedAt 0 400 0).launchDecision 0 0 = .miss ∧
      (reservedAt 0 300 15).link.timing.length = 15 ∧ (reservedAt 0 300 16).link.timing.length = 16 ∧
      (reservedAt 0 0 0).mode = .sorting ∧ (reservedAt 0 0 0).session.watch = false := by decide +kernel

/-- The same in DRAINING, with the drain watch ARMED: a miss, and a fire with the timing queue full. -/
theorem witness_LaunchDecided_draining :
    [(400, 0), (399, 16)].map (fun x =>
        let s := { reservedAt 0 x.1 x.2 with session := { run.session with mode := .draining, watch := true } }
        (decide (s.mode ≠ .sorting), s.launchDecision 0 0, s.link.timing.length, s.lines[0]?.map Line.state)) =
      [(true, .miss, 0, some (.reserved 4 5 0)), (true, .fire, 16, some (.reserved 4 5 0))] := by decide +kernel

def launched4 : State :=
  State.withTray (State.withLine run 0 { line0 with state := .launched 4 5 6 }) 4
    { Tray.blank .launching with source := some 0 }

theorem witness_LdonMatched :
    launched4.lines[0]? = some { line0 with state := .launched 4 5 6 } ∧ line0.cfg = some cfg0 ∧ cfg0.station = 4 ∧
      launched4.trays[4]? = some { Tray.blank .launching with source := some 0 } ∧
      launched4.tagDoubled 4 none 5 = false ∧ (State.withTray launched4 15 (bag .loaded 5)).tagDoubled 4 none 5 = true := by
  decide +kernel

theorem witness_LdonUnmatched :
    launched4.lines[4]? = none ∧ ((3 : Nat) ≠ 1 ∧ (3 : Nat) ≠ 2) ∧ ((0 : Nat) ≠ 1 ∧ (0 : Nat) ≠ 2) ∧
      launched4.trays[16]? = none ∧ cfg0.station ≠ 5 := by decide +kernel

theorem witness_TrayService :
    run.mayServe hdr (.tcmdDisable (.of 15)) = true ∧ run.mayServe hdr (.tcmdEnable 15) = true ∧
      run.trays[16]? = none ∧ run.trays[15]? = some (Tray.blank .empty) ∧
      (State.withTray run 15 (Tray.blank .disabled)).trays[15]? = some (Tray.blank .disabled) ∧
      (State.withTray run 15 (bag .loaded 5)).trays[15]? = some (bag .loaded 5) ∧ (∀ m ∈ run.arch.mon, m.tray ≠ 15) ∧
      (∀ m ∈ armed.arch.mon, m.tray ≠ 15) ∧ armed.arch.mon ≠ none ∧ setupSt.isTracking = false ∧
      [ActionArg.short, .badAction 0, .badAction 255].all (fun a => run.mayServe hdr (.tcmdDisable a)) = true := by
  decide +kernel

/-- The scan monitor watches tray 15; once 15 and 0 are out of service it moves to tray 1, and with every other tray so too it is disarmed. -/
theorem witness_TrayService_moved :
    (let s := { (State.withTray run 0 (Tray.blank .disabled)) with arch := { run.arch with mon := some { tray := 15, lead := 0 } } };
      s.arch.mon = some { tray := 15, lead := 0 } ∧ s.trays[15]? = some (Tray.blank .empty) ∧ s.tracker.geo = some loop16) ∧
      (State.withTray (State.withTray run 0 (Tray.blank .disabled)) 15 (Tray.blank .disabled)).Following 15 1 ∧
      (∀ x ∈ allOff.trays, x.state = .disabled) ∧ run.arch.mon = none ∧ run.downUp = true := by
  refine ⟨by decide +kernel, ⟨1, by decide, by decide, inService _ _ (Tray.blank .empty) rfl (by decide), ?_⟩,
    by decide +kernel, rfl, rfl⟩
  intro h hh
  obtain rfl : h = 0 := by omega
  exact ⟨Tray.blank .disabled, by decide +kernel, rfl⟩

theorem tagLaw_of (s : State) (n : Nat) (hn : s.trays.length = n)
    (h : ∀ i, i < n → ∀ j, j < n →
      (s.trays.getD i (Tray.blank .empty)).tag ≠ 0 →
        (s.trays.getD i (Tray.blank .empty)).tag = (s.trays.getD j (Tray.blank .empty)).tag → i = j) : s.TagLaw := by
  intro i j a b hi hj h0 h1
  obtain ⟨hi', ei⟩ := List.getElem?_eq_some_iff.1 hi
  obtain ⟨hj', ej⟩ := List.getElem?_eq_some_iff.1 hj
  exact h i (hn ▸ hi') j (hn ▸ hj') (by simpa [List.getD, hi] using h0) (by simpa [List.getD, hi, hj] using h1)

theorem witness_TagLawIsKept :
    (State.withTray armed 15 (bag .loaded 999999999)).TagLaw ∧
      goesOn (step { (State.withTray armed 15 (bag .loaded 999999999)) with pending := [.homePulse] }) = true :=
  ⟨tagLaw_of _ 16 rfl (by decide +kernel), by decide +kernel⟩

/-- Tray k is outstanding. -/
def scanned (k : Nat) (t : Tray) (s : State) : State :=
  State.withTray { s with arch := { s.arch with outstanding := some k } } k t

theorem witness_TscnDropped :
    [(5, 15, 1), (3, 16, 1), (3, 15, 0), (3, 15, 3)].all (fun x =>
        decide (∀ g ∈ run.tracker.geo, x.1 = g.archStation → x.2.1 < run.trays.length → x.2.2 ≠ 1 ∧ x.2.2 ≠ 2)) = true ∧
      run.tracker.geo = some loop16 ∧ loop16.archStation = 3 ∧ 15 < run.trays.length ∧ run.arch.outstanding ≠ some 15 ∧
      (scanned 14 (bag .loaded 5) run).arch.outstanding ≠ some 15 := by decide +kernel

theorem witness_PassWithoutBag :
    [TrayState.empty, .loaded, .recirculate, .reserved, .routed, .dropping, .disabled].all (fun st =>
        let s := scanned 15 (bag st 5) run
        s.tracker.geo == some loop16 && s.arch.outstanding == some 15 && s.trays[15]? == some (bag st 5)) = true ∧
      (let s := { launched4 with arch := { launched4.arch with outstanding := some 4 } };
        s.trays[4]? = some { Tray.blank .launching with source := some 0 } ∧
          s.lines[0]? = some { line0 with state := .launched 4 5 6 }) ∧
      (let x := { bag .doubt 5 with target := some 0, serial := some 41, seq := some 9 };
        (scanned 4 x run).trays[4]? = some x ∧ (run.carts.chutes[0]?).isSome = true) := by decide +kernel

/-- A manifest of six tags: 11 and 12 for cabin 7214, 13 held for it, 14 for cabin 3106, 15 with no cabin, 16 held with none. -/
def manifest6 : Manifest :=
  [(11, 7214, false), (12, 7214, false), (13, 7214, true), (14, 3106, false), (15, 0, false), (16, 0, true)].foldl
    (fun m x =>
      m.insertAt (wayKey (bucketOf x.1) 0)
        { tag := x.1, cabin := x.2.1, group := 0, hold := x.2.2, priority := false, oversize := false })
    Manifest.powerOn

def entry (tag cabin : Nat) (hold : Bool) : Entry :=
  { tag := tag, cabin := cabin, group := 0, hold := hold, priority := false, oversize := false }

theorem witness_VerdictOfTags :
    ({ run with manifest := manifest6 }).arch.lapLimit = some 3 ∧ (3 : Nat) < 4 ∧ (∀ limit ∈ run.arch.lapLimit, 3 ≤ limit) ∧
      [11, 12, 13, 14, 15, 16].map manifest6.lookupResult =
        [.of (entry 11 7214 false), .of (entry 12 7214 false), .of (entry 13 7214 true), .of (entry 14 3106 false),
          .of (entry 15 0 false), .of (entry 16 0 true)] ∧
      manifest6.lookupResult 17 = .notOnManifest := by decide +kernel

/-- Tray 2 is outstanding and in doubt of its drop 9 into cart 41 of chute 0, whose cart has this serial and this entry of tray 2. -/
def doubted (serial : Option Nat) (seq : Nat) : State :=
  State.withChute
    (scanned 2 { bag .doubt 5 with target := some 0, serial := some 41, seq := some 9 }
      { (ready .setup .tracking) with manifest := manifest6 })
    { chuteAt 600 20 2 .opened with serial := serial, cart := [⟨5, 7214, 2, seq, .pending, false⟩] }

theorem witness_PassNotRouted :
    [bag .empty 0, bag .loaded 5, { bag .recirculate 5 with lap := 14 }, { bag .recirculate 5 with lap := 15 }].all (fun x =>
        let s := scanned 2 x { (ready .setup .tracking) with manifest := manifest6 }
        s.tracker.geo == some loop16 && s.arch.outstanding == some 2 && s.trays[2]? == some x && !s.routes &&
          !s.tagDoubled 2 none 11 && (State.withTray s 3 (bag .loaded 11)).tagDoubled 2 none 11) = true ∧
      (ready .drained .tracking).routes = false ∧ (ready .sorting .lost).routes = false ∧
      (State.withDown run (fun p => { p with state := .training })).routes = false ∧
      -- a tray in LAUNCHING, and one in DOUBT whose entry is there, whose entry is gone, whose cart is closed
      (let s := scanned 4 { Tray.blank .launching with source := some 0 } (State.withTrack launched4 (fun t => { t with state := .lost }));
        s.routes = false ∧ s.trays[4]? = some { Tray.blank .launching with source := some 0 } ∧
          s.lines[0]? = some { line0 with state := .launched 4 5 6 }) ∧
      [(some 41, 9), (some 41, 8), (some 40, 9)].map (fun x =>
          (doubted x.1 x.2).carts.chutes.map (fun c =>
            (decide (c.hasCart = true ∧ c.serial = some 41), c.cart.any (fun e => e.tray == 2 && e.seq == 9)))) =
        [[(true, true)], [(true, false)], [(false, true)]] ∧
      (doubted (some 41) 9).trays[2]? = some { bag .doubt 5 with target := some 0, serial := some 41, seq := some 9 } ∧
      (doubted (some 41) 9).routes = false := by decide +kernel

/-- A loaded tray of a tag that every zone and rule leads to chute 0, which holds an order; with no rule, it recirculates. -/
def routing (rules : List Rule) : State :=
  let s := scanned 2 (bag .loaded 11) { armed with manifest := manifest6 }
  State.withChute
    { s with router := { s.router with zones := List.replicate 32 ⟨9999, 5, 1⟩, rules := rules } }
    { chuteAt 600 20 9 .opened with
      queue := [{ tray := 7, seq := 1, kind := .deck, reason := none, tag := 5 }], mon := some { tray := 7, lead := 17550 } }

def anyTo0 : Rule := { enabled := true, mtch := .any, action := .toChute 0, taken := 0, passed := 0 }

def routedBy (s : State) : State × Resolved :=
  let r := s.checkDoubled 2 (s.reading 1 (tagSet 11 0 0 0))
  resolveRoute 2 r.tag r.verdict (countLookups 1 (tagSet 11 0 0 0) { s with arch := { s.arch with outstanding := none } })

theorem witness_PassRouted :
    (routing [anyTo0]).tracker.geo = some loop16 ∧ (routing [anyTo0]).arch.outstanding = some 2 ∧
      (routing [anyTo0]).trays[2]? = some (bag .loaded 11) ∧ (routing [anyTo0]).routes = true ∧
      (routedBy (routing [])).2.route = .recirculate ∧ (routedBy (routing [anyTo0])).2.route = .chute 0 .deck ∧
      ((routing [anyTo0]).carts.chutes.map (fun c => c.queue.length)) = [1] ∧
      -- with an empty queue the order's monitor arms, tray 2 standing 1,100 steps short of the chute: it waits, or misses
      (let s := State.withChute (routing [anyTo0]) (chuteAt 600 20 9 .opened);
        (routedBy s).2.route = .chute 0 .deck ∧ s.carts.chutes.map Chute.queue = [[]] ∧ loop16.approach 0 2 600 = 1100 ∧
          leadAt 93 117 = 1088 ∧ leadAt 95 117 = 1112) := by decide +kernel

/-- A bag aboard an EMPTY, a LOADED, a RECIRCULATE and a LAUNCHING tray, and a DOUBT one whose entry is there and whose entry is gone; each routes in `run`. -/
theorem witness_BagAboard :
    (run.routes = true ∧ launched4.routes = true ∧ (doubted (some 41) 9).routes = false) ∧
      (∃ b, BagAboard (scanned 2 (bag .empty 0) run) 2 11 0 (bag .empty 0) 1 none (tagSet 0 0 11 0) b) ∧
      (∃ b, BagAboard (scanned 2 (bag .loaded 5) run) 2 11 0 (bag .loaded 5) 1 none (tagSet 5 0 11 0) b) ∧
      (∃ b, BagAboard (scanned 2 (bag .recirculate 5) run) 2 0 0 { bag .recirculate 5 with lap := 15 } 15 none
        (tagSet 5 0 0 0) b) ∧
      (∃ b, BagAboard (scanned 4 { Tray.blank .launching with source := some 0 } launched4) 4 0 0
        { Tray.blank .launching with source := some 0 } 1 (some 0) (tagSet 5 6 0 0) b) ∧
      [9, 8].all (fun seq => (doubted (some 41) seq).carts.chutes.all (fun c => c.hasCart)) = true ∧
      (∃ b, BagAboard (doubted (some 41) 9) 2 5 0
        { bag .doubt 5 with target := some 0, serial := some 41, seq := some 9 } 2 none (tagSet 5 0 5 0) b) ∧
      ∃ b, BagAboard (doubted (some 40) 9) 2 5 0
        { bag .doubt 5 with target := some 0, serial := some 41, seq := some 9 } 2 none (tagSet 5 0 5 0) b := by
  refine ⟨by decide, ⟨_, .inl ⟨rfl, rfl, rfl, rfl, rfl⟩⟩, ⟨_, .inr (.inl ⟨rfl, rfl, rfl, rfl, rfl⟩)⟩,
    ⟨_, .inr (.inr (.inl ⟨rfl, rfl, rfl, rfl, rfl⟩))⟩,
    ⟨_, .inr (.inr (.inr (.inl ⟨rfl, rfl, rfl, 0, { line0 with state := .launched 4 5 6 }, 5, 6, 5, rfl, by decide +kernel,
      rfl, by decide +kernel, rfl, rfl⟩)))⟩, by decide +kernel,
    ⟨_, .inr (.inr (.inr (.inr ⟨rfl, rfl, rfl, rfl, 0, 41, 9, _, rfl, rfl, rfl, rfl, .inl ⟨_, rfl, rfl, rfl, rfl⟩⟩)))⟩,
    ⟨_, .inr (.inr (.inr (.inr ⟨rfl, rfl, rfl, rfl, 0, 41, 9, _, rfl, rfl, rfl, rfl,
      .inr ⟨.inr (.inl (by decide)), rfl⟩⟩)))⟩⟩

/-- The scan monitor watches tray 5, 1,200 steps short of the arch, with this lead. -/
def watching (lead : Nat) : State := { run with arch := { run.arch with mon := some { tray := 5, lead := lead } } }

theorem witness_ScanFired :
    (queued 15 run).link.timing.length < 16 ∧ 16 ≤ (queued 16 run).link.timing.length ∧
      [1199, 1200, 1299, 1300].map (fun n => (watching n).scanDecision 0) = [.stay, .fire, .fire, .miss] ∧
      (watching 0).tracker.geo = some loop16 ∧ 0 < (watching 0).trays.length ∧ (fireScan 5 (watching 1200)).Following 5 6 := by
  refine ⟨by decide, by decide, by decide +kernel, rfl, by decide, ⟨0, by decide +kernel, by decide +kernel, ?_, by omega⟩⟩
  exact inService _ _ (Tray.blank .empty) (by decide +kernel) (by decide)

/-- A manifest of one tag, 11 for cabin 7214, its rebuild at the last bucket. -/
def manifest1 : Manifest :=
  { (Manifest.powerOn.insertAt (wayKey 11 0) (entry 11 7214 false)) with
    rebuild := some { scanPoint := 1020, fresh := [(11, 1)] } }

theorem manifest1_counts (limit : Nat) (h : 11 < limit) : manifest1.Counts [(11, 1)] limit := by
  intro cell
  have he : manifest1.entries = [(88, entry 11 7214 false)] := by decide +kernel
  by_cases hc : cell = 11
  · subst hc
    exact .inr (by simp [Manifest.cellCount, he, counterAt, Table.get, cellOf, bucketOf, entry, Config.cells, Config.buckets, h])
  · refine .inr ?_
    have h1 : ¬ 11 = cell := fun e => hc e.symm
    simp [Manifest.cellCount, he, counterAt, Table.get, cellOf, bucketOf, entry, Config.cells, Config.buckets, h1]

theorem manifest1_law : manifest1.Law := by
  have he : manifest1.entries = [(88, entry 11 7214 false)] := by decide +kernel
  have hf : manifest1.filter = [(11, 1)] := by decide +kernel
  have hr : manifest1.rebuild = some { scanPoint := 1020, fresh := [(11, 1)] } := rfl
  have form : FilterForm [(11, 1)] := by unfold FilterForm; decide
  refine ⟨by rw [he]; decide, by rw [he]; decide, by rw [he]; decide, by rw [hf]; exact form, ?_, ?_⟩
  · rw [hf]; exact manifest1_counts _ (by decide)
  · intro r h
    rw [hr] at h
    cases h
    exact ⟨by decide, form, manifest1_counts _ (by decide)⟩

/-- The part with this manifest. -/
def held (m : Manifest) (s : State) : State := { s with manifest := m }

theorem witness_FilterHidesNothing :
    manifest1.Law ∧ (88, entry 11 7214 false) ∈ manifest1.entries ∧
      manifest1.lookupResult 11 = .of (entry 11 7214 false) ∧ (∀ x ∈ manifest1.entries, x.2.tag ≠ 12) ∧
      manifest1.freeKey 11 = some 89 ∧ manifest1.rebuild.isSome = true :=
  ⟨manifest1_law, by decide +kernel, by decide +kernel, by decide +kernel, by decide +kernel, rfl⟩

/-- With no rebuild running: the counter of tag 12 is 0, that of tag 4,104 counts tag 11 alone, and tag 11 has its entry; an insert while one runs keeps the law. -/
theorem witness_FilterHidesNothing_idle :
    ({ manifest1 with rebuild := none } : Manifest).Law ∧
      [12, 4104, 11].map (fun tag => (counterAt manifest1.filter (tag % 4093), manifest1.entries.any (fun x => x.2.tag == tag))) =
        [(0, false), (1, false), (1, true)] ∧
      run.arch.lapLimit = some 3 ∧ (3 : Nat) < 4 ∧ ∀ limit ∈ run.arch.lapLimit, 3 ≤ limit := by
  refine ⟨⟨manifest1_law.1, manifest1_law.2.1, manifest1_law.2.2.1, manifest1_law.2.2.2.1, manifest1_law.2.2.2.2.1, ?_⟩,
    by decide +kernel, rfl, by decide, by decide⟩
  intro r h
  cases h

/-- Bucket 11 is full of other tags. -/
def fullManifest : Manifest :=
  (List.range 8).foldl (fun m n => m.insertAt (wayKey 11 n) (entry (11 + 1021 * (n + 1)) 7214 true)) Manifest.powerOn

theorem witness_EntriesPutAndDeleted :
    (held manifest1 run).mayServe hdr (.mput (some ⟨1, [{ putArg with tag := 11 }]⟩)) = true ∧
      (held manifest1 run).mayServe hdr (.mdel (some ⟨1, [11]⟩)) = true ∧
      [0, 17].all (fun n => n == 0 || decide (16 < n)) = true ∧ [0, 33].all (fun n => n == 0 || decide (32 < n)) = true ∧
      [run, idleSt].all (fun s => s.mayServe hdr (.mput none) && s.mayServe hdr (.mdel none) &&
        s.mayServe hdr (.mput (some ⟨17, []⟩)) && s.mayServe hdr (.mdel (some ⟨33, []⟩)) &&
        s.mayServe hdr (.mdel (some ⟨1, [11]⟩))) = true ∧
      [1, 16].all (fun n => decide (1 ≤ n) && decide (n ≤ 16)) = true ∧ idleSt.mode = .idle ∧ run.mode ≠ .idle ∧
      ((List.replicate 16 putArg).length = 16 ∧ (List.replicate 32 11).length = 32 ∧
        (held manifest1 run).mayServe hdr (.mput (some ⟨16, List.replicate 16 putArg⟩)) = true ∧
        (held manifest1 run).mayServe hdr (.mdel (some ⟨32, List.replicate 32 11⟩)) = true) ∧
      (putArg.cabin ≤ 9999 ∧ putArg.group ≤ 255 ∧ putArg.priority ≤ 1 ∧ putArg.oversize ≤ 1) ∧
      (held manifest1 run).manifest.live 11 = some (88, entry 11 7214 false) ∧
      (held manifest1 run).manifest.live 999999999 = none ∧
      (held manifest1 run).manifest.freeKey 999999999 = some (wayKey (bucketOf 999999999) 0) ∧
      (held fullManifest run).manifest.live 11 = none ∧ (held fullManifest run).manifest.freeKey 11 = none ∧
      FilterForm manifest1.filter := by
  refine ⟨by decide, by decide, by decide, by decide, by decide, by decide, rfl, by decide, by decide, by decide,
    by decide +kernel, by decide +kernel, by decide +kernel, by decide +kernel, by decide +kernel, ?_⟩
  unfold FilterForm
  decide +kernel

def strayOf (serial tag : Nat) (reason : StrayReason) : StrayRec :=
  { serial := serial, tag := tag, tag2 := 0, reason := reason, tray := 4, lap := 1, chute := 0, second := 5, repeats := 1
    resolved := false, resolvedTag := 0, resolvedCabin := 0 }

/-- The stray list holds a NO_READ record and a SCREENING_HOLD record of tag 11. -/
def strayed (s : State) : State :=
  { s with strays := { s.strays with recs := [strayOf 1 0 .noRead, strayOf 2 11 .screeningHold], nextSerial := 3 } }

theorem witness_EntriesHeldAndReleased :
    (held manifest1 run).mayServe hdr (.hold (some 11)) = true ∧ (held manifest1 run).mayServe hdr (.rlse (some 11)) = true ∧
      idleSt.mode = .idle ∧ run.mode ≠ .idle ∧ (999999999 : Nat) < 1000000000 ∧
      (held manifest1 run).manifest.live 11 = some (88, entry 11 7214 false) ∧ (entry 11 7214 false).hold = false ∧
      (held manifest6 run).manifest.live 16 = some (wayKey 16 0, entry 16 0 true) ∧ (entry 16 0 true).hold = true ∧
      (held manifest1 run).manifest.live 999999999 = none ∧ ((held manifest1 run).manifest.freeKey 999999999).isSome = true ∧
      (held fullManifest run).manifest.live 11 = none ∧ (held fullManifest run).manifest.freeKey 11 = none ∧
      (strayed run).strays.recs = [strayOf 1 0 .noRead] ++ strayOf 2 11 .screeningHold :: [] ∧
      (∀ x ∈ [strayOf 1 0 .noRead], x.tag ≠ 11 ∧ x.resolvedTag ≠ 11) ∧
      (strayOf 2 11 .screeningHold).resolved = false ∧ (strayOf 2 11 .screeningHold).tag = 11 ∧
      ∀ x ∈ (strayed run).strays.recs, x.tag ≠ 12 ∧ x.resolvedTag ≠ 12 := by decide +kernel

theorem witness_FilterRebuild :
    run.mayServe hdr .fbld = true ∧ run.mode ≠ .idle ∧ idleSt.mode = .idle ∧ run.manifest.rebuild = none ∧
      (held manifest1 run).manifest.rebuild = some { scanPoint := 1020, fresh := [(11, 1)] } ∧
      (held { manifest1 with rebuild := some { scanPoint := 1019, fresh := [(11, 1)] } } run).manifest.rebuild =
        some { scanPoint := 1019, fresh := [(11, 1)] } ∧ FilterForm [(11, 1)] := by
  refine ⟨by decide, by decide, rfl, rfl, rfl, rfl, ?_⟩
  unfold FilterForm
  decide

theorem witness_ManifestLawIsKept :
    (held manifest1 run).manifest.Law ∧ goesOn (step { (held manifest1 run) with pending := [.bucketScan] }) = true :=
  ⟨manifest1_law, by decide +kernel⟩

/-- A disabled rule and a rule whose chute is out of service stand before the rule that is taken. -/
def rules3 : List Rule := [Rule.blank, { anyTo0 with action := .toChute 1 }, anyTo0]

def placed11 : Placed := { tag := 11, group := 0, priority := false, oversize := false, zone := 1, deck := 6, sec := 2 }

theorem witness_FirstRuleTaken :
    scanRules [chuteAt 600 20 2 .opened] (Match.fits placed11) rules3 =
        ([Rule.blank, { anyTo0 with action := .toChute 1, passed := 1 }, { anyTo0 with taken := 1 }], some (.chute 0)) ∧
      scanRules [chuteAt 600 20 2 .closed] (Match.fits placed11) rules3 =
        ([Rule.blank, { anyTo0 with action := .toChute 1, passed := 1 }, { anyTo0 with passed := 1 }], none) := by
  decide +kernel

/-- Zone 0 ends at 7213, zone 1 at 7214. -/
def zoned (m : Mode) (d : DefaultAction) (rules : List Rule) (set : List Nat) : State :=
  let s := ready m .tracking
  { s with
    router :=
      { s.router with
        zones := ⟨7213, 5, 1⟩ :: ⟨7214, 6, 2⟩ :: List.replicate 30 ⟨0, 1, 0⟩
        rules := rules, dflt := d, straySet := set } }

def scanOf (s : State) : Option Taken :=
  (scanRules s.carts.chutes
    (Match.fits placed11)
    s.router.rules).2

def noRead : Rule := { anyTo0 with mtch := .reason .noRead }

def strayScanOf (s : State) : Option Taken := (scanRules s.carts.chutes (Match.fitsStray .noRead) s.router.rules).2

theorem witness_RouteResult :
    (∀ z ∈ (zoned .sorting .stray [] []).router.zones, z.ending < 7215) ∧
      (zoned .sorting .stray [] []).router.zones[1]? = some ⟨7214, 6, 2⟩ ∧ 7214 ≤ 7214 ∧
      (∀ w ∈ (zoned .sorting .stray [] []).router.zones[0]?, w.ending < 7214) ∧
      scanOf (zoned .sorting .stray [anyTo0] []) = some (.chute 0) ∧
      scanOf (zoned .sorting .stray [{ anyTo0 with action := .recirculate }] []) = some .recirculate ∧
      scanOf (zoned .sorting .stray [{ anyTo0 with action := .stray }] []) = some .stray ∧
      scanOf (zoned .draining .recirculate [] [0]) = none ∧
      [noRead, { noRead with action := .recirculate }, { noRead with action := .stray }, anyTo0].map
          (fun r => strayScanOf (zoned .sorting .stray [r] [])) =
        [some (.chute 0), some .recirculate, some .stray, none] ∧
      (zoned .sorting .recirculate [] []).router.dflt = .recirculate ∧ (zoned .sorting .recirculate [] []).mode ≠ .draining ∧
      (zoned .draining .stray [] []).router.dflt = .stray ∧ (zoned .draining .stray [] []).mode = .draining ∧
      chooseChute (zoned .draining .recirculate [] [0]).carts.chutes [0] = some 0 ∧
      chooseChute (zoned .draining .recirculate [] [63]).carts.chutes [63] = none ∧
      -- OUT_OF_PLAN meets its REASON rule; a REASON rule's RECIRCULATE in DRAINING
      [(.sorting, Action.toChute 0), (.draining, .recirculate), (.sorting, .recirculate), (.sorting, .stray)].map
          (fun x : Mode × Action =>
            let s := zoned x.1 .stray [{ anyTo0 with mtch := .reason .outOfPlan, action := x.2 }] []
            (s.mode, (scanRules s.carts.chutes (Match.fitsStray .outOfPlan) s.router.rules).2)) =
        [(.sorting, some (.chute 0)), (.draining, some .recirculate), (.sorting, some .recirculate),
          (.sorting, some .stray)] := by decide +kernel

def zones32 : List Zone := List.replicate 32 ⟨9999, 20, 3⟩

theorem witness_TablesLoaded :
    setupSt.mayServe hdr (.zload (some zones32)) = true ∧ zones32.length = 32 ∧ run.mode ∈ [Mode.sorting, .draining, .drained] ∧
      setupSt.mode ∈ [Mode.idle, .setup, .shadow] ∧
      (∀ z ∈ zones32, z.ending ≤ 9999 ∧ 1 ≤ z.deck ∧ z.deck ≤ 20 ∧ z.sec ≤ 3) ∧
      [(⟨10000, 1, 0⟩ : Zone), ⟨0, 0, 0⟩, ⟨0, 21, 0⟩, ⟨0, 1, 4⟩].all (fun z =>
        decide (9999 < z.ending ∨ z.deck = 0 ∨ 20 < z.deck ∨ 3 < z.sec)) = true ∧
      [(0, 1, 0), (0, 16, 1), (48, 16, 1), (63, 1, 1)].all (fun x =>
        let a : RloadArg := ⟨x.1, x.2.1, x.2.2, List.replicate x.2.1 ruleArg⟩
        let s := { setupSt with router := { setupSt.router with staging := List.replicate x.1 Rule.blank } }
        s.mayServe hdr (.rload (some a)) && decide (a.rules.length = a.count) && decide (a.final ≤ 1) &&
          decide (1 ≤ a.count) && decide (a.count ≤ 16) && decide (a.first + a.count ≤ 64) &&
          (checkRules a.rules).isSome && decide (a.first = 0 ∨ s.router.staging.length = a.first)) = true ∧
      [(0, 0), (0, 17), (64, 1), (49, 16), (5, 1)].all (fun x =>
        decide (x.2 = 0 ∨ 16 < x.2 ∨ 63 < x.1 ∨ 64 < x.1 + x.2 ∨ (x.1 ≠ 0 ∧ setupSt.router.staging.length ≠ x.1))) = true ∧
      checkRules [{ ruleArg with action := 5 }] = none ∧
      setupSt.mayServe hdr (.rset (some ⟨63, ruleArg⟩)) = true ∧ setupSt.mode ≠ .idle ∧ idleSt.mode = .idle ∧
      (checkRule ruleArg).isSome = true ∧ checkRule { ruleArg with enabled := 2 } = none ∧ (63 : Nat) < 64 := by
  decide +kernel

/-- Chute 0 with this configuration holds the order of tray 7, routed with tag 5, its monitor with this lead; tray 7 stands 2,100 steps short of 600 on a loop of 3,200. -/
def orderAt (c : ChuteCfg → ChuteCfg) (kind : RouteKind) (m : Mode) (lead n : Nat) (d : Nat) : State :=
  let s := State.withTrack (queued n (ready m .tracking)) (fun t => { t with disp := d })
  let base := chuteAt 600 20 2 .opened
  State.withTray
    (State.withChute s
      { base with
        cfg := c base.cfg
        queue := [{ tray := 7, seq := 1, kind := kind, reason := if kind = .deck then none else some .noRead, tag := 5 }]
        awaiting := List.replicate 3 ⟨1, 1, 41, 9⟩, mon := some { tray := 7, lead := lead } })
    7
    { bag .routed 5 with
      target := some 0, seq := some 1, reason := if kind = .deck then none else some .noRead }

/-- The same with an order of tray 8 behind it, 200 steps farther away, and four confirmations, the oldest of tray 1. -/
def followed (m : Mode) (lead n : Nat) : State :=
  let s := orderAt id .deck m lead n 0
  State.withTray
    (State.withTray
      { s with
        carts :=
          { s.carts with
            chutes := s.carts.chutes.map (fun c =>
              { c with
                queue := c.queue ++ [{ tray := 8, seq := 2, kind := .deck, reason := none, tag := 6 }]
                awaiting := List.replicate 4 ⟨1, 1, 41, 9⟩ }) } }
      8 { bag .routed 6 with target := some 0, seq := some 2 })
    1 { bag .dropping 7 with target := some 0, seq := some 1, serial := some 41 }

theorem witness_DropFired :
    [orderAt id .deck .sorting 2100 15 0, orderAt id .stray .draining 2199 0 0,
        orderAt (fun c => { c with confirm := 0 }) .deck .sorting 2100 15 0,
        orderAt (fun c => { c with watermark := 1 }) .deck .sorting 2100 15 0, followed .sorting 2100 15].all (fun s =>
      s.carts.chutes.all (fun c =>
          ((c.queue.map Order.tray).head? == some 7) && (c.mon.map Monitor.tray == some 7) &&
            decide (c.state = .opened)) &&
        decide (s.carts.chutes.length = 1) && ((s.trays[7]?).map Tray.state == some .routed) &&
        decide (s.mode = .sorting ∨ s.mode = .draining) && decide (s.link.timing.length < 16) &&
        decide (s.headDecision 0 0 = .fire)) = true ∧
      -- a list of 3 confirmations, and one of 4 whose oldest tray is still DROPPING
      (orderAt id .deck .sorting 2100 15 0).carts.chutes.map (fun c => c.awaiting.length) = [3] ∧
      (followed .sorting 2100 15).carts.chutes.map (fun c => (c.awaiting.length, c.awaiting.head?.map Confirmation.tray)) =
        [(4, some 1)] ∧
      ((followed .sorting 2100 15).trays[1]?).map Tray.state = some .dropping := by decide +kernel

theorem witness_OrderNotDropped :
    [(orderAt id .deck .sorting 2099 0 0).headDecision 0 0, (orderAt id .deck .shadow 2100 0 0).headDecision 0 0,
        (orderAt id .deck .sorting 2199 16 0).headDecision 0 0, (orderAt id .deck .sorting 2200 0 0).headDecision 0 0] =
      [.stay, .fire, .fire, .miss] ∧
      (orderAt id .deck .shadow 2100 0 0).mode = .shadow ∧ (orderAt id .deck .sorting 2199 16 0).mode = .sorting ∧
      16 ≤ (orderAt id .deck .sorting 2199 16 0).link.timing.length ∧
      ((orderAt id .deck .sorting 2199 16 0).trays[7]?).map Tray.state = some .routed ∧
      -- one order behind the head: it arms at lead 0 and waits
      [(followed .shadow 2100 0).headDecision 0 0, (followed .sorting 2200 0).headDecision 0 0] = [.fire, .miss] ∧
      (followed .shadow 2100 0).isTracking = true ∧ leadAt (followed .shadow 2100 0).tracker.speed 117 = 0 ∧
      loop16.approach 0 8 600 = 2300 := by decide +kernel

theorem witness_ManifestChangeReaches :
    (let s := routing [anyTo0];
      s.trayOfTag 5 = some (7, { bag .routed 5 with target := some 0, seq := some 1 }) ∧
        (∃ o ∈ s.carts.chutes.flatMap Chute.queue, o.tray = 7)) ∧
      (∃ o ∈ (on300 0 0).carts.chutes.flatMap Chute.queue, o.tray = 60) ∧
      (∀ c ∈ (on300 0 0).carts.chutes, ∀ m ∈ c.mon, m.tray ≠ 60) ∧
      (on300 0 0).trayOfTag 400020001 = some (60, { bag .routed 400020001 with target := some 0, seq := some 4102 }) ∧
      dropped57.trayOfTag 400012345 =
        some (57, { bag .dropping 400012345 with target := some 0, seq := some 4101, serial := some 41 }) ∧
      (∀ x ∈ dropped57.trays, x.tag ≠ 9) ∧ (∀ c ∈ dropped57.carts.chutes, ∀ e ∈ c.cart, e.tag ≠ 9) ∧
      (let s := State.withTray dropped57 57 (Tray.blank .empty);
        s.trayOfTag 400012345 = none ∧ (s.carts.chutes.all (fun c => c.hasCart && c.serial == some 41)) = true ∧
          s.cartOfTag 400012345 = some (0, 41, ⟨400012345, 7214, 57, 4101, .pending, false⟩)) ∧
      -- the tag stands in a cart and on a tray that is none of ROUTED, DROPPING and DOUBT
      (let s := State.withTray dropped57 57 (bag .loaded 400012345);
        s.trayOfTag 400012345 = some (57, bag .loaded 400012345) ∧ (s.cartOfTag 400012345).isSome = true) ∧
      -- the order of tray 57 is the one that the monitor watches
      (on300 0 0).trayOfTag 400012345 = some (57, { bag .routed 400012345 with target := some 0, seq := some 4101 }) ∧
      (on300 0 0).carts.chutes.all (fun c => c.mon.any (fun m => m.tray == 57)) = true := by decide +kernel

/-- The part with chute 0 in this state and prior state, its list and queue empty. -/
def chuted (st : ChuteState) (prior : Option ChuteState) : State :=
  State.withChute run { chuteAt 600 20 2 st with prior := prior }

theorem capacityLaw_of (c : Chute) (h : 1 ≤ c.cfg.capacity ∧ c.count + c.queued < c.cfg.capacity ∧ c.queue = [] ∧
    c.awaiting.length ≤ 4) : c.CapacityLaw := by
  obtain ⟨h1, h2, h3, h4⟩ := h
  refine ⟨h1, by omega, fun _ => h2, fun _ => h3, ?_, h4⟩
  simp [Chute.queued, h3]

theorem witness_ChuteFramesChecked :
    run.CapacityLaw ∧ 63 < 64 ∧ run.carts.chutes[63]? = none ∧ run.carts.chutes[0]? = some (chuteAt 600 20 2 .opened) ∧
      (chuteAt 600 20 2 .opened).cfg.station = 20 ∧ (chuteAt 600 20 2 .opened).cfg.station ≠ 21 := by
  refine ⟨⟨?_, by decide, by decide, by decide⟩, by decide, by decide, rfl, rfl, by decide⟩
  intro c hc
  have : c = chuteAt 600 20 2 .opened := by simpa [run, ready] using hc
  exact this ▸ capacityLaw_of _ (by decide)

theorem witness_ConfirmationsEnd :
    (run.carts.chutes[0]?).map Chute.awaiting = some [] ∧
      (dropped57.carts.chutes[0]?).map Chute.awaiting = some [⟨57, 4101, 41, 4000⟩] ∧
      (dropped57.trays[57]?).map Tray.state = some .dropping ∧
      ((State.withTray dropped57 57 (Tray.blank .empty)).trays[57]?).map Tray.state = some .empty := by decide +kernel

theorem witness_CartsSwapped :
    [(chuted .opened none), (chuted .full none), (chuted .faulted (some .opened)), (chuted .faulted (some .full)),
        (chuted .swap none), (chuted .faulted (some .swap)), (chuted .closed none), (chuted .faulted (some .closed))].all
      (fun s => s.carts.chutes.all (fun c =>
        decide (c.report = .none) && decide (c.queue = []) && decide (1 ≤ c.cfg.capacity)) && s.carts.chutes.length == 1) = true ∧
      ((chuted .swap none).carts.chutes.map (fun c => { c with report := .queued })).all (fun c =>
        decide (c.state = .swap) && decide (c.report ≠ .none)) = true := by decide +kernel

theorem witness_ChuteFaults :
    (chuted .opened none).carts.chutes.all (fun c => decide (c.state = .opened) && c.cfg.stopOnFault) = true ∧
      (chuted .faulted (some .full)).carts.chutes.all (fun c => decide (c.state = .faulted ∧ c.prior = some .full)) = true ∧
      (chuted .faulted (some .closed)).carts.chutes.all (fun c => decide (c.prior = some .closed)) = true ∧
      (chuted .faulted (some .swap)).carts.chutes.all (fun c =>
        decide (c.prior = some .swap ∧ c.present = false)) = true ∧
      (let c := { chuteAt 600 20 2 .faulted with prior := some .swap, present := true };
        c.report = .none ∧ c.present = true ∧ c.queue = [] ∧ 1 ≤ c.cfg.capacity) ∧
      run.tracker.latch = none := by decide +kernel

theorem witness_ChuteCommands :
    run.mayServe hdr (.ccmdOpen (.of 0)) = true ∧ run.mayServe hdr (.ccmdClose 0) = true ∧
      run.mayServe hdr (.ccmdForceClose 0) = true ∧ run.mayServe hdr (.ccmdClearFault 0) = true ∧ idleSt.mode = .idle ∧
      run.mode ≠ .idle ∧ 63 < 64 ∧ 63 ≤ 63 ∧ run.carts.chutes[63]? = none ∧
      (chuted .closed none).carts.chutes.all (fun c => decide (c.state = .closed ∧ c.report = .none ∧ c.queue = [])) = true ∧
      (chuteAt 600 20 2 .opened).hasCart = true ∧ (chuteAt 600 20 2 .swap).hasCart = false ∧
      [ActionArg.short, .badAction 0, .badAction 255].all (fun a =>
        run.mayServe hdr (.ccmdOpen a) && idleSt.mayServe hdr (.ccmdOpen a)) = true := by decide +kernel

/-- n chutes of this capacity, from past the arch on, each at its own station. -/
def chuteArgs (n capacity : Nat) : List ChuteArg :=
  (List.range n).map (fun i => { chuteArg with loc := 600 + i, station := 20 + i, capacity := capacity })

theorem witness_ChuteTableInstalled :
    run.mode ≠ .idle ∧ run.mode ≠ .setup ∧ setupSt.mode = .setup ∧ (ready .idle .unconfigured).mode = .idle ∧
      (State.withTrack setupSt (fun t => { t with geo := none })).tracker.geo = none ∧
      setupSt.tracker.geo = some loop16 ∧
      [(0, 1, 0), (0, 16, 1), (48, 16, 1)].all (fun x =>
        let a : CcfgArg := ⟨x.1, x.2.1, x.2.2, chuteArgs x.2.1 2⟩
        let s := { setupSt with carts := { setupSt.carts with chutes := [], staging := List.replicate x.1 chuteArg } }
        s.mayServe hdr (.ccfg (some a)) && decide (a.chutes.length = a.count) && decide (a.final ≤ 1) &&
          decide (1 ≤ a.count ∧ a.count ≤ 16 ∧ a.first + a.count ≤ 64 ∧ (a.first = 0 ∨ s.carts.staging.length = a.first)) &&
          decide (∀ c ∈ a.chutes, c.loc < loop16.trays * loop16.pitch ∧ 1 ≤ c.window ∧ c.window ≤ 255 ∧
            (c.side = 1 ∨ c.side = 2) ∧ 1 ≤ c.capacity ∧ c.capacity ≤ 255 ∧
            (c.confirm = 0 ∨ (50 ≤ c.confirm ∧ c.confirm ≤ 2000)) ∧ 1 ≤ c.station ∧ c.station ≤ 126 ∧ c.stopOnFault ≤ 1)) =
        true ∧
      [{ chuteArg with loc := 3200 }, { chuteArg with window := 0 }, { chuteArg with side := 3 },
          { chuteArg with capacity := 0 }, { chuteArg with confirm := 1 }, { chuteArg with confirm := 49 },
          { chuteArg with confirm := 2001 }, { chuteArg with station := 0 }, { chuteArg with station := 127 },
          { chuteArg with stopOnFault := 2 }].all (fun c =>
        decide (16 * 200 ≤ c.loc ∨ c.window = 0 ∨ 255 < c.window ∨ (c.side ≠ 1 ∧ c.side ≠ 2) ∨ c.capacity = 0 ∨
          255 < c.capacity ∨ (1 ≤ c.confirm ∧ c.confirm ≤ 49) ∨ 2000 < c.confirm ∨ c.station = 0 ∨ 126 < c.station ∨
          1 < c.stopOnFault)) = true ∧
      (∃ c ∈ setupSt.carts.chutes, c.state ≠ .closed) ∧
      (let s := State.withChute setupSt (chuteAt 600 20 2 .closed);
        (∀ c ∈ s.carts.chutes, c.state = .closed ∧ c.report = .none ∧ c.awaiting = []) ∧
          4096 < ((chuteArgs 17 241).map ChuteArg.capacity).sum ∧ ((chuteArgs 32 128).map ChuteArg.capacity).sum ≤ 4096 ∧
          -- in loop order or past a line; stations of their own, or the arch's
          ChutesInOrder loop16 s.lines (chuteArgs 16 2) ∧
          ¬ ChutesInOrder loop16 s.lines ((chuteArgs 16 2).map (fun c => { c with loc := 2600 })) ∧
          ChuteStationsOwn loop16 s.link.own s.lines (chuteArgs 16 2) ∧
          ¬ ChuteStationsOwn loop16 s.link.own s.lines ((chuteArgs 16 2).map (fun c => { c with station := 3 }))) := by
  unfold ChutesInOrder ChuteStationsOwn
  decide +kernel

theorem witness_CapacityLawIsKept :
    (State.withChute run (chuteAt 600 20 2 .opened)).CapacityLaw ∧
      goesOn (step { (State.withChute run (chuteAt 600 20 2 .opened)) with pending := [.cflt 20 (.full 0)] }) = true := by
  refine ⟨⟨?_, by decide, by decide, by decide⟩, by decide +kernel⟩
  intro c hc
  have : c = chuteAt 600 20 2 .opened := by simpa [State.withChute] using hc
  exact this ▸ capacityLaw_of _ (by decide)

/-- n stray records without a tag, then one of tag 11. -/
def strays (n next : Nat) (p : Policy) : State :=
  { run with
    strays :=
      { recs := (List.range n).map (fun i => strayOf (i + 1) 0 .noRead) ++ [strayOf 65535 11 .screeningHold]
        nextSerial := next, lost := 0, policy := p } }

theorem witness_StrayRecorded :
    [(510, 1), (511, 65535)].all (fun x =>
        decide ((strays x.1 x.2 .keepOldest).strays.recs.length ≤ 512) && decide (1 ≤ x.2) && decide (x.2 ≤ 65535)) = true ∧
      (strays 510 1 .keepOldest).strays.recs.length < 512 ∧ (strays 511 1 .keepOldest).strays.recs.length = 512 ∧
      (strays 511 1 .dropOldest).strays.recs.head? = some (strayOf 1 0 .noRead) ∧
      (strays 1 1 .keepOldest).strays.recs = [strayOf 1 0 .noRead] ++ strayOf 65535 11 .screeningHold :: [] ∧
      (∀ x ∈ (strays 511 1 .keepOldest).strays.recs, x.tag ≠ 12 ∧ x.resolvedTag ≠ 12) ∧
      (∀ x ∈ (strays 510 511 .keepOldest).strays.recs, x.serial ≠ 511) ∧
      -- after 65,534 the counter wraps past the 511 records that bear 65,535 and 1 to 510
      (recordStray { tag := 0, tag2 := 0, reason := .noRead, tray := 4, lap := 1, chute := 0 }
        (strays 510 65534 .keepOldest)).strays.nextSerial = 511 ∧
      Nat.repeat (fun v => if v < 65535 then v + 1 else 1) 512 65534 = 511 ∧
      -- a deck route of tag 11 finds its record in SORTING, and none is looked for in SHADOW
      (strays 1 1 .keepOldest).mode = .sorting ∧ (strayOf 65535 11 .screeningHold).tag = 11 ∧
      ((ready .shadow .tracking).mode ≠ .sorting ∧ (ready .shadow .tracking).mode ≠ .draining) := by decide +kernel

/-- Ten stray records. -/
def ten : State := strays 9 511 .keepOldest

theorem witness_StrayRequests :
    ten.mayServe hdr (.sdel (some 1)) = true ∧ ten.mayServe hdr (.srd (some ⟨0, 16⟩)) = true ∧
      ten.mayServe hdr (.sres (some ⟨1, 11, 9999⟩)) = true ∧
      (ten.mayServe hdr (.sdel none) && ten.mayServe hdr (.srd none) && idleSt.mayServe hdr (.sres none)) = true ∧
      ten.strays.recs = [strayOf 1 0 .noRead] ++ strayOf 2 0 .noRead :: ten.strays.recs.drop 2 ∧
      (∀ x ∈ [strayOf 1 0 .noRead], x.serial ≠ 2) ∧ (∀ x ∈ ten.strays.recs, x.serial ≠ 10) ∧
      -- SRD: the first page from serial 0 and the last from serial 3
      ten.strays.recs = [] ++ ten.strays.recs.take 8 ++ ten.strays.recs.drop 8 ∧ (ten.strays.recs.take 8).length = min 8 16 ∧
      ten.strays.recs = ten.strays.recs.take 3 ++ ten.strays.recs.drop 3 ++ [] ∧
      (ten.strays.recs.drop 3).length < min 8 16 ∧ ((ten.strays.recs.drop 3).head?).map StrayRec.serial = some 4 ∧
      (∀ x ∈ ten.strays.recs.take 3, x.serial ≠ 4) ∧ [0, 17].all (fun n => n == 0 || decide (16 < n)) = true ∧
      -- SRES: another record holds the tag; none does
      (∃ x ∈ ten.strays.recs, x.serial ≠ 1 ∧ (x.tag = 11 ∨ x.resolvedTag = 11)) ∧
      (∀ x ∈ ten.strays.recs, x.serial ≠ 1 → x.tag ≠ 14 ∧ x.resolvedTag ≠ 14) ∧ ten.mode ≠ .idle ∧
      ({ ten with session := Session.powerOn }).mode = .idle ∧
      ten.manifest.live 11 = none ∧ (ten.manifest.freeKey 11).isSome = true ∧ fullManifest.live 11 = none ∧
      fullManifest.freeKey 11 = none ∧ manifest6.live 14 = some (wayKey 14 0, entry 14 3106 false) ∧
      (entry 14 3106 false).cabin ≠ 9999 := by decide +kernel

/-- Tables are loaded. -/
def loadedTables (s : State) : State := { s with router := { s.router with zonesLoaded := true, rulesLoaded := true } }

theorem witness_ModesEntered :
    idleSt.mayServe hdr (.modeOpen (.voyage 65535)) = true ∧ idleSt.mode = .idle ∧ run.mode ≠ .idle ∧
      [0, 65536].all (fun n => n == 0 || decide (65535 < n)) = true ∧ (∀ f ∈ idleSt.link.timing, f.body.isDrop = false) ∧
      (∀ f ∈ (queued 16 idleSt).link.timing, f.body.isDrop = false) ∧ setupSt.mayServe hdr .modeShadow = true ∧
      setupSt.mode = .setup ∧ setupSt.tracker.geo ≠ none ∧
      (State.withTrack setupSt (fun t => { t with geo := none })).tracker.geo = none ∧
      setupSt.mayServe hdr .modeSort = true ∧ (ready .drained .tracking).mode = .drained ∧
      (let s := loadedTables setupSt;
        s.carts.loaded = true ∧ s.router.zonesLoaded = true ∧ s.router.rulesLoaded = true ∧
          s.carts.chutes.all (fun c => c.state != .opened) = false) ∧
      setupSt.router.zonesLoaded = false ∧
      [ModeOpenArg.badAction 0, .badAction 255, .short].all (fun a =>
        idleSt.mayServe hdr (.modeOpen a) && run.mayServe hdr (.modeOpen a)) = true := by decide +kernel

theorem witness_ModesLeft :
    (ready .shadow .tracking).mayServe hdr .modeSetup = true ∧ (ready .shadow .tracking).mode = .shadow ∧
      (∀ f ∈ (queued 16 (ready .shadow .tracking)).link.timing, f.body.isDrop = false) ∧ run.mode ≠ .shadow ∧
      (orderAt id .deck .shadow 2100 0 0).mode = .shadow ∧
      (((orderAt id .deck .shadow 2100 0 0).trays[7]?).map Tray.state = some .routed) ∧
      run.mayServe hdr .modeDrain = true ∧ run.mode = .sorting ∧
      (State.withLine run 3 { line0 with state := .held 5 6 }).lines[3]? = some { line0 with state := .held 5 6 } ∧
      (∀ x ∈ run.trays, x.state = .empty ∨ x.state = .disabled) ∧ (∀ f ∈ run.link.timing, f.body.isDrop = false) ∧
      (∃ x ∈ dropped57.trays, x.state ≠ .empty ∧ x.state ≠ .disabled) ∧ (∃ f ∈ dropped57.link.timing, f.body.isDrop = true) ∧
      (ready .drained .tracking).mayServe hdr .modeClose = true ∧ setupSt.mode = .setup ∧
      (ready .drained .tracking).mode = .drained ∧ (∀ c ∈ (ready .drained .tracking).carts.chutes, c.queue = []) ∧
      (∀ c ∈ (ready .drained .tracking).carts.chutes, c.hasCart = true) ∧
      -- a notice with one place left, and with none
      ((noticed 63 run).mgmt.notices.length < 64 ∧ 64 ≤ (noticed 64 run).mgmt.notices.length) ∧
      -- a FAULTED chute and one in SWAP, with a cart and without, a report that finds a place and one that waits
      ((chuteAt 600 20 2 .faulted).state = .faulted ∧ (chuteAt 600 20 2 .swap).state = .swap ∧ 7 + 0 < 8 ∧ ¬ 7 + 1 < 8) := by
  decide +kernel

theorem witness_QueueAndSessionLawsAreKept :
    (queued 16 (noticed 64 (replied 8 run))).BoundLaw ∧ (queued 16 (noticed 64 (replied 8 run))).SessionLaw ∧
      goesOn (step { (queued 16 (noticed 64 (replied 8 run))) with pending := [.brdy 9 (.full ⟨0, 1, 2⟩)] }) = true := by
  refine ⟨?_, ?_, by decide +kernel⟩
  · unfold State.BoundLaw; decide +kernel
  · exact sessionLaw_ready .sorting .tracking

/-- Tray 7 is ROUTED with its order, tray 3 DROPPING with its entry and its confirmation, tray 4 RESERVED for line 0, and two stray records are held. -/
def lawful : State :=
  let s := State.withLine (strayed run) 0 { line0 with state := .reserved 4 400012345 0, mon := some { tray := 4, lead := 0 } }
  State.withChute
    { s with
      trays := ((s.trays.set 4 { Tray.blank .reserved with source := some 0 }).set 7
        { bag .routed 5 with target := some 0, seq := some 2 }).set 3
        { bag .dropping 8 with target := some 0, seq := some 1, serial := some 41 } }
    { chuteAt 600 20 4 .opened with
      queue := [{ tray := 7, seq := 2, kind := .deck, reason := none, tag := 5 }], mon := some { tray := 7, lead := 0 }
      cart := [⟨8, 7214, 3, 1, .pending, false⟩], awaiting := [⟨3, 1, 41, 4000⟩] }

/-- What holds of every tray record, listed with its number, holds of each that is read. -/
theorem everyTray (s : State) (P : Nat → Tray → Prop) (h : ∀ y ∈ s.trays.zipIdx, P y.2 y.1) :
    ∀ (k : Nat) (x : Tray), s.trays[k]? = some x → P k x := by
  intro k x e
  exact h (x, k) (List.mem_iff_getElem?.2 ⟨k, by simp [e]⟩)

theorem lawful_chute (j : Nat) (c : Chute) (h : lawful.carts.chutes[j]? = some c) :
    j = 0 ∧ lawful.carts.chutes[0]? = some c := by
  match j with
  | 0 => exact ⟨rfl, h⟩
  | j + 1 => simp [lawful, State.withChute] at h

/-- A state that meets the laws of the tags, orders, confirmations, carts, lines and strays, and a step from it that goes on. -/
theorem witness_OrdersCartsLinesStrays :
    lawful.TagLaw ∧ lawful.OrderLaw ∧ lawful.ConfirmationLaw ∧ lawful.CartTagLaw ∧ lawful.LineLaw ∧ lawful.StrayLaw ∧
      goesOn (step { lawful with pending := [.homePulse] }) = true := by
  refine ⟨tagLaw_of _ 16 rfl (by decide +kernel), ⟨?_, ?_, ?_⟩, ⟨?_, ?_, ?_⟩, ⟨?_, ?_⟩, ⟨?_, ?_, ?_⟩, ?_, by decide +kernel⟩
  · intro j c hc
    obtain ⟨rfl, hc⟩ := lawful_chute j c hc
    obtain rfl := Option.some.inj hc
    refine ⟨by decide +kernel, fun o ho => ?_⟩
    obtain rfl := List.mem_singleton.1 ho
    exact ⟨_, rfl, rfl, rfl, rfl⟩
  · refine everyTray lawful _ fun y hy hs => ?_
    have e : y.1.target = some 0 ∧ y.2 = 7 :=
      (by decide +kernel : ∀ y ∈ lawful.trays.zipIdx, y.1.state = .routed → y.1.target = some 0 ∧ y.2 = 7) y hy hs
    exact ⟨0, _, e.1, rfl, _, List.mem_singleton.2 rfl, e.2.symm⟩
  · decide
  · intro j c hc
    obtain ⟨rfl, hc⟩ := lawful_chute j c hc
    obtain rfl := Option.some.inj hc
    refine ⟨by decide +kernel, fun o ho => ?_⟩
    obtain rfl := List.mem_singleton.1 ho
    exact ⟨_, rfl, rfl, rfl, rfl⟩
  · refine everyTray lawful _ fun y hy hs => ?_
    have e : y.1.target = some 0 ∧ y.2 = 3 :=
      (by decide +kernel : ∀ y ∈ lawful.trays.zipIdx, y.1.state = .dropping → y.1.target = some 0 ∧ y.2 = 3) y hy hs
    exact ⟨0, _, e.1, rfl, _, List.mem_singleton.2 rfl, e.2.symm⟩
  · decide
  · intro i j a b c d e f hc hd he hf _ _
    obtain ⟨rfl, hc⟩ := lawful_chute i c hc
    obtain ⟨rfl, hd⟩ := lawful_chute j d hd
    obtain rfl := Option.some.inj hc
    obtain rfl := Option.some.inj hd
    match a, b with
    | 0, 0 => exact ⟨rfl, rfl⟩
    | a + 1, _ => simp at he
    | _, b + 1 => simp at hf
  · intro j k c e x hc he hx _ ht
    obtain ⟨rfl, hc⟩ := lawful_chute j c hc
    obtain rfl := Option.some.inj hc
    obtain rfl := List.mem_singleton.1 he
    have := (by decide +kernel : ∀ y ∈ lawful.trays.zipIdx, 8 = y.1.tag →
      (y.1.state = .dropping ∨ y.1.state = .doubt) ∧ 3 = y.2 ∧ y.1.seq = some 1 ∧ y.1.target = some 0)
      (x, k) (List.mem_iff_getElem?.2 ⟨k, by simp [hx]⟩) ht
    exact ⟨this.1, this.2.1, this.2.2.1, this.2.2.2, rfl⟩
  · intro i l hl
    match i with
    | 0 =>
      obtain rfl := Option.some.inj hl
      exact ⟨⟨_, rfl, rfl, rfl⟩, _, rfl, rfl⟩
    | 1 => obtain rfl := Option.some.inj hl; rfl
    | 2 => obtain rfl := Option.some.inj hl; rfl
    | 3 => obtain rfl := Option.some.inj hl; rfl
    | i + 4 => simp [lawful, State.withChute, State.withLine, strayed, run, ready] at hl
  · refine everyTray lawful _ fun y hy hs => ?_
    have e : y.1.source = some 0 ∧ y.2 = 4 :=
      (by decide +kernel : ∀ y ∈ lawful.trays.zipIdx, y.1.state = .reserved → y.1.source = some 0 ∧ y.2 = 4) y hy hs
    exact ⟨0, _, 400012345, 0, e.1, rfl, by rw [e.2]⟩
  · refine everyTray lawful _ fun y hy hs => ?_
    exact absurd hs ((by decide +kernel : ∀ y ∈ lawful.trays.zipIdx, y.1.state ≠ .launching) y hy)
  · refine ⟨by decide, by decide, by decide, by decide, by decide, ?_⟩
    refine List.Pairwise.cons (fun x hx tag h0 h => ?_) (List.pairwise_singleton _ _)
    rcases h with h | h <;> exact absurd h.symm h0

/-- The report of chute 0 waits. -/
def waits : State :=
  let s := State.withChute run { chuteAt 600 20 2 .swap with report := .waiting }
  { s with carts := { s.carts with waiting := [{ voyage := 7, chute := 0, serial := 41, entries := [] }] } }

theorem witness_ReportLaw : waits.ReportLaw ∧ goesOn (step { waits with pending := [.upFrameTransmitted] }) = true := by
  refine ⟨⟨by decide, by decide, by decide, by decide, ?_⟩, by decide +kernel⟩
  intro j c hc
  match j with
  | 0 =>
    obtain rfl : { chuteAt 600 20 2 .swap with report := .waiting } = c := Option.some.inj hc
    exact ⟨by decide, by decide, by decide⟩
  | j + 1 => simp [waits, State.withChute] at hc

/-- A frame with the longest payload. -/
def longFrame : Frame := { dst := 127, src := 126, kind := 255, seq := 255, payload := List.replicate 240 0xA5#8 }

theorem witness_FrameRoundTrip :
    (1 ≤ longFrame.dst ∧ longFrame.dst ≤ 127 ∧ 1 ≤ longFrame.src ∧ longFrame.src ≤ 126 ∧ longFrame.kind ≤ 255 ∧
      longFrame.seq ≤ 255 ∧ longFrame.payload.length ≤ 240) ∧
      receiveFrame false (Frame.bytes { dst := 1, src := 1, kind := 0, seq := 0, payload := [] }) =
        .valid { dst := 1, src := 1, kind := 0, seq := 0, payload := [] } := by decide +kernel

/-- The fields of the longest lists fit, and one value too large does not; the counts and codes at the ends of their ranges. -/
theorem witness_FrameRoundTrip_fields :
    FieldsFit [(1, 255), (4, 4294967295), (2, 65535)] ∧ ¬ FieldsFit [(1, 256)] ∧
      FieldsFit (loopFields { loopArg with lines := List.replicate 4 ⟨236000, 255, 255, 126, 1⟩, straySet := [0, 1, 2, 63] }) ∧
      FieldsFit ([(1, 48), (1, 16), (1, 1)] ++ (List.replicate 16 chuteArg).flatMap chuteFields) ∧
      (List.replicate 16 chuteArg).length = 16 ∧ (zones32.length = 32) ∧
      FieldsFit (zones32.flatMap (fun z => [(2, z.ending), (1, z.deck), (1, z.sec)])) ∧
      (∀ m ∈ [MatchArg.zone 0 31, .deck 1 20 (some 3), .deck 1 20 none, .group 255, .flag 2, .tag 1 999999999, .reason 8, .any,
          .other 0, .other 8],
        FieldsFit (ruleFields { ruleArg with mtch := m, action := 2, targets := [0, 1, 2, 63] }) ∧
          ruleWritten { ruleArg with mtch := m }) ∧
      ¬ ruleWritten { ruleArg with mtch := .other 7 } ∧
      FieldsFit ((1, 16) :: (List.replicate 16 { putArg with tag := 4294967295 }).flatMap putFields) ∧
      FieldsFit ((1, 32) :: (List.replicate 32 999999999).map (fun n => (4, n))) ∧
      FieldsFit [(2, 65535), (4, 4294967295), (2, 65535)] ∧ (17 = 0 ∨ 16 < 17) ∧
      -- the parts of a report of 40 entries: 0 and 1, no third
      [0, 1, 2].map (fun p => decide (p = 0 ∨ 20 * p < 40)) = [true, true, false] := by
  have written : ∀ m ∈ [MatchArg.zone 0 31, .deck 1 20 (some 3), .deck 1 20 none, .group 255, .flag 2, .tag 1 999999999,
      .reason 8, .any, .other 0, .other 8], ruleWritten { ruleArg with mtch := m } := by
    simp [ruleWritten]
  have fit : ∀ m ∈ [MatchArg.zone 0 31, .deck 1 20 (some 3), .deck 1 20 none, .group 255, .flag 2, .tag 1 999999999,
      .reason 8, .any, .other 0, .other 8],
      FieldsFit (ruleFields { ruleArg with mtch := m, action := 2, targets := [0, 1, 2, 63] }) := by
    unfold FieldsFit
    decide +kernel
  refine ⟨?_, ?_, ?_, ?_, rfl, rfl, ?_, fun m hm => ⟨fit m hm, written m hm⟩, fun h => ?_, ?_, ?_, ?_, by decide, by decide⟩
  iterate 5 (unfold FieldsFit; decide +kernel)
  · have := h.1 7 rfl
    omega
  all_goals (unfold FieldsFit; decide +kernel)

theorem witness_LinkStates :
    [LinkState.down, .training, .up].all (fun st =>
        (State.withUp run (fun p => { p with state := st })).link.up.state == st &&
          (State.withDown run (fun p => { p with state := st })).link.down.state == st) = true ∧
      run.link.up.tx = none ∧ run.nextUp = none ∧ run.nextDown = none ∧ (noticed 1 run).nextUp ≠ none ∧
      (queued 1 run).nextDown ≠ none ∧ State.reset.link.up.tx ≠ none ∧
      -- the return of the DOWN port, where a fresh arming finds what it needs
      (let s := State.withDown run (fun p => { p with state := .training });
        s.link.down.state = .training ∧ s.isTracking = true ∧ s.arch.mon = none ∧ s.tracker.geo = some loop16) := by
  decide +kernel

theorem witness_LinkFaults :
    State.reset.link.up.state ≠ .up ∧ run.link.up.state = .up ∧ State.reset.link.down.state ≠ .up ∧
      dropped57.link.down.state = .up ∧ dropped57.tracker.latch = none ∧
      (after (.linkTimeout .down) dropped57).mgmt.notices.length < 64 ∧ dropped57.SessionLaw := by
  refine ⟨by decide, rfl, by decide, rfl, rfl, by decide +kernel, sessionLaw_ready .sorting .tracking⟩

def frameTo (dst src kind : Nat) (payload : List Byte) : Frame :=
  { dst := dst, src := src, kind := kind, seq := 9, payload := payload }

theorem witness_FramesReceived :
    run.link.up.state = .up ∧ State.reset.link.up.state = .training ∧
      (State.withUp run (fun p => { p with state := .down })).link.up.state = .down ∧
      receiveFrame false (List.replicate 8 0#8) = .malformed ∧ receiveFrame true (longFrame.bytes) = .malformed ∧
      receiveFrame false ((frameTo 126 1 0x53 []).body ++ [0#8, 0#8]) = .badCheck ∧
      [frameTo 126 126 0x53 [], frameTo 125 1 0x53 [], frameTo 126 1 0x0F [], frameTo 126 1 0x18 [], frameTo 126 1 0x56 [],
          frameTo 126 1 0x10 [], frameTo 126 20 0x13 [0#8], frameTo 126 3 0x12 [], frameTo 126 4 0x17 [],
          frameTo 126 1 0x40 [], frameTo 126 1 0x55 []].all (fun f =>
        receiveFrame false f.bytes == .valid f && f.kind != 0 && f.kind != 1) = true ∧
      run.link.own = 126 ∧
      -- a training frame and an IDLE frame, whatever their destination
      [frameTo 127 1 1 [], frameTo 9 1 1 [], frameTo 127 1 0 []].all (fun f => receiveFrame false f.bytes == .valid f) = true ∧
      [frameTo 127 1 0x0F [], frameTo 127 1 0x10 [], frameTo 127 3 0x12 [], frameTo 127 1 0x55 []].all (fun f =>
        receiveFrame false f.bytes == .valid f && f.dst == 127 && f.src != 126) = true ∧
      (State.withUp run (fun p => { p with forward := List.replicate 7 longFrame })).link.up.forward.length < 8 ∧
      (State.withUp run (fun p => { p with forward := List.replicate 8 longFrame })).link.up.forward.length = 8 ∧
      (∀ g ∈ run.tracker.geo, g.archStation ≠ 1) ∧ (∀ l ∈ run.lines, ∀ c ∈ l.cfg, c.station ≠ 1) ∧
      (∀ c ∈ run.carts.chutes, c.cfg.station ≠ 1) ∧ (∃ c ∈ run.carts.chutes, c.cfg.station = 20) ∧
      (∀ g ∈ run.tracker.geo, g.archStation = 3) ∧ run.tracker.geo ≠ none ∧ line0.cfg = some cfg0 ∧ cfg0.station = 4 ∧
      (readRequest 0x40 []).isSome = true ∧ readRequest 0x55 [] = some .lrst ∧
      (State.withMgmt run (fun m => { m with requests := List.replicate 3 { hdr := hdr, request := .sstp } })).mgmt.requests.length
        < 4 ∧ (replied 7 run).mgmt.replies.length < 8 := by decide +kernel

/-- This frame is in transmission at both ports. -/
def sending (cls : TxClass) (s : State) : State :=
  State.withUp (State.withDown s (fun p => { p with tx := some { cls := cls, frame := longFrame } }))
    (fun p => { p with tx := some { cls := cls, frame := longFrame } })

/-- n entries of a cart. -/
def reportOf (n : Nat) : Report :=
  { voyage := 7, chute := 0, serial := 41, entries := List.replicate n ⟨1, 1, 1, 1, .confirmed, false⟩ }

def reporting (n part : Nat) (c : Chute) : State :=
  let s := State.withChute (sending .cart run) c
  { s with carts := { s.carts with reports := [reportOf n], cartPart := part } }

theorem witness_FramesTransmitted :
    run.link.down.tx = none ∧ run.link.up.tx = none ∧
      (sending .timing dropped57).link.down.tx = some { cls := .timing, frame := longFrame } ∧
      ({ dst := 20, body := .drop 0 57 .left 4101 41 400012345, begun := true } : TimedFrame).body.isDrop = true ∧
      ({ dst := 3, body := .scan 1, begun := true } : TimedFrame).body.isDrop = false ∧
      (sending (.iref 3) run).link.down.tx = some { cls := .iref 3, frame := longFrame } ∧
      (sending .reply run).link.up.tx = some { cls := .reply, frame := longFrame } ∧
      (reporting 21 0 (chuteAt 600 20 2 .swap)).carts.reports = [reportOf 21] ∧
      20 * ((reporting 21 0 (chuteAt 600 20 2 .swap)).carts.cartPart + 1) < (reportOf 21).entries.length ∧
      (reportOf 20).entries.length ≤ 20 * ((reporting 20 0 (chuteAt 600 20 2 .swap)).carts.cartPart + 1) ∧
      (reporting 20 0 (chuteAt 600 20 2 .swap)).carts.waiting = [] ∧
      (let c := { chuteAt 600 20 2 .swap with present := true, report := .queued };
        (reporting 20 0 c).carts.chutes[0]? = some c ∧ c.state = .swap ∧ c.present = true ∧ c.queue = [] ∧
          1 ≤ c.cfg.capacity) ∧
      (chuteAt 600 20 2 .swap).present = false ∧
      -- the report of another chute waits behind a queue that is full
      (let s := reporting 20 0 (chuteAt 600 20 2 .swap);
        let s := { s with carts := { s.carts with reports := List.replicate 8 (reportOf 20), waiting := [{ reportOf 1 with chute := 1 }] } };
        s.carts.reports = reportOf 20 :: List.replicate 7 (reportOf 20) ∧ (List.replicate 7 (reportOf 20)).length < 8 ∧
          s.carts.waiting = { reportOf 1 with chute := 1 } :: [] ∧ (1 : Nat) ≠ (reportOf 20).chute) ∧
      -- an IREF whose transmission ends at the DOWN port
      (let s := { sending (.iref 1) run with link := { (sending (.iref 1) run).link with irefs := [{ iref1 with begun := true }] } };
        s.link.irefs = { iref1 with begun := true } :: []) := by decide +kernel

theorem witness_ArbiterOrder :
    (sending .idle run).link.down.tx = some { cls := .idle, frame := longFrame } ∧ run.link.down.tx = none ∧
      run.link.down.state = .up ∧ run.link.down.answer = false ∧
      (queued 1 run).link.timing = { dst := 20, body := .scan 1, begun := false } :: [] ∧ run.link.up.tx = none ∧
      run.link.up.state = .up ∧ run.link.up.answer = false ∧ (replied 1 run).mgmt.replies = oneReply :: [] ∧
      (State.withDown run (fun p => { p with state := .down })).link.down.state = .down ∧
      -- a port in TRAINING with a training frame due, and with none
      (let s := State.withUp (State.withDown run (fun p => { p with state := .training, trainDue := true }))
          (fun p => { p with state := .training, trainDue := false });
        s.link.down.tx = none ∧ s.link.down.state = .training ∧ s.link.down.trainDue = true ∧ s.link.up.tx = none ∧
          s.link.up.state = .training ∧ s.link.up.trainDue = false) ∧
      -- each class with none before it: an answer, a forwarded frame, the IREF of line 0, a CART, a NOTE
      [PortId.up, .down].map (fun p =>
        (({ run with link := { run.link with up := { portUp with answer := true }, down := { portUp with answer := true } } }).link.port
          p).answer) = [true, true] ∧
      (State.withDown run (fun p => { p with forward := [longFrame] })).link.down.forward = longFrame :: [] ∧
      (State.withUp run (fun p => { p with forward := [longFrame] })).link.up.forward = longFrame :: [] ∧
      run.link.timing = [] ∧ run.link.down.forward = [] ∧ run.link.up.forward = [] ∧ run.mgmt.replies = [] ∧
      ({ run with link := { run.link with irefs := [{ iref1 with line := 0 }] } }).link.irefs = { iref1 with line := 0 } :: [] ∧
      run.lines[0]? = some line0 ∧ line0.cfg = some cfg0 ∧
      ({ run with carts := { run.carts with reports := [reportOf 1] } }).carts.reports = reportOf 1 :: [] ∧
      run.carts.reports = [] ∧ (noticed 1 run).mgmt.notices = Notice.of .drained :: [] := by decide +kernel

/-- A chute of the loops of 300 trays. -/
def setup12 : State := State.withChute setupSt (chuteAt 151200 20 120 .closed)

theorem witness_LoopConfigured :
    setup12.mayServe hdr (.lcfg (some (lcfgWith [236000]))) = true ∧ run.mode ≠ .idle ∧ run.mode ≠ .setup ∧
      setup12.mode = .setup ∧ LoopInRange (lcfgWith [236000]) ∧ LoopInOrder (lcfgWith [236000]) setup12.carts.chutes ∧
      (loopStations (lcfgWith [236000]) setup12).Nodup ∧
      LoopInRange { lcfgWith [236000] with archStation := 20 } ∧
      LoopInOrder { lcfgWith [236000] with archStation := 20 } setup12.carts.chutes ∧
      ¬ (loopStations { lcfgWith [236000] with archStation := 20 } setup12).Nodup ∧
      [16, 512].all (fun n => decide (16 ≤ n) && decide (n ≤ 512)) = true ∧
      ¬ LoopInRange { loopArg with trays := 15 } ∧ ¬ LoopInOrder (lcfgWith [236000, 236500]) setup12.carts.chutes := by
  refine ⟨by decide, by decide, by decide, rfl, ?_, ?_, by decide +kernel, ?_, ?_, by decide +kernel, by decide, ?_, ?_⟩ <;>
    first
      | (unfold LoopInRange; decide +kernel)
      | (unfold LoopInOrder; decide +kernel)

theorem witness_LineReset :
    run.mayServe hdr .lrst = true ∧
      (State.withLine run 3 { line0 with state := .held 5 6 }).lines[3]? = some { line0 with state := .held 5 6 } ∧
      (reservedAt 0 0 0).lines[0]? = some { line0 with state := .reserved 4 5 0, mon := some { tray := 4, lead := 0 } } ∧
      ({ line := 1, tag1 := 5, tag2 := 6, reason := .busy, begun := true } : Iref) ∈
        ({ run with link := { run.link with irefs := [{ line := 1, tag1 := 5, tag2 := 6, reason := .busy, begun := true }] } }).link.irefs ∧
      (∀ l ∈ run.lines[1]?, l.state = .free) := by decide +kernel

/-- The four parts of MGET's reply for tag 12: no entry, tray 15, no cart, no stray. -/
theorem witness_Reports_mget :
    (let s := State.withTray run 15 (bag .loaded 12);
      (∀ x ∈ s.manifest.entries, x.2.tag ≠ 12) ∧ s.trays[15]? = some (bag .loaded 12) ∧ (∀ y ∈ s.trays.take 15, y.tag ≠ 12) ∧
        (∀ c ∈ s.carts.chutes, ∀ e ∈ c.cart, e.tag ≠ 12) ∧ (∀ r ∈ s.strays.recs, r.tag ≠ 12 ∧ r.resolvedTag ≠ 12)) ∧
      ten.strays.recs = ten.strays.recs.take 9 ++ strayOf 65535 11 .screeningHold :: [] ∧
      (∀ x ∈ ten.strays.recs.take 9, x.tag ≠ 11 ∧ x.resolvedTag ≠ 11) ∧
      dropped57.carts.chutes.map Chute.cart = [[] ++ ⟨400012345, 7214, 57, 4101, .pending, false⟩ :: []] := by decide +kernel

theorem witness_Reports :
    run.mayServe hdr (.stat (some ⟨8, 0⟩)) = true ∧ run.mayServe hdr (.crd (some ⟨63, 254⟩)) = true ∧
      run.mayServe hdr (.mget (some 999999999)) = true ∧
      [(0, 0), (9, 0), (6, 64), (7, 64)].all (fun x =>
        decide (x.1 = 0 ∨ 8 < x.1 ∨ ((x.1 = 6 ∨ x.1 = 7) ∧ 63 < x.2))) = true ∧
      [(1, 255), (6, 63), (7, 63), (8, 64)].all (fun x =>
        decide (1 ≤ x.1 ∧ x.1 ≤ 8 ∧ ((x.1 = 6 ∨ x.1 = 7) → x.2 ≤ 63))) = true ∧
      run.carts.chutes[63]? = none ∧ run.carts.chutes[0]? = some (chuteAt 600 20 2 .opened) ∧ 63 < 64 ∧ 254 < 255 ∧
      (∀ x ∈ (held manifest1 run).manifest.entries, x.2.tag ≠ 12) ∧ (∀ x ∈ run.trays, x.tag ≠ 12) ∧
      (∀ c ∈ run.carts.chutes, ∀ e ∈ c.cart, e.tag ≠ 12) ∧
      (∀ r ∈ ten.strays.recs, r.tag ≠ 12 ∧ r.resolvedTag ≠ 12) ∧ (held manifest1 run).manifest.Law ∧
      (88, entry 11 7214 false) ∈ (held manifest1 run).manifest.entries ∧
      (∃ x ∈ (State.withTray run 15 (bag .loaded 12)).trays, x.tag = 12) ∧
      (∃ c ∈ dropped57.carts.chutes, ∃ e ∈ c.cart, e.tag = 400012345) ∧
      ∃ r ∈ ten.strays.recs, r.tag = 11 ∨ r.resolvedTag = 11 := by
  refine ⟨by decide, by decide, by decide, by decide, by decide, by decide, by decide, by decide, by decide, by decide +kernel,
    by decide, by decide, by decide +kernel, manifest1_law, by decide +kernel, by decide +kernel, by decide +kernel,
    by decide +kernel⟩

end Sys2Proof.Tests
end

section
/-! # What an operation inside an event does to the approach monitors (R7, R12, R14, R32, R44, R103)

Two relations in the shape of `Kept`: `Releads` says that a monitor in the new state is one of the old state or carries the
lead of the current speed sample; `Rearmed` adds that nothing is armed from scratch outside TRACKING with the DOWN port UP. -/

namespace Sys2Proof.Machine

open Sys2Proof

/-! ## The relations -/

/-- Monitors may arm: TRACKING with the DOWN port UP (R7). -/
def State.mayArm (s : State) : Bool := s.isTracking && s.downUp

/-- An armed monitor in m' stands as in m, or has the lead that the delay gives at speed v (R12). -/
def MonitorStep (v : Nat) (delay : Option Nat) (m m' : Option Monitor) : Prop :=
  ∀ x ∈ m', m = some x ∨ ∀ d ∈ delay, x.lead = leadOf v d

/-- A line after an operation: its configuration stands, with `bars` its yield bar too, and its monitor is current. -/
def LineStep (bars : Prop) (v : Nat) (l l' : Line) : Prop :=
  l'.cfg = l.cfg ∧ (bars → l'.bar = l.bar) ∧ MonitorStep v (l.cfg.map LineCfg.delay) l.mon l'.mon

/-- A chute after an operation: its configuration stands, and its monitor is current. -/
def ChuteStep (v : Nat) (c c' : Chute) : Prop :=
  c'.cfg = c.cfg ∧ MonitorStep v (some c.cfg.delay) c.mon c'.mon

/-- Every monitor of t stands as in s or has the lead of the current speed sample; with `bars` the yield bars stand too. -/
structure Releads (bars : Prop) (s t : State) : Prop where
  state : t.tracker.state = s.tracker.state
  geo : t.tracker.geo = s.tracker.geo
  speed : t.tracker.speed = s.tracker.speed
  port : t.link.down.state = s.link.down.state
  lines : List.Forall₂ (LineStep bars s.tracker.speed) s.lines t.lines
  arch : MonitorStep s.tracker.speed (s.tracker.geo.map Geometry.archDelay) s.arch.mon t.arch.mon
  chutes : List.Forall₂ (ChuteStep s.tracker.speed) s.carts.chutes t.carts.chutes

/-- A `Releads` step that arms nothing where no monitor may arm and none was armed. -/
structure Rearmed (bars : Prop) (s t : State) : Prop extends Releads bars s t where
  quiet : s.mayArm = false → s.NoneArmed → t.NoneArmed

theorem MonitorStep.refl (v : Nat) (d : Option Nat) (m : Option Monitor) : MonitorStep v d m m :=
  fun _ hx => .inl hx

theorem MonitorStep.none (v : Nat) (d : Option Nat) (m : Option Monitor) : MonitorStep v d m none :=
  fun _ hx => nomatch hx

theorem MonitorStep.trans {v : Nat} {d : Option Nat} {m m' m'' : Option Monitor} (h : MonitorStep v d m m')
    (h' : MonitorStep v d m' m'') : MonitorStep v d m m'' := by
  intro x hx
  rcases h' x hx with h' | h'
  · exact h x h'
  · exact .inr h'

/-- A monitor that stands or is disarmed. -/
theorem MonitorStep.of_le {v : Nat} {d : Option Nat} {m m' : Option Monitor} (h : m' = m ∨ m' = .none) :
    MonitorStep v d m m' := by
  rcases h with rfl | rfl
  · exact .refl _ _ _
  · exact .none _ _ _

theorem forall₂_self {α : Type} {R : α → α → Prop} (h : ∀ a, R a a) : ∀ l : List α, List.Forall₂ R l l
  | [] => .nil
  | a :: l => .cons (h a) (forall₂_self h l)

theorem forall₂_trans {α : Type} {R : α → α → Prop} {l m n : List α} (h : ∀ a b c, R a b → R b c → R a c)
    (hl : List.Forall₂ R l m) (hm : List.Forall₂ R m n) : List.Forall₂ R l n := by
  induction hl generalizing n with
  | nil => exact hm
  | cons ha _ ih =>
    cases hm with
    | cons hb hm => exact .cons (h _ _ _ ha hb) (ih hm)

theorem forall₂_modify {α : Type} {R : α → α → Prop} {f : α → α} (hr : ∀ a, R a a) (hf : ∀ a, R a (f a)) :
    ∀ (l : List α) (i : Nat), List.Forall₂ R l (l.modify i f)
  | [], i => by cases i <;> exact .nil
  | a :: l, 0 => .cons (hf a) (forall₂_self hr l)
  | a :: l, i + 1 => .cons (hr a) (forall₂_modify hr hf l i)

theorem LineStep.refl (b : Prop) (v : Nat) (l : Line) : LineStep b v l l := ⟨rfl, fun _ => rfl, .refl _ _ _⟩

theorem LineStep.trans {b : Prop} {v : Nat} {l l' l'' : Line} (h : LineStep b v l l') (h' : LineStep b v l' l'') :
    LineStep b v l l'' := by
  obtain ⟨hc, hb, hm⟩ := h
  obtain ⟨hc', hb', hm'⟩ := h'
  rw [hc] at hm'
  exact ⟨hc'.trans hc, fun x => (hb' x).trans (hb x), hm.trans hm'⟩

theorem ChuteStep.refl (v : Nat) (c : Chute) : ChuteStep v c c := ⟨rfl, .refl _ _ _⟩

theorem ChuteStep.trans {v : Nat} {c c' c'' : Chute} (h : ChuteStep v c c') (h' : ChuteStep v c' c'') :
    ChuteStep v c c'' := by
  obtain ⟨hc, hm⟩ := h
  obtain ⟨hc', hm'⟩ := h'
  rw [hc] at hm'
  exact ⟨hc'.trans hc, hm.trans hm'⟩

section
variable {b : Prop} {s t u : State}

theorem Releads.refl (b : Prop) (s : State) : Releads b s s :=
  ⟨rfl, rfl, rfl, rfl, forall₂_self (LineStep.refl _ _) _, .refl _ _ _, forall₂_self (ChuteStep.refl _) _⟩

theorem Releads.trans (h : Releads b s t) (k : Releads b t u) : Releads b s u where
  state := k.state.trans h.state
  geo := k.geo.trans h.geo
  speed := k.speed.trans h.speed
  port := k.port.trans h.port
  lines := by
    have := k.lines
    rw [h.speed] at this
    exact forall₂_trans (fun _ _ _ => LineStep.trans) h.lines this
  arch := h.arch.trans (by have := k.arch; rwa [h.speed, h.geo] at this)
  chutes := by
    have := k.chutes
    rw [h.speed] at this
    exact forall₂_trans (fun _ _ _ => ChuteStep.trans) h.chutes this

theorem Releads.mayArm (h : Releads b s t) : t.mayArm = s.mayArm := by
  simp [State.mayArm, State.isTracking, State.downUp, h.state, h.port]

/-- Where monitors may arm, nothing is asked of an arming. -/
theorem Releads.rearmed (h : Releads b s t) (ha : s.mayArm = true) : Rearmed b s t :=
  { h with quiet := fun hf => by simp [ha] at hf }

theorem Rearmed.refl (b : Prop) (s : State) : Rearmed b s s := { Releads.refl b s with quiet := fun _ h => h }

theorem Rearmed.trans (h : Rearmed b s t) (k : Rearmed b t u) : Rearmed b s u :=
  { h.toReleads.trans k.toReleads with
    quiet := fun hm hn => k.quiet (h.mayArm.trans hm) (h.quiet hm hn) }

/-- The frame of a run of operations over a list. -/
theorem Rearmed.foldl {α : Type} {f : State → α → State} (h : ∀ s x, Rearmed b s (f s x)) :
    ∀ (l : List α) (s : State), Rearmed b s (l.foldl f s)
  | [], s => .refl b s
  | x :: rest, s => (h s x).trans (Rearmed.foldl h rest (f s x))

theorem Rearmed.ite {p : Prop} [Decidable p] {x y : State} (hx : p → Rearmed b s x) (hy : ¬p → Rearmed b s y) :
    Rearmed b s (if p then x else y) := by
  split
  · exact hx ‹_›
  · exact hy ‹_›

/-- A write that leaves the monitors, their owners and what arms them as they stand. -/
theorem Rearmed.of_same (ht : t.tracker.state = s.tracker.state) (hg : t.tracker.geo = s.tracker.geo)
    (hv : t.tracker.speed = s.tracker.speed) (hp : t.link.down.state = s.link.down.state) (hl : t.lines = s.lines)
    (ha : t.arch.mon = s.arch.mon) (hc : t.carts.chutes = s.carts.chutes) : Rearmed b s t where
  state := ht
  geo := hg
  speed := hv
  port := hp
  lines := hl ▸ forall₂_self (LineStep.refl _ _) _
  arch := ha ▸ .refl _ _ _
  chutes := hc ▸ forall₂_self (ChuteStep.refl _) _
  quiet := by
    rintro - ⟨h1, h2, h3⟩
    exact ⟨ha.trans h1, hl ▸ h2, hc ▸ h3⟩

theorem mem_modify {α : Type} {f : α → α} {x : α} :
    ∀ {l : List α} {i : Nat}, x ∈ l.modify i f → x ∈ l ∨ ∃ a ∈ l, x = f a
  | [], i, h => by cases i <;> cases h
  | a :: l, 0, h => by
    rcases List.mem_cons.1 h with rfl | h
    · exact .inr ⟨a, by simp, rfl⟩
    · exact .inl (by simp [h])
  | a :: l, i + 1, h => by
    rcases List.mem_cons.1 h with rfl | h
    · exact .inl (by simp)
    · rcases mem_modify h with h | ⟨y, hy, rfl⟩
      · exact .inl (by simp [h])
      · exact .inr ⟨y, by simp [hy], rfl⟩

/-! ## The plain writes -/

theorem modifyLine_releads {f : Line → Line} (i : Nat) (h : ∀ l, LineStep b s.tracker.speed l (f l)) :
    Releads b s (modifyLine i f s) :=
  { Releads.refl b s with lines := forall₂_modify (LineStep.refl _ _) h _ _ }

theorem modifyChute_releads {f : Chute → Chute} (j : Nat) (h : ∀ c, ChuteStep s.tracker.speed c (f c)) :
    Releads b s (modifyChute j f s) :=
  { Releads.refl b s with chutes := forall₂_modify (ChuteStep.refl _) h _ _ }

/-- A change of one line that arms nothing. -/
theorem modifyLine_rearmed {f : Line → Line} (i : Nat) (s : State)
    (h : ∀ l, (f l).cfg = l.cfg ∧ (b → (f l).bar = l.bar) ∧ ((f l).mon = l.mon ∨ (f l).mon = none) := by simp) :
    Rearmed b s (modifyLine i f s) where
  toReleads := modifyLine_releads i (fun l => ⟨(h l).1, (h l).2.1, .of_le (h l).2.2⟩)
  quiet := by
    rintro - ⟨h1, h2, h3⟩
    refine ⟨h1, fun l hl => ?_, h3⟩
    rcases mem_modify hl with hl | ⟨a, ha, rfl⟩
    · exact h2 l hl
    · rcases (h a).2.2 with h | h
      · exact h.trans (h2 a ha)
      · exact h

/-- A change of one chute's record that arms nothing, whatever else of the carts changes with it. -/
theorem Rearmed.of_chute {f : Chute → Chute} (j : Nat) (ht : t.tracker = s.tracker) (hp : t.link = s.link)
    (hl : t.lines = s.lines) (ha : t.arch = s.arch) (hc : t.carts.chutes = s.carts.chutes.modify j f)
    (h : ∀ c, (f c).cfg = c.cfg ∧ ((f c).mon = c.mon ∨ (f c).mon = none) := by simp) : Rearmed b s t where
  state := ht ▸ rfl
  geo := ht ▸ rfl
  speed := ht ▸ rfl
  port := hp ▸ rfl
  lines := hl ▸ forall₂_self (LineStep.refl _ _) _
  arch := ha ▸ .refl _ _ _
  chutes := hc ▸ forall₂_modify (ChuteStep.refl _) (fun c => ⟨(h c).1, .of_le (h c).2⟩) _ _
  quiet := by
    rintro - ⟨h1, h2, h3⟩
    refine ⟨ha ▸ h1, hl ▸ h2, fun c hm => ?_⟩
    rw [hc] at hm
    rcases mem_modify hm with hm | ⟨a, ha, rfl⟩
    · exact h3 c hm
    · rcases (h a).2 with h | h
      · exact h.trans (h3 a ha)
      · exact h

/-- A change of one chute that arms nothing. -/
theorem modifyChute_rearmed {f : Chute → Chute} (j : Nat) (s : State)
    (h : ∀ c, (f c).cfg = c.cfg ∧ ((f c).mon = c.mon ∨ (f c).mon = none) := by simp) :
    Rearmed b s (modifyChute j f s) :=
  .of_chute j rfl rfl rfl rfl rfl h

theorem notify_rearmed (n : Notice) (s : State) : Rearmed b s (notify n s) := .of_same rfl rfl rfl rfl rfl rfl rfl
theorem drainWatch_rearmed (s : State) : Rearmed b s (drainWatch s) := .of_same rfl rfl rfl rfl rfl rfl rfl
theorem putTray_rearmed (k : Nat) (x : Tray) (s : State) : Rearmed b s (putTray k x s) :=
  .of_same rfl rfl rfl rfl rfl rfl rfl
theorem withRouter_rearmed (r : Router) (s : State) : Rearmed b s (withRouter r s) := .of_same rfl rfl rfl rfl rfl rfl rfl
theorem withSched_rearmed (x : Scheduler) (s : State) : Rearmed b s (withSched x s) :=
  .of_same rfl rfl rfl rfl rfl rfl rfl
theorem withStrays_rearmed (l : StrayList) (s : State) : Rearmed b s (withStrays l s) :=
  .of_same rfl rfl rfl rfl rfl rfl rfl
theorem withManifest_rearmed (m : Manifest) (s : State) : Rearmed b s (withManifest m s) :=
  .of_same rfl rfl rfl rfl rfl rfl rfl
theorem withSession_rearmed (x : Session) (s : State) : Rearmed b s (withSession x s) :=
  .of_same rfl rfl rfl rfl rfl rfl rfl
theorem withLatch_rearmed (c : Option StopCause) (s : State) : Rearmed b s (withLatch c s) :=
  .of_same rfl rfl rfl rfl rfl rfl rfl
theorem queueTimed_rearmed (dst : Nat) (x : TimedBody) (s : State) : Rearmed b s (queueTimed dst x s) :=
  .of_same rfl rfl rfl rfl rfl rfl rfl
theorem dropFirst_rearmed (s : State) : Rearmed b s (dropFirst s) := .of_same rfl rfl rfl rfl rfl rfl rfl
theorem raiseIref_rearmed (i t1 t2 : Nat) (r : IrefReason) (s : State) : Rearmed b s (raiseIref i t1 t2 r s) :=
  .of_same rfl rfl rfl rfl rfl rfl rfl
theorem countLookup_rearmed (tag : Nat) (s : State) : Rearmed b s (countLookup tag s) :=
  .of_same rfl rfl rfl rfl rfl rfl rfl
theorem rejectChute_rearmed (s : State) : Rearmed b s (rejectChute s) := .of_same rfl rfl rfl rfl rfl rfl rfl

/-- A change of what the arch holds that leaves its monitor. -/
theorem withArch_rearmed {a : Arch} {s : State} (h : a.mon = s.arch.mon) : Rearmed b s (withArch a s) :=
  .of_same rfl rfl rfl rfl rfl h rfl

theorem disarmScan_rearmed (s : State) : Rearmed b s (disarmScan s) :=
  { Releads.refl b s with
    arch := .none _ _ _
    quiet := fun _ ⟨_, h2, h3⟩ => ⟨rfl, h2, h3⟩ }

/-! ## Trays and the STOP latch -/

theorem settleTray_rearmed (k : Nat) (x : Tray) (s : State) : Rearmed b s (settleTray k x s) :=
  .ite (fun _ => (putTray_rearmed k x s).trans (drainWatch_rearmed _)) (fun _ => putTray_rearmed k x s)

theorem changeTray_rearmed (k : Nat) (e : TrayState) (f : Tray → Tray) (s : State) : Rearmed b s (changeTray k e f s) := by
  unfold changeTray
  split
  · exact .ite (fun _ => settleTray_rearmed _ _ _) (fun _ => .refl _ _)
  · exact .refl _ _

theorem noticeLevel_rearmed (x : Bool) (s : State) : Rearmed b s (noticeLevel x s) :=
  .ite (fun _ => notify_rearmed _ _) (fun _ => .refl _ _)

theorem setLatch_rearmed (c : StopCause) (s : State) : Rearmed b s (setLatch c s) :=
  .ite (fun _ => .refl _ _)
    (fun _ => ((withLatch_rearmed _ _).trans (notify_rearmed _ _)).trans (noticeLevel_rearmed _ _))

theorem releaseLatch_rearmed (s : State) : Rearmed b s (releaseLatch s) :=
  (withLatch_rearmed _ _).trans (noticeLevel_rearmed _ _)

/-! ## Chutes and carts -/

@[simp] theorem Chute.fullTest_cfg (c : Chute) : c.fullTest.cfg = c.cfg := by
  unfold Chute.fullTest
  split <;> rfl

@[simp] theorem Chute.fullTest_mon (c : Chute) : c.fullTest.mon = c.mon := by
  unfold Chute.fullTest
  split <;> rfl

theorem fullTest_rearmed (j : Nat) (s : State) : Rearmed b s (modifyChute j Chute.fullTest s) :=
  modifyChute_rearmed j s (fun c => ⟨c.fullTest_cfg, .inl c.fullTest_mon⟩)

theorem newCart_rearmed (j : Nat) (s : State) : Rearmed b s (newCart j s) :=
  .of_chute j rfl rfl rfl rfl rfl

theorem openWithCart_rearmed (j : Nat) (s : State) : Rearmed b s (openWithCart j s) :=
  (newCart_rearmed j s).trans (modifyChute_rearmed _ _)

theorem swapTest_rearmed (j : Nat) (s : State) : Rearmed b s (swapTest j s) := by
  unfold swapTest
  split
  · exact .ite (fun _ => openWithCart_rearmed _ _) (fun _ => .refl _ _)
  · exact .refl _ _

theorem closeCart_rearmed (j : Nat) (s : State) : Rearmed b s (closeCart j s) := by
  unfold closeCart
  split
  · exact .refl _ _
  · refine .ite (fun _ => ?_) (fun _ => ?_)
    · exact .of_chute j rfl rfl rfl rfl rfl
    · exact .of_chute j rfl rfl rfl rfl rfl

theorem admitWaiting_rearmed (s : State) : Rearmed b s (admitWaiting s) := by
  unfold admitWaiting
  split
  · exact .refl _ _
  · refine .ite (fun _ => ?_) (fun _ => .refl _ _)
    exact .of_chute _ rfl rfl rfl rfl rfl

theorem reportSent_rearmed (s : State) : Rearmed b s (reportSent s) := by
  unfold reportSent
  split
  · exact .refl _ _
  · refine Rearmed.trans ?_ (admitWaiting_rearmed _)
    refine Rearmed.trans ?_ (swapTest_rearmed _ _)
    exact .of_chute _ rfl rfl rfl rfl rfl

theorem cartFrameSent_rearmed (s : State) : Rearmed b s (cartFrameSent s) := by
  unfold cartFrameSent
  split
  · exact .refl _ _
  · exact .ite (fun _ => .of_same rfl rfl rfl rfl rfl rfl rfl) (fun _ => reportSent_rearmed _)

theorem expireOldest_rearmed (j : Nat) (s : State) : Rearmed b s (expireOldest j s) := by
  unfold expireOldest
  split
  · exact .refl _ _
  · split
    · exact .refl _ _
    · exact (modifyChute_rearmed _ _).trans (changeTray_rearmed _ _ _ _)

theorem appendConfirmation_rearmed (j k seq : Nat) (s : State) : Rearmed b s (appendConfirmation j k seq s) :=
  modifyChute_rearmed _ _

theorem openConfirmation_rearmed (j k seq : Nat) (s : State) : Rearmed b s (openConfirmation j k seq s) := by
  unfold openConfirmation
  split
  · exact .refl _ _
  · exact .ite (fun _ => appendConfirmation_rearmed _ _ _ _)
      (fun _ => (expireOldest_rearmed _ _).trans (appendConfirmation_rearmed _ _ _ _))

theorem warnNearFull_rearmed (j : Nat) (s : State) : Rearmed b s (warnNearFull j s) := by
  unfold warnNearFull
  split
  · exact .refl _ _
  · exact .ite (fun _ => (modifyChute_rearmed _ _).trans (notify_rearmed _ _))
      (fun _ => .refl _ _)

theorem recordDrop_rearmed (j k seq tag cabin : Nat) (s : State) : Rearmed b s (recordDrop j k seq tag cabin s) := by
  unfold recordDrop
  split
  · exact .refl _ _
  · have h := ((modifyChute_rearmed (b := b) j s
      (f := fun c => { c with cart := c.cart ++ [c.newEntry k seq tag cabin] })).trans
      (warnNearFull_rearmed j _)).trans (fullTest_rearmed j _)
    exact .ite (fun _ => h) (fun _ => h.trans (openConfirmation_rearmed _ _ _ _))

theorem undoDrop_rearmed (j serial k seq tag : Nat) (s : State) : Rearmed b s (undoDrop j serial k seq tag s) := by
  unfold undoDrop
  split
  · exact (modifyChute_rearmed _ _).trans (notify_rearmed _ _)
  · exact notify_rearmed _ _

/-- A change of a chute under a condition leaves its monitor if the change does. -/
theorem presumeDrop_rearmed (j serial k seq : Nat) (s : State) : Rearmed b s (presumeDrop j serial k seq s) :=
  modifyChute_rearmed _ _ (by intro c; split <;> simp)

theorem markAmended_rearmed (j serial k seq : Nat) (s : State) : Rearmed b s (markAmended j serial k seq s) :=
  modifyChute_rearmed _ _ (by intro c; split <;> simp)

/-! ## Strays and routes -/

theorem recordStray_rearmed (d : StrayDrop) (s : State) : Rearmed b s (recordStray d s) := by
  unfold recordStray
  split
  · exact (withStrays_rearmed _ _).trans (notify_rearmed _ _)
  · split
    · exact (withStrays_rearmed _ _).trans (notify_rearmed _ _)
    · split <;> exact (withStrays_rearmed _ _).trans (notify_rearmed _ _)

theorem reinduct_rearmed (tray tag chute : Nat) (s : State) : Rearmed b s (reinduct tray tag chute s) := by
  unfold reinduct
  split
  · split
    · exact (withStrays_rearmed _ _).trans (notify_rearmed _ _)
    · exact .refl _ _
  · exact .refl _ _

theorem tryStraySet_rearmed (k tag : Nat) (r : StrayReason) (s : State) : Rearmed b s (tryStraySet k tag r s).1 := by
  unfold tryStraySet
  split
  · exact withRouter_rearmed _ _
  · exact (withRouter_rearmed _ _).trans (notify_rearmed _ _)

theorem routeStray_rearmed (k tag : Nat) (r : StrayReason) (s : State) : Rearmed b s (routeStray k tag r s).1 := by
  unfold routeStray
  dsimp only
  split
  · exact withRouter_rearmed _ _
  · split
    · exact ((withRouter_rearmed _ _).trans (withRouter_rearmed _ _)).trans (tryStraySet_rearmed _ _ _ _)
    · exact withRouter_rearmed _ _
  · exact (withRouter_rearmed _ _).trans (tryStraySet_rearmed _ _ _ _)
  · exact (withRouter_rearmed _ _).trans (tryStraySet_rearmed _ _ _ _)

theorem recirculateIdentified_rearmed (k tag cabin zone : Nat) (s : State) :
    Rearmed b s (recirculateIdentified k tag cabin zone s).1 := by
  unfold recirculateIdentified
  split
  · exact (withRouter_rearmed _ _).trans (tryStraySet_rearmed _ _ _ _)
  · exact .refl _ _

theorem strayNoRoute_rearmed (k tag cabin zone : Nat) (s : State) : Rearmed b s (strayNoRoute k tag cabin zone s).1 :=
  routeStray_rearmed _ _ _ _

theorem defaultAction_rearmed (k tag cabin zone : Nat) (s : State) :
    Rearmed b s (defaultAction k tag cabin zone s).1 := by
  unfold defaultAction
  dsimp only
  split
  · exact (withRouter_rearmed _ _).trans (recirculateIdentified_rearmed _ _ _ _ _)
  · exact (withRouter_rearmed _ _).trans (strayNoRoute_rearmed _ _ _ _ _)

theorem routePlaced_rearmed (k cabin : Nat) (p : Placed) (s : State) : Rearmed b s (routePlaced k cabin p s).1 := by
  unfold routePlaced
  dsimp only
  split
  · exact withRouter_rearmed _ _
  · exact (withRouter_rearmed _ _).trans (recirculateIdentified_rearmed _ _ _ _ _)
  · exact (withRouter_rearmed _ _).trans (strayNoRoute_rearmed _ _ _ _ _)
  · exact (withRouter_rearmed _ _).trans (defaultAction_rearmed _ _ _ _ _)

theorem resolveRoute_rearmed (k tag : Nat) (v : Verdict) (s : State) : Rearmed b s (resolveRoute k tag v s).1 := by
  unfold resolveRoute
  split
  · exact routeStray_rearmed _ _ _ _
  · split
    · exact routeStray_rearmed _ _ _ _
    · exact routePlaced_rearmed _ _ _ _

/-! ## Discharge -/

@[simp] theorem Chute.arm_cfg (c : Chute) (k v : Nat) : (c.arm k v).cfg = c.cfg := rfl
@[simp] theorem Chute.leave_cfg (c : Chute) (k : Nat) : (c.leave k).cfg = c.cfg := rfl
@[simp] theorem Chute.leave_mon (c : Chute) (k : Nat) : (c.leave k).mon = none := rfl

theorem Chute.arm_step (c : Chute) (k v : Nat) : ChuteStep v c (c.arm k v) := by
  refine ⟨rfl, fun x hx => .inr fun d hd => ?_⟩
  cases hx
  cases hd
  rfl

theorem armHead_releads (j : Nat) (s : State) : Releads b s (armHead j s) := by
  unfold armHead
  split
  · refine modifyChute_releads j (fun c => ?_)
    split
    · exact .refl _ _
    · exact c.arm_step _ _
  · exact .refl _ _

theorem missOrder_rearmed (j k : Nat) (s : State) : Rearmed b s (missOrder j k s) :=
  (modifyChute_rearmed _ _).trans (changeTray_rearmed _ _ _ _)

theorem fireRefused_rearmed (j k : Nat) (s : State) : Rearmed b s (fireRefused j k s) :=
  (withSched_rearmed _ _).trans (missOrder_rearmed _ _ _)

theorem shadowFire_rearmed (j k : Nat) (s : State) : Rearmed b s (shadowFire j k s) :=
  (modifyChute_rearmed _ _).trans (changeTray_rearmed _ _ _ _)

theorem handStray_rearmed (d : Option StrayDrop) (s : State) : Rearmed b s (handStray d s) := by
  unfold handStray
  split
  · exact recordStray_rearmed _ _
  · exact .refl _ _

theorem sendDrop_rearmed (j : Nat) (c : Chute) (o : Order) (x : Tray) (s : State) :
    Rearmed b s (sendDrop j c o x s) :=
  (queueTimed_rearmed _ _ _).trans (modifyChute_rearmed _ _)

theorem fireWithEye_rearmed (j : Nat) (c : Chute) (o : Order) (x : Tray) (s : State) :
    Rearmed b s (fireWithEye j c o x s) :=
  (((sendDrop_rearmed _ _ _ _ _).trans (changeTray_rearmed _ _ _ _)).trans (recordDrop_rearmed _ _ _ _ _ _)).trans
    (handStray_rearmed _ _)

theorem fireWithoutEye_rearmed (j : Nat) (c : Chute) (o : Order) (x : Tray) (s : State) :
    Rearmed b s (fireWithoutEye j c o x s) :=
  (((sendDrop_rearmed _ _ _ _ _).trans (recordDrop_rearmed _ _ _ _ _ _)).trans (handStray_rearmed _ _)).trans
    (changeTray_rearmed _ _ _ _)

theorem dropFire_rearmed (j : Nat) (c : Chute) (o : Order) (s : State) : Rearmed b s (dropFire j c o s) := by
  unfold dropFire
  split
  · exact .ite (fun _ => fireWithoutEye_rearmed _ _ _ _ _) (fun _ => fireWithEye_rearmed _ _ _ _ _)
  · exact .refl _ _

theorem fireOrder_rearmed (j : Nat) (c : Chute) (o : Order) (s : State) : Rearmed b s (fireOrder j c o s) := by
  unfold fireOrder
  split
  · exact shadowFire_rearmed _ _ _
  · exact .ite (fun _ => dropFire_rearmed _ _ _ _) (fun _ => fireRefused_rearmed _ _ _)
  · exact .ite (fun _ => dropFire_rearmed _ _ _ _) (fun _ => fireRefused_rearmed _ _ _)
  all_goals exact missOrder_rearmed _ _ _

theorem decideHead_rearmed (j : Nat) (x : Bool) (s : State) : Rearmed b s (decideHead j x s) := by
  unfold decideHead
  split
  · exact .refl _ _
  · have h := modifyChute_rearmed (b := b) j s (f := fun c => { c with mon := none })
    split
    · exact h
    · exact .ite (fun _ => h.trans (fireOrder_rearmed _ _ _ _)) (fun _ => missOrder_rearmed _ _ _)

/-- A disarmed monitor of a chute decides nothing. -/
theorem headDecision_of_noneArmed (adv j : Nat) (h : s.NoneArmed) : s.headDecision adv j = .stay := by
  unfold State.headDecision
  split
  · rename_i c _ hc
    split
    · rename_i m hm
      have := h.2.2 c (List.mem_of_getElem? hc)
      simp [this] at hm
    · rfl
  · rfl

theorem runHead_rearmed : ∀ (fuel adv j : Nat) (s : State), Rearmed b s (runHead fuel adv j s)
  | 0, _, _, s => .refl b s
  | fuel + 1, adv, j, s => by
    have run : ∀ x, Releads b s (runHead fuel 0 j (armHead j (decideHead j x s))) := fun x =>
      ((decideHead_rearmed j x s).toReleads.trans (armHead_releads j _)).trans (runHead_rearmed fuel 0 j _).toReleads
    refine ⟨?_, fun _ hn => ?_⟩
    · unfold runHead
      split
      · exact .refl _ _
      · exact run true
      · exact run false
    · unfold runHead
      rw [headDecision_of_noneArmed adv j hn]
      exact hn

theorem evalHead_rearmed (adv j : Nat) (s : State) : Rearmed b s (evalHead adv j s) := runHead_rearmed _ _ _ _

theorem evalHeads_rearmed (adv : Nat) (js : List Nat) (s : State) : Rearmed b s (evalHeads adv js s) :=
  .foldl (fun s j => evalHead_rearmed adv j s) js s

theorem placeOrder_rearmed (j k : Nat) (kind : RouteKind) (r : Option StrayReason) (tag : Nat) (s : State) :
    Rearmed b s (placeOrder j k kind r tag s) :=
  (withSched_rearmed _ _).trans (modifyChute_rearmed _ _)

/-- An order's head arms in TRACKING whatever the DOWN port, so that the mode of R60 keeps the arming apart. -/
theorem queueOrder_releads (j k : Nat) (kind : RouteKind) (r : Option StrayReason) (tag : Nat) {w : Nat → State → State}
    (hw : ∀ n s, Rearmed b s (w n s)) (s : State) : Releads b s (queueOrder j k kind r tag w s) := by
  have h := (placeOrder_rearmed j k kind r tag s).trans (hw s.sched.nextSeq _)
  unfold queueOrder
  split
  · exact .refl _ _
  · split
    · exact (h.toReleads.trans (armHead_releads _ _)).trans (evalHead_rearmed _ _ _).toReleads
    · exact h.toReleads

theorem cancelTray_rearmed (k : Nat) (s : State) : Rearmed b s (cancelTray k s) :=
  (withSched_rearmed _ _).trans (changeTray_rearmed _ _ _ _)

theorem Chute.cancel_cfg (k : Nat) (c : Chute) : (c.cancel k).cfg = c.cfg := by simp [Chute.cancel]

theorem Chute.cancel_mon (k : Nat) (c : Chute) : (c.cancel k).mon = c.mon ∨ (c.cancel k).mon = none := by
  simp only [Chute.cancel, Chute.fullTest_mon]
  split
  · exact .inr rfl
  · exact .inl rfl

theorem cancelOne_rearmed (j k : Nat) (s : State) : Rearmed b s (cancelOne j k s) := by
  have h := (modifyChute_rearmed (b := b) j s (f := Chute.cancel k) (fun c => ⟨c.cancel_cfg k, c.cancel_mon k⟩)).trans
    (cancelTray_rearmed k _)
  unfold cancelOne
  split
  · exact .refl _ _
  · rename_i c hc
    refine .ite (fun _ => .ite (fun hw => ?_) (fun _ => h)) (fun _ => .refl _ _)
    refine ⟨(h.toReleads.trans (armHead_releads _ _)).trans (evalHead_rearmed _ _ _).toReleads, fun _ hn => ?_⟩
    have := hn.2.2 c (List.mem_of_getElem? hc)
    simp [Chute.watches, this] at hw

theorem cancelQueue_rearmed (j : Nat) (s : State) : Rearmed b s (cancelQueue j s) := by
  unfold cancelQueue
  split
  · exact .refl _ _
  · exact (Rearmed.foldl (fun s (o : Order) => cancelTray_rearmed o.tray s) _ _).trans
      (modifyChute_rearmed _ _)

theorem cancelAll_rearmed (s : State) : Rearmed b s (cancelAll s) := .foldl (fun s j => cancelQueue_rearmed j s) _ s

theorem endConfirmation_rearmed (j k seq : Nat) (s : State) : Rearmed b s (endConfirmation j k seq s) := by
  unfold endConfirmation
  split
  · exact .refl _ _
  · exact .ite (fun _ => (modifyChute_rearmed _ _).trans (changeTray_rearmed _ _ _ _))
      (fun _ => .refl _ _)

theorem dropNotSent_rearmed (j k seq serial tag : Nat) (s : State) : Rearmed b s (dropNotSent j k seq serial tag s) := by
  unfold dropNotSent
  split
  · exact .refl _ _
  · exact .ite (fun _ => undoDrop_rearmed _ _ _ _ _ _) (fun _ => endConfirmation_rearmed _ _ _ _)

theorem withdrawEach_rearmed : ∀ (l : List TimedFrame) (s : State), Rearmed b s (withdrawEach l s)
  | [], s => .refl b s
  | f :: rest, s => by
    unfold withdrawEach
    split
    · exact ((((dropFirst_rearmed _).trans (withSched_rearmed _ _)).trans (dropNotSent_rearmed _ _ _ _ _ _)).trans
        (drainWatch_rearmed _)).trans (withdrawEach_rearmed rest _)
    · exact withdrawEach_rearmed rest _
    · exact withdrawEach_rearmed rest _

theorem withdrawDrops_rearmed (s : State) : Rearmed b s (withdrawDrops s) := withdrawEach_rearmed _ _

theorem answerLate_rearmed (kind : ChangeKind) (k tag j serial seq : Nat) (s : State) :
    Rearmed b s (answerLate kind k tag j serial seq s) :=
  ((notify_rearmed _ _).trans (withSched_rearmed _ _)).trans (markAmended_rearmed _ _ _ _ _)

theorem changeInCarts_rearmed (kind : ChangeKind) (tag : Nat) (s : State) : Rearmed b s (changeInCarts kind tag s) := by
  unfold changeInCarts
  split
  · exact answerLate_rearmed _ _ _ _ _ _ _
  · exact .refl _ _

theorem manifestChange_rearmed (kind : ChangeKind) (tag : Nat) (s : State) :
    Rearmed b s (manifestChange kind tag s) := by
  unfold manifestChange
  split
  · exact changeInCarts_rearmed _ _ _
  · split
    · exact cancelOne_rearmed _ _ _
    · exact answerLate_rearmed _ _ _ _ _ _ _
    · exact answerLate_rearmed _ _ _ _ _ _ _
    all_goals exact changeInCarts_rearmed _ _ _

/-! ## Induction lines -/

theorem refuseLine_rearmed (i t1 t2 : Nat) (s : State) : Rearmed b s (refuseLine i t1 t2 s) :=
  (modifyLine_rearmed _ _).trans (raiseIref_rearmed _ _ _ _ _)

theorem holdAgain_rearmed (i t1 t2 : Nat) (s : State) : Rearmed b s (holdAgain i t1 t2 s) :=
  .ite (fun _ => modifyLine_rearmed _ _) (fun _ => refuseLine_rearmed _ _ _ _)

theorem releaseLine_rearmed (i : Nat) (s : State) : Rearmed b s (releaseLine i s) := by
  unfold releaseLine
  split
  · exact ((modifyLine_rearmed _ _).trans (changeTray_rearmed _ _ _ _)).trans
      (holdAgain_rearmed _ _ _ _)
  · exact .refl _ _

theorem releaseReservations_rearmed (s : State) : Rearmed b s (releaseReservations s) :=
  .foldl (fun s i => releaseLine_rearmed i s) _ s

theorem dropHeldLine_rearmed (i : Nat) (s : State) : Rearmed b s (dropHeldLine i s) := by
  unfold dropHeldLine
  split
  · exact refuseLine_rearmed _ _ _ _
  · exact .refl _ _

theorem dropHeld_rearmed (s : State) : Rearmed b s (dropHeld s) := .foldl (fun s i => dropHeldLine_rearmed i s) _ s

theorem sendLaunch_rearmed (i k t1 t2 : Nat) (s : State) : Rearmed b s (sendLaunch i k t1 t2 s) :=
  ((queueTimed_rearmed _ _ _).trans (changeTray_rearmed _ _ _ _)).trans
    (modifyLine_rearmed _ _)

theorem launchFire_rearmed (i : Nat) (s : State) : Rearmed b s (launchFire i s) := by
  unfold launchFire
  split
  · exact .ite (fun _ => sendLaunch_rearmed _ _ _ _ _) (fun _ => releaseLine_rearmed _ _)
  · exact modifyLine_rearmed _ _

theorem evalLaunch_rearmed (adv i : Nat) (s : State) : Rearmed b s (evalLaunch adv i s) := by
  unfold evalLaunch
  split
  · exact .refl _ _
  · exact launchFire_rearmed _ _
  · exact releaseLine_rearmed _ _

theorem evalLaunches_rearmed (adv : Nat) (is : List Nat) (s : State) : Rearmed b s (evalLaunches adv is s) :=
  .foldl (fun s i => evalLaunch_rearmed adv i s) is s

theorem Line.arm_step (l : Line) (k v : Nat) : LineStep b v l (l.arm k v) := by
  unfold Line.arm
  split
  · rename_i c hc
    refine ⟨rfl, fun _ => rfl, fun x hx => .inr fun d hd => ?_⟩
    cases hx
    rw [hc] at hd
    cases hd
    rfl
  · exact .refl _ _ _

theorem reserveTray_releads (i k t1 t2 : Nat) (s : State) : Releads b s (reserveTray i k t1 t2 s) := by
  refine Releads.trans ?_ (evalLaunch_rearmed _ _ _).toReleads
  refine Releads.trans (changeTray_rearmed k .empty (fun _ => { Tray.blank .reserved with source := some i }) s).toReleads ?_
  refine modifyLine_releads i (fun l => ?_)
  have hs : (changeTray k .empty (fun _ => { Tray.blank .reserved with source := some i }) s).tracker.speed =
      s.tracker.speed := (changeTray_rearmed (b := b) _ _ _ _).speed
  rw [hs]
  exact LineStep.trans (l' := { l with state := .reserved k t1 t2 }) ⟨rfl, fun _ => rfl, .refl _ _ _⟩ (Line.arm_step _ _ _)

/-- An attempt is made only where monitors may arm (R32). -/
theorem State.mayArm_of_mayAllocate (h : s.mayAllocate = true) : s.mayArm = true := by
  simp only [State.mayAllocate, Bool.and_eq_true] at h
  obtain ⟨⟨ht, -⟩, hd⟩ := h
  simp [State.mayArm, ht, hd]

theorem attempt_rearmed (i : Nat) (s : State) : Rearmed b s (attempt i s) := by
  unfold attempt
  refine .ite (fun hm => ?_) (fun _ => .refl _ _)
  split
  · split
    · split
      · exact (reserveTray_releads _ _ _ _ _).rearmed (State.mayArm_of_mayAllocate hm)
      · exact .refl _ _
    · exact .refl _ _
  · exact .refl _ _

/-- A passing takes the tray from the yield bar, so that the bars do not stand. -/
theorem passLine_rearmed (i k : Nat) (s : State) : Rearmed False s (passLine i k s) :=
  (modifyLine_rearmed _ _).trans (attempt_rearmed _ _)

theorem launchDone_rearmed (i k t1 t2 g o : Nat) (s : State) : Rearmed False s (launchDone i k t1 t2 g o s) :=
  Rearmed.trans (.ite (fun _ => putTray_rearmed _ _ _) (fun _ => settleTray_rearmed _ _ _))
    (modifyLine_rearmed _ _)

theorem takeLdon_rearmed (src : Nat) (x : LdonBody) (s : State) : Rearmed False s (takeLdon src x s) := by
  unfold takeLdon
  split
  · exact notify_rearmed _ _
  · split
    · exact .ite (fun _ => launchDone_rearmed _ _ _ _ _ _ _) (fun _ => notify_rearmed _ _)
    · exact notify_rearmed _ _

theorem freeLaunch_rearmed (k : Nat) (i : Option Nat) (s : State) : Rearmed b s (freeLaunch k i s) := by
  unfold freeLaunch
  split
  · exact .refl _ _
  · refine modifyLine_rearmed _ _ (fun l => ?_)
    split
    · split <;> exact ⟨rfl, fun _ => rfl, .inl rfl⟩
    · exact ⟨rfl, fun _ => rfl, .inl rfl⟩

theorem loadAtArch_rearmed (k : Nat) (i : Option Nat) (s : State) : Rearmed b s (loadAtArch k i s) :=
  ((putTray_rearmed _ _ _).trans (freeLaunch_rearmed _ _ _)).trans (notify_rearmed _ _)

theorem emptyAtArch_rearmed (k : Nat) (i : Option Nat) (s : State) : Rearmed b s (emptyAtArch k i s) :=
  ((settleTray_rearmed _ _ _).trans (freeLaunch_rearmed _ _ _)).trans (notify_rearmed _ _)

theorem takeBrdy_rearmed (src line t1 t2 : Nat) (s : State) : Rearmed b s (takeBrdy src line t1 t2 s) := by
  unfold takeBrdy
  split
  · exact notify_rearmed _ _
  · split
    · exact notify_rearmed _ _
    · refine .ite (fun _ => notify_rearmed _ _) (fun _ => .ite (fun _ => raiseIref_rearmed _ _ _ _ _) (fun _ =>
        .ite (fun _ => raiseIref_rearmed _ _ _ _ _) (fun _ => .ite (fun _ => ?_) (fun _ => ?_))))
      · exact (raiseIref_rearmed _ _ _ _ _).trans (notify_rearmed _ _)
      · exact (modifyLine_rearmed _ _).trans (attempt_rearmed _ _)

/-! ## The arch -/

theorem countLookups_rearmed (lap : Nat) (set : List SetTag) (s : State) : Rearmed b s (countLookups lap set s) := by
  unfold countLookups
  split
  · exact .refl _ _
  · split
    · exact countLookup_rearmed _ _
    · exact (countLookup_rearmed _ _).trans (countLookup_rearmed _ _)
    · exact .refl _ _

theorem tellDeck_rearmed (k tag j : Nat) (kind : RouteKind) (s : State) : Rearmed b s (tellDeck k tag j kind s) := by
  unfold tellDeck
  split
  · exact reinduct_rearmed _ _ _ _
  · exact .refl _ _

theorem applyRoute_releads (k : Nat) (x : Tray) (r : Route) (s : State) : Releads b s (applyRoute k x r s) := by
  unfold applyRoute
  split
  · exact (putTray_rearmed _ _ _).toReleads
  · exact (tellDeck_rearmed _ _ _ _ _).toReleads.trans
      (queueOrder_releads _ _ _ _ _ (fun _ _ => putTray_rearmed _ _ _) _)

/-- Passes are routed only where monitors may arm (R60). -/
theorem State.mayArm_of_routes (h : s.routes = true) : s.mayArm = true := by
  simp only [State.routes, Bool.and_eq_true] at h
  obtain ⟨⟨-, ht⟩, hd⟩ := h
  simp [State.mayArm, ht, hd]

theorem handOn_rearmed (k lap : Nat) (src : Option Nat) (r : Reading) (s : State) :
    Rearmed b s (handOn k lap src r s) :=
  .ite
    (fun h => ((resolveRoute_rearmed _ _ _ _).toReleads.trans (applyRoute_releads _ _ _ _)).rearmed
      (State.mayArm_of_routes h))
    (fun _ => putTray_rearmed _ _ _)

theorem passBag_rearmed (k lap : Nat) (src : Option Nat) (set : List SetTag) (s : State) :
    Rearmed b s (passBag k lap src set s) := (countLookups_rearmed _ _ _).trans (handOn_rearmed _ _ _ _ _)

theorem passEmpty_rearmed (k : Nat) (o : Occupancy) (n1 n2 : Nat) (s : State) :
    Rearmed b s (passEmpty k o n1 n2 s) := by
  unfold passEmpty
  split
  · exact (notify_rearmed _ _).trans (passBag_rearmed _ _ _ _ _)
  · exact .refl _ _
  · exact .refl _ _

theorem passLoaded_rearmed (k : Nat) (x : Tray) (o : Occupancy) (n1 n2 : Nat) (s : State) :
    Rearmed b s (passLoaded k x o n1 n2 s) := by
  unfold passLoaded
  split
  · exact passBag_rearmed _ _ _ _ _
  · exact passBag_rearmed _ _ _ _ _
  · exact (settleTray_rearmed _ _ _).trans (notify_rearmed _ _)

theorem passRecirculate_rearmed (k : Nat) (x : Tray) (o : Occupancy) (n1 n2 : Nat) (s : State) :
    Rearmed b s (passRecirculate k x o n1 n2 s) := by
  unfold passRecirculate
  split
  · exact passBag_rearmed _ _ _ _ _
  · exact passBag_rearmed _ _ _ _ _
  · exact (settleTray_rearmed _ _ _).trans (notify_rearmed _ _)

theorem passDoubt_rearmed (k : Nat) (x : Tray) (o : Occupancy) (n1 n2 : Nat) (s : State) :
    Rearmed b s (passDoubt k x o n1 n2 s) := by
  unfold passDoubt
  split
  · exact (undoDrop_rearmed _ _ _ _ _ _).trans (passBag_rearmed _ _ _ _ _)
  · exact (presumeDrop_rearmed _ _ _ _ _).trans (settleTray_rearmed _ _ _)
  · exact .refl _ _

theorem passLaunching_rearmed (k : Nat) (x : Tray) (o : Occupancy) (n1 n2 : Nat) (s : State) :
    Rearmed b s (passLaunching k x o n1 n2 s) := by
  unfold passLaunching
  split
  · exact emptyAtArch_rearmed _ _ _
  · exact (loadAtArch_rearmed _ _ _).trans (passLoaded_rearmed _ _ _ _ _ _)
  · exact (loadAtArch_rearmed _ _ _).trans (passLoaded_rearmed _ _ _ _ _ _)

theorem passTray_rearmed (k : Nat) (o : Occupancy) (n1 n2 : Nat) (s : State) : Rearmed b s (passTray k o n1 n2 s) := by
  unfold passTray
  split
  · exact .refl _ _
  · split
    · exact passEmpty_rearmed _ _ _ _ _
    · exact passLaunching_rearmed _ _ _ _ _ _
    · exact passLoaded_rearmed _ _ _ _ _ _
    · exact passRecirculate_rearmed _ _ _ _ _ _
    · exact passDoubt_rearmed _ _ _ _ _ _
    all_goals exact withArch_rearmed rfl

theorem armScan_releads (k : Nat) (s : State) : Releads b s (armScan k s) := by
  unfold armScan
  split
  · rename_i g hg
    refine { Releads.refl b s with arch := fun x hx => .inr fun d hd => ?_ }
    cases hx
    rw [hg] at hd
    cases hd
    rfl
  · exact .refl _ _

theorem missScan_rearmed (k : Nat) (s : State) : Rearmed b s (missScan k s) :=
  (withArch_rearmed (by rfl)).trans (passTray_rearmed _ _ _ _ _)

theorem replaceScan_rearmed (s : State) : Rearmed b s (replaceScan s) := by
  unfold replaceScan
  split
  · exact .refl _ _
  · exact (withArch_rearmed (by rfl)).trans (passTray_rearmed _ _ _ _ _)

theorem fireScan_rearmed (k : Nat) (s : State) : Rearmed b s (fireScan k s) :=
  .ite (fun _ => ((queueTimed_rearmed _ _ _).trans (replaceScan_rearmed _)).trans (withArch_rearmed rfl))
    (fun _ => missScan_rearmed _ _)

theorem armFollowing_releads (start k : Nat) (s : State) : Releads b s (armFollowing start k s) := by
  unfold armFollowing
  split
  · split
    · exact (disarmScan_rearmed _).toReleads
    · exact armScan_releads _ _
  · exact (disarmScan_rearmed _).toReleads

theorem runScan_rearmed : ∀ (fuel adv start : Nat) (s : State), Rearmed b s (runScan fuel adv start s)
  | 0, _, _, s => .refl b s
  | fuel + 1, adv, start, s => by
    have fires : ∀ k, Releads b s (runScan fuel 0 start (armFollowing start k (fireScan k s))) := fun k =>
      ((fireScan_rearmed k s).toReleads.trans (armFollowing_releads _ _ _)).trans (runScan_rearmed fuel 0 start _).toReleads
    have misses : ∀ k, Releads b s (runScan fuel 0 start (armFollowing start k (missScan k s))) := fun k =>
      ((missScan_rearmed k s).toReleads.trans (armFollowing_releads _ _ _)).trans (runScan_rearmed fuel 0 start _).toReleads
    refine ⟨?_, fun _ hn => ?_⟩
    · unfold runScan
      split
      · exact .refl _ _
      · split
        · exact .refl _ _
        · exact fires _
        · exact misses _
    · unfold runScan
      rw [hn.1]
      exact hn

theorem evalScan_rearmed (adv : Nat) (s : State) : Rearmed b s (evalScan adv s) := by
  unfold evalScan
  split
  · exact .refl _ _
  · exact runScan_rearmed _ _ _ _

theorem armScan_evalScan_releads (k : Nat) (s : State) : Releads b s (evalScan 0 (armScan k s)) :=
  (armScan_releads k s).trans (evalScan_rearmed 0 _).toReleads

theorem freshArm_rearmed (s : State) : Rearmed b s (freshArm s) := by
  unfold freshArm
  refine .ite (fun h => ?_) (fun _ => .refl _ _)
  simp only [Bool.and_eq_true] at h
  have hm : s.mayArm = true := by simp [State.mayArm, h.1]
  split
  · split
    · exact (armScan_evalScan_releads _ _).rearmed hm
    · exact .refl _ _
  · exact .refl _ _

theorem moveScan_rearmed (k : Nat) (s : State) : Rearmed b s (moveScan k s) := by
  unfold moveScan
  refine .ite (fun hm => ?_) (fun _ => .refl _ _)
  split
  · exact ⟨armScan_evalScan_releads _ _, fun _ hn => by simp [hn.1] at hm⟩
  · exact disarmScan_rearmed _

theorem takeTscn_rearmed (src : Nat) (x : TscnBody) (s : State) : Rearmed b s (takeTscn src x s) := by
  unfold takeTscn
  split
  · exact withArch_rearmed rfl
  · exact .ite (fun _ => withArch_rearmed rfl) (fun _ => .ite (fun _ => withArch_rearmed rfl)
      (fun _ => (withArch_rearmed (by rfl)).trans (passTray_rearmed _ _ _ _ _)))

theorem tscnOp_rearmed (src : Nat) (x : Body TscnBody) (s : State) : Rearmed b s (tscnOp src x s) := by
  unfold tscnOp
  split
  · exact takeTscn_rearmed _ _ _
  · exact withArch_rearmed rfl

/-! ## Chute frames and commands -/

theorem Chute.confirm_mon (x : Confirmation) (c : Chute) : (c.confirm x).cfg = c.cfg ∧ (c.confirm x).mon = c.mon := by
  unfold Chute.confirm
  split <;> exact ⟨rfl, rfl⟩

theorem eyeSaw_rearmed (j : Nat) (c : Chute) (s : State) : Rearmed b s (eyeSaw j c s) := by
  unfold eyeSaw
  split
  · exact (modifyChute_rearmed _ _).trans (notify_rearmed _ _)
  · rename_i a rest _
    exact (modifyChute_rearmed _ _ (fun c =>
      ⟨(Chute.confirm_mon a { c with awaiting := rest }).1, .inl (Chute.confirm_mon a { c with awaiting := rest }).2⟩)).trans
      (changeTray_rearmed _ _ _ _)

theorem beginSwap_rearmed (j : Nat) (s : State) : Rearmed b s (beginSwap j s) :=
  ((modifyChute_rearmed _ _).trans (cancelQueue_rearmed _ _)).trans (closeCart_rearmed _ _)

theorem beginPriorSwap_rearmed (j : Nat) (s : State) : Rearmed b s (beginPriorSwap j s) :=
  (modifyChute_rearmed _ _).trans (closeCart_rearmed _ _)

theorem clearPresent_rearmed (j : Nat) (s : State) : Rearmed b s (clearPresent j s) :=
  modifyChute_rearmed _ _

theorem setPresent_rearmed (j : Nat) (s : State) : Rearmed b s (setPresent j s) :=
  modifyChute_rearmed _ _

theorem cartOut_rearmed (j : Nat) (c : Chute) (s : State) : Rearmed b s (cartOut j c s) := by
  unfold cartOut
  split
  · exact beginSwap_rearmed _ _
  · exact beginSwap_rearmed _ _
  · exact clearPresent_rearmed _ _
  · exact .refl _ _
  · split
    · exact beginPriorSwap_rearmed _ _
    · exact beginPriorSwap_rearmed _ _
    · exact clearPresent_rearmed _ _
    all_goals exact .refl _ _

theorem cartIn_rearmed (j : Nat) (c : Chute) (s : State) : Rearmed b s (cartIn j c s) := by
  unfold cartIn
  split
  · exact (setPresent_rearmed _ _).trans (swapTest_rearmed _ _)
  · exact .ite (fun _ => setPresent_rearmed _ _) (fun _ => .refl _ _)
  all_goals exact .refl _ _

theorem faultChute_rearmed (j : Nat) (c : Chute) (s : State) : Rearmed b s (faultChute j c s) := by
  have latch : ∀ s, Rearmed b s (stopOnFault j c s) := fun s => .ite (fun _ => setLatch_rearmed _ _) (fun _ => .refl _ _)
  exact .ite (fun _ => latch s) (fun _ =>
    ((modifyChute_rearmed _ _).trans (cancelQueue_rearmed _ _)).trans (latch _))

theorem clearFault_rearmed (j : Nat) (c : Chute) (s : State) : Rearmed b s (clearFault j c s) :=
  .ite (fun _ => (modifyChute_rearmed _ _ (by simp [Chute.restore])).trans (swapTest_rearmed _ _))
    (fun _ => .refl _ _)

theorem closeOrDiscard_rearmed (j : Nat) (c : Chute) (s : State) : Rearmed b s (closeOrDiscard j c s) :=
  .ite (fun _ => .refl _ _) (fun _ => closeCart_rearmed _ _)

theorem closeInUse_rearmed (j : Nat) (c : Chute) (s : State) : Rearmed b s (closeInUse j c s) :=
  ((modifyChute_rearmed _ _).trans (cancelQueue_rearmed _ _)).trans
    (closeOrDiscard_rearmed _ _ _)

theorem closeChute_rearmed (j : Nat) (c : Chute) (s : State) : Rearmed b s (closeChute j c s) := by
  unfold closeChute
  split
  · exact closeInUse_rearmed _ _ _
  · exact closeInUse_rearmed _ _ _
  · exact modifyChute_rearmed _ _
  · exact .refl _ _
  · split
    · exact (modifyChute_rearmed _ _).trans (closeOrDiscard_rearmed _ _ _)
    · exact (modifyChute_rearmed _ _).trans (closeOrDiscard_rearmed _ _ _)
    · exact modifyChute_rearmed _ _
    all_goals exact .refl _ _

theorem closeAtEnd_rearmed (j : Nat) (s : State) : Rearmed b s (closeAtEnd j s) := by
  unfold closeAtEnd
  split
  · exact .refl _ _
  · refine .ite (fun _ => ?_) (fun _ => closeChute_rearmed _ _ _)
    exact Rearmed.trans (.ite (fun _ => closeOrDiscard_rearmed _ _ _) (fun _ => .refl _ _))
      (modifyChute_rearmed _ _)

theorem closeAllChutes_rearmed (s : State) : Rearmed b s (closeAllChutes s) :=
  .foldl (fun s j => closeAtEnd_rearmed j s) _ s

/-! ## The chain -/

theorem announceLine_rearmed (adv i : Nat) (s : State) : Rearmed False s (announceLine adv i s) := by
  unfold announceLine
  split
  · exact .foldl (fun s k => passLine_rearmed i k s) _ s
  · exact .refl _ _

theorem announce_rearmed (adv : Nat) (s : State) : Rearmed False s (announce adv s) :=
  .foldl (fun s i => announceLine_rearmed adv i s) _ s

theorem evalScanIf_rearmed (armed : Bool) (adv : Nat) (s : State) : Rearmed b s (evalScanIf armed adv s) :=
  .ite (fun _ => evalScan_rearmed _ _) (fun _ => .refl _ _)

theorem evalAll_rearmed (adv : Nat) (before s : State) : Rearmed b s (evalAll adv before s) :=
  ((evalLaunches_rearmed _ _ _).trans (evalScanIf_rearmed _ _ _)).trans (evalHeads_rearmed _ _ _)

theorem movedForward_rearmed (adv : Nat) (s : State) : Rearmed False s (movedForward adv s) :=
  (announce_rearmed _ _).trans (evalAll_rearmed _ _ _)

end

end Sys2Proof.Machine
end

section
/-! # The law of the monitors through every operation and every step (R7, R12, R14) -/

namespace Sys2Proof.Machine

open Sys2Proof

/-! ## The law, with monitors that a speed sample has yet to take anew left out -/

/-- The law of the monitors but for the leads of the lines in L, of the chutes in C and, with A, of the arch: what holds
within a speed sample, where those monitors still have the lead of the sample before (R11). -/
structure State.LawBut (L C : Nat → Prop) (A : Prop) (s : State) : Prop where
  quiet : s.mayArm = false → s.NoneArmed
  lines : ∀ i l, s.lines[i]? = some l → L i ∨ ∀ c ∈ l.cfg, ∀ m ∈ l.mon, m.lead = leadOf s.tracker.speed c.delay
  arch : A ∨ ∀ g ∈ s.tracker.geo, ∀ m ∈ s.arch.mon, m.lead = leadOf s.tracker.speed g.archDelay
  chutes : ∀ j c, s.carts.chutes[j]? = some c → C j ∨ ∀ m ∈ c.mon, m.lead = leadOf s.tracker.speed c.cfg.delay

theorem monitorLaw_iff (s : State) : s.MonitorLaw ↔ s.LawBut (fun _ => False) (fun _ => False) False := by
  constructor
  · rintro ⟨h1, h2, h3, h4⟩
    exact ⟨h1, fun i l hl => .inr (h2 l (List.mem_of_getElem? hl)), .inr h3,
      fun j c hc => .inr (h4 c (List.mem_of_getElem? hc))⟩
  · rintro ⟨h1, h2, h3, h4⟩
    refine ⟨h1, fun l hl => ?_, h3.resolve_left id, fun c hc => ?_⟩
    · obtain ⟨i, hi⟩ := List.mem_iff_getElem?.1 hl
      exact (h2 i l hi).resolve_left id
    · obtain ⟨j, hj⟩ := List.mem_iff_getElem?.1 hc
      exact (h4 j c hj).resolve_left id

theorem forall₂_getElem? {α : Type} {R : α → α → Prop} {l m : List α} (h : List.Forall₂ R l m) :
    ∀ {i : Nat} {y : α}, m[i]? = some y → ∃ x, l[i]? = some x ∧ R x y := by
  induction h with
  | nil => intro i y hy; simp at hy
  | cons hr _ ih =>
    intro i y hy
    cases i with
    | zero =>
      rw [List.getElem?_cons_zero, Option.some.injEq] at hy
      exact ⟨_, rfl, hy ▸ hr⟩
    | succ i => simpa using ih (by simpa using hy)

section
variable {b : Prop} {s t : State} {L C : Nat → Prop} {A : Prop}

/-- A `Rearmed` step keeps the law, whatever is left out of it. -/
theorem Rearmed.lawBut (h : Rearmed b s t) (hs : s.LawBut L C A) : t.LawBut L C A where
  quiet := fun hm => h.quiet (h.mayArm ▸ hm) (hs.quiet (h.mayArm ▸ hm))
  lines := by
    intro i l' hl'
    obtain ⟨l, hl, hc, -, hm⟩ := forall₂_getElem? h.lines hl'
    refine (hs.lines i l hl).imp_right fun hlead c hcfg m hmon => ?_
    rw [h.speed]
    rw [hc] at hcfg
    rcases hm m hmon with h1 | h1
    · exact hlead c hcfg m h1
    · exact h1 _ (by simpa using ⟨c, hcfg, rfl⟩)
  arch := by
    refine hs.arch.imp_right fun hlead g hg m hmon => ?_
    rw [h.speed]
    rw [h.geo] at hg
    rcases h.arch m hmon with h1 | h1
    · exact hlead g hg m h1
    · exact h1 _ (by simpa using ⟨g, hg, rfl⟩)
  chutes := by
    intro j c' hc'
    obtain ⟨c, hc, hcfg, hm⟩ := forall₂_getElem? h.chutes hc'
    refine (hs.chutes j c hc).imp_right fun hlead m hmon => ?_
    rw [h.speed, hcfg]
    rcases hm m hmon with h1 | h1
    · exact hlead m h1
    · exact h1 _ rfl

theorem Rearmed.monitorLaw (h : Rearmed b s t) (hs : s.MonitorLaw) : t.MonitorLaw :=
  (monitorLaw_iff t).2 (h.lawBut ((monitorLaw_iff s).1 hs))

/-- With no monitor armed the law holds, whatever the tracker and the ports. -/
theorem State.NoneArmed.monitorLaw (h : s.NoneArmed) : s.MonitorLaw := by
  obtain ⟨h1, h2, h3⟩ := h
  refine ⟨fun _ => ⟨h1, h2, h3⟩, fun l hl c _ m hm => ?_, fun g _ m hm => ?_, fun c hc m hm => ?_⟩
  · simp [h2 l hl] at hm
  · simp [h1] at hm
  · simp [h3 c hc] at hm

/-- The monitors of t are those of s. -/
theorem State.NoneArmed.congr (h : s.NoneArmed) (hl : t.lines = s.lines) (ha : t.arch.mon = s.arch.mon)
    (hc : t.carts.chutes = s.carts.chutes) : t.NoneArmed :=
  ⟨ha.trans h.1, hl ▸ h.2.1, hc ▸ h.2.2⟩

theorem disarmAll_noneArmed (s : State) : (disarmAll s).NoneArmed := by
  refine ⟨rfl, fun l hl => ?_, fun c hc => ?_⟩
  · obtain ⟨x, -, rfl⟩ := List.mem_map.1 hl
    rfl
  · obtain ⟨x, -, rfl⟩ := List.mem_map.1 hc
    rfl

/-- Monitors are disarmed where none may arm. -/
theorem State.MonitorLaw.noneArmed (h : s.MonitorLaw) (hm : s.mayArm = false) : s.NoneArmed := h.1 hm

/-! ## Speed samples (R11) -/

/-- The lead of a line's monitor, if armed, taken anew at speed v. -/
def Line.resampled (v : Nat) (l : Line) : Line :=
  match l.mon with
  | some m => l.arm m.tray v
  | none => l

/-- The lead of a chute's monitor, if armed, taken anew at speed v. -/
def Chute.resampled (v : Nat) (c : Chute) : Chute :=
  match c.mon with
  | some m => c.arm m.tray v
  | none => c

theorem resampleLaunch_eq (i : Nat) (s : State) :
    resampleLaunch i s = evalLaunch 0 i (modifyLine i (Line.resampled s.tracker.speed) s) := rfl

theorem resampleHead_eq (j : Nat) (s : State) :
    resampleHead j s = evalHead 0 j (modifyChute j (Chute.resampled s.tracker.speed) s) := rfl

theorem Line.resampled_mon_none (v : Nat) {l : Line} (h : l.mon = none) : l.resampled v = l := by
  simp [Line.resampled, h]

theorem Chute.resampled_mon_none (v : Nat) {c : Chute} (h : c.mon = none) : c.resampled v = c := by
  simp [Chute.resampled, h]

theorem Line.resampled_lead (v : Nat) (l : Line) : ∀ c ∈ (l.resampled v).cfg, ∀ m ∈ (l.resampled v).mon,
    m.lead = leadOf v c.delay := by
  unfold Line.resampled
  split
  · unfold Line.arm
    split
    · rename_i hc
      intro c hc' m hm
      simp only [hc, Option.mem_def, Option.some.injEq] at hc' hm
      rw [← hm, hc']
    · rename_i hc
      intro c hc'
      simp [hc] at hc'
  · rename_i hm
    intro c _ m hm'
    simp [hm] at hm'

theorem Chute.resampled_lead (v : Nat) (c : Chute) : ∀ m ∈ (c.resampled v).mon,
    m.lead = leadOf v (c.resampled v).cfg.delay := by
  unfold Chute.resampled
  split
  · intro m hm
    cases hm
    rfl
  · rename_i hm
    intro m hm'
    simp [hm] at hm'

/-- A line whose lead is taken anew is no longer left out of the law. -/
theorem State.LawBut.resampleLaunch {i : Nat} {is : List Nat} (h : s.LawBut (· ∈ i :: is) C A) :
    (resampleLaunch i s).LawBut (· ∈ is) C A := by
  rw [resampleLaunch_eq]
  refine (evalLaunch_rearmed (b := False) 0 i _).lawBut ⟨fun hm => ?_, fun k l hl => ?_, h.arch, h.chutes⟩
  · obtain ⟨h1, h2, h3⟩ := h.quiet hm
    refine ⟨h1, fun l hl => ?_, h3⟩
    rcases mem_modify hl with hl | ⟨x, hx, rfl⟩
    · exact h2 l hl
    · rw [Line.resampled_mon_none _ (h2 x hx)]
      exact h2 x hx
  · rw [modifyLine_lines, List.getElem?_modify] at hl
    by_cases hik : i = k
    · obtain ⟨x, -, rfl⟩ : ∃ x, s.lines[k]? = some x ∧ x.resampled s.tracker.speed = l := by simpa [hik] using hl
      exact .inr (x.resampled_lead _)
    · refine (h.lines k l (by simpa [hik] using hl)).imp_left fun hk => ?_
      simpa [Ne.symm hik] using hk

/-- A chute whose lead is taken anew is no longer left out of the law. -/
theorem State.LawBut.resampleHead {j : Nat} {js : List Nat} (h : s.LawBut L (· ∈ j :: js) A) :
    (resampleHead j s).LawBut L (· ∈ js) A := by
  rw [resampleHead_eq]
  refine (evalHead_rearmed (b := False) 0 j _).lawBut ⟨fun hm => ?_, h.lines, h.arch, fun k c hc => ?_⟩
  · obtain ⟨h1, h2, h3⟩ := h.quiet hm
    refine ⟨h1, h2, fun c hc => ?_⟩
    rcases mem_modify hc with hc | ⟨x, hx, rfl⟩
    · exact h3 c hc
    · rw [Chute.resampled_mon_none _ (h3 x hx)]
      exact h3 x hx
  · rw [modifyChute_carts, List.getElem?_modify] at hc
    by_cases hjk : j = k
    · obtain ⟨x, -, rfl⟩ : ∃ x, s.carts.chutes[k]? = some x ∧ x.resampled s.tracker.speed = c := by
        simpa [hjk] using hc
      exact .inr (x.resampled_lead _)
    · refine (h.chutes k c (by simpa [hjk] using hc)).imp_left fun hk => ?_
      simpa [Ne.symm hjk] using hk

/-- The scan monitor's lead taken anew, or a fresh arming where it was disarmed: it is no longer left out of the law. -/
theorem State.LawBut.resampleScan (h : s.LawBut L C True) : (resampleScan s).LawBut L C False := by
  unfold Machine.resampleScan
  split
  · rename_i m hm
    refine (evalScan_rearmed (b := False) 0 _).lawBut ?_
    have hx := armScan_releads (b := False) m.tray s
    refine ⟨fun ha => ?_, ?_, .inr fun g hg => ?_, ?_⟩
    · have := (h.quiet (hx.mayArm ▸ ha)).1
      simp [this] at hm
    · intro i l hl
      unfold armScan at hl ⊢
      split at hl <;> exact h.lines i l hl
    · rw [hx.geo] at hg
      rw [hx.speed]
      unfold armScan
      rw [Option.mem_def] at hg
      rw [hg]
      rintro x hx
      cases hx
      rfl
    · intro j c hc
      unfold armScan at hc ⊢
      split at hc <;> exact h.chutes j c hc
  · rename_i hm
    refine (freshArm_rearmed (b := False) s).lawBut ⟨h.quiet, h.lines, .inr fun g _ m hm' => ?_, h.chutes⟩
    simp [hm] at hm'

theorem State.LawBut.resampleLaunches : ∀ {is : List Nat} {s : State}, s.LawBut (· ∈ is) C A →
    (is.foldl (fun s i => Machine.resampleLaunch i s) s).LawBut (· ∈ ([] : List Nat)) C A
  | [], _, h => h
  | _ :: _, _, h => h.resampleLaunch.resampleLaunches

theorem State.LawBut.resampleHeads : ∀ {js : List Nat} {s : State}, s.LawBut L (· ∈ js) A →
    (js.foldl (fun s j => Machine.resampleHead j s) s).LawBut L (· ∈ ([] : List Nat)) A
  | [], _, h => h
  | _ :: _, _, h => h.resampleHead.resampleHeads

theorem resampleAll_monitorLaw (hq : s.mayArm = false → s.NoneArmed) : (resampleAll s).MonitorLaw := by
  have h : s.LawBut (· ∈ s.armedLines) (· ∈ s.armedChutes) True := by
    refine ⟨hq, fun i l hl => ?_, .inl trivial, fun j c hc => ?_⟩
    · by_cases hm : l.mon = none
      · exact .inr fun c _ m hm' => by simp [hm] at hm'
      · left
        refine List.mem_filter.2 ⟨List.mem_range.2 (List.getElem?_eq_some_iff.1 hl).1, ?_⟩
        simp [hl, Option.isSome_iff_ne_none, hm]
    · by_cases hm : c.mon = none
      · exact .inr fun m hm' => by simp [hm] at hm'
      · left
        refine List.mem_filter.2 ⟨List.mem_range.2 (List.getElem?_eq_some_iff.1 hc).1, ?_⟩
        simp [hc, Option.isSome_iff_ne_none, hm]
  have h' := h.resampleLaunches.resampleScan.resampleHeads
  rw [monitorLaw_iff]
  exact ⟨h'.quiet, fun i l hl => (h'.lines i l hl).imp_left (by simp), h'.arch,
    fun j c hc => (h'.chutes j c hc).imp_left (by simp)⟩

theorem speedSample_monitorLaw (h : s.MonitorLaw) : (speedSample s).MonitorLaw := by
  unfold speedSample
  split
  · exact resampleAll_monitorLaw h.1
  · rename_i ht
    exact State.NoneArmed.monitorLaw (s := withTracker _ s) (h.noneArmed (by simp [State.mayArm, ht]))

/-! ## The chain -/

theorem enterLost_monitorLaw (cause : StopCause) (s : State) : (enterLost cause s).MonitorLaw := by
  have h := ((((cancelAll_rearmed (b := False) (disarmAll (withTracker { s.tracker with state := .lost } s))).trans
    (withdrawDrops_rearmed _)).trans (releaseReservations_rearmed _)).trans
    (notify_rearmed (lostNotice cause) _)).trans (setLatch_rearmed cause _)
  exact h.monitorLaw (disarmAll_noneArmed _).monitorLaw

theorem encoderStep_rearmed (ph : EncPhase) (s : State) : Rearmed False s (encoderStep ph s) := by
  have h : ∀ fwd, Rearmed False s (withTracker (s.tracker.count fwd) (withPins (s.pins.toggle ph) s)) := fun _ =>
    .of_same rfl rfl rfl rfl rfl rfl rfl
  exact .ite (fun _ => (h _).trans (movedForward_rearmed 1 _)) (fun _ => h _)

theorem bothChange_monitorLaw (h : s.MonitorLaw) : (bothChange s).MonitorLaw := by
  have hp : Rearmed False s (withPins { s.pins with encA := !s.pins.encA, encB := !s.pins.encB } s) :=
    .of_same rfl rfl rfl rfl rfl rfl rfl
  unfold bothChange encoderFault
  split
  · exact hp.monitorLaw h
  · exact enterLost_monitorLaw _ _
  · exact (hp.trans (setLatch_rearmed _ _)).monitorLaw h
  · exact (hp.trans (setLatch_rearmed _ _)).monitorLaw h

theorem resync_monitorLaw (left : TrackState) (h : s.MonitorLaw) (ht : s.isTracking = false) :
    (resync left s).MonitorLaw := by
  have hn : (withTracker { s.tracker with disp := 0, state := .tracking } s).NoneArmed :=
    State.NoneArmed.congr (h.noneArmed (by simp [State.mayArm, ht])) rfl rfl rfl
  exact ((notify_rearmed (b := False) _ _).trans (freshArm_rearmed _)).monitorLaw hn.monitorLaw

theorem homePulse_monitorLaw (h : s.MonitorLaw) : (homePulse s).MonitorLaw := by
  unfold homePulse
  split
  · exact h
  · exact resync_monitorLaw _ h (by simp [State.isTracking, *])
  · exact resync_monitorLaw _ h (by simp [State.isTracking, *])
  · split
    · unfold driftCheck
      split
      · exact (Rearmed.trans (b := False) (.of_same rfl rfl rfl rfl rfl rfl rfl)
          (movedForward_rearmed _ _)).monitorLaw h
      · exact enterLost_monitorLaw _ _
    · exact h

/-! ## The line link -/

/-- A change of a port that leaves the state of the DOWN port. -/
theorem modifyPort_rearmed (p : PortId) {f : Port → Port} (s : State)
    (h : p = .down → (f s.link.down).state = s.link.down.state := by intros; rfl) : Rearmed b s (modifyPort p f s) :=
  .of_same rfl rfl rfl (by cases p; exacts [rfl, h rfl]) rfl rfl rfl

theorem withLink_rearmed {l : Link} (s : State) (h : l.down.state = s.link.down.state := by rfl) :
    Rearmed b s (withLink l s) := .of_same rfl rfl rfl h rfl rfl rfl

@[simp] theorem Port.start_state (p : Port) (next : Option Tx) : (p.start next).state = p.state := by
  unfold Port.start
  split
  · rfl
  · split <;> rfl

theorem settle_rearmed (s : State) : Rearmed b s (settle s) :=
  .of_same rfl rfl rfl (Port.start_state _ _) rfl rfl rfl

/-- A port that was not UP has no monitor armed behind it, if it is the DOWN port; a change of it keeps the law. -/
theorem modifyPort_monitorLaw (p : PortId) {f : Port → Port} (h : s.MonitorLaw) (hp : (s.port p).state ≠ .up) :
    (modifyPort p f s).MonitorLaw := by
  cases p with
  | up => exact (modifyPort_rearmed (b := False) .up s (fun h => nomatch h)).monitorLaw h
  | down =>
    have hd : s.downUp = false := by simpa [State.downUp, State.port, Link.port] using hp
    exact State.NoneArmed.monitorLaw ((h.noneArmed (by simp [State.mayArm, hd])).congr rfl rfl rfl)

theorem onUp_rearmed (p : PortId) (s : State) : Rearmed b s (onUp p s) := by
  cases p
  · exact .refl _ _
  · exact freshArm_rearmed s

theorem trainingReceived_monitorLaw (p : PortId) (h : s.MonitorLaw) : (trainingReceived p s).MonitorLaw := by
  unfold trainingReceived
  split
  · exact h
  · rename_i hs
    exact ((notify_rearmed (b := False) _ _).trans (onUp_rearmed p _)).monitorLaw
      (modifyPort_monitorLaw p h (by rw [hs]; simp))
  · exact (modifyPort_rearmed (b := False) p s).monitorLaw h

theorem idleReceived_rearmed (p : PortId) (s : State) : Rearmed b s (idleReceived p s) := by
  unfold idleReceived
  split
  · exact .refl _ _
  · exact .refl _ _
  · exact modifyPort_rearmed p s

theorem fieldLinkFault_monitorLaw (s : State) : (fieldLinkFault s).MonitorLaw := by
  unfold fieldLinkFault
  have hd : ∀ s, Rearmed False s (discardTimed s) := fun s => .of_same rfl rfl rfl rfl rfl rfl rfl
  have h := fun s : State => ((((((cancelAll_rearmed (b := False) s).trans (withdrawDrops_rearmed _)).trans (hd _)).trans
    (modifyPort_rearmed .down (f := Port.emptyForward) _)).trans (releaseReservations_rearmed _)).trans
    (notify_rearmed (linkNotice .down .up .down) _)).trans (setLatch_rearmed .linkDown _)
  exact (h _).monitorLaw (disarmAll_noneArmed _).monitorLaw

theorem hostLinkFault_rearmed (s : State) : Rearmed b s (hostLinkFault s) :=
  (modifyPort_rearmed .up s (fun h => nomatch h)).trans (notify_rearmed _ _)

theorem linkTimeout_monitorLaw (p : PortId) (h : s.MonitorLaw) : (linkTimeout p s).MonitorLaw := by
  unfold linkTimeout
  split
  · exact h
  · exact h
  · cases p
    · exact (hostLinkFault_rearmed (b := False) s).monitorLaw h
    · exact fieldLinkFault_monitorLaw s

theorem holdoffEnd_monitorLaw (p : PortId) (h : s.MonitorLaw) : (holdoffEnd p s).MonitorLaw := by
  unfold holdoffEnd
  split
  · rename_i hs
    exact (notify_rearmed (b := False) _ _).monitorLaw (modifyPort_monitorLaw p h (by rw [hs]; simp))
  · exact h
  · exact h

theorem trainingSend_rearmed (p : PortId) (s : State) : Rearmed b s (trainingSend p s) := by
  unfold trainingSend
  split
  · exact modifyPort_rearmed p s
  · exact .refl _ _
  · exact .refl _ _

theorem idleSend_rearmed (p : PortId) (s : State) : Rearmed b s (idleSend p s) :=
  .ite (fun _ => modifyPort_rearmed p s) (fun _ => .refl _ _)

theorem forwardTo_rearmed (p : PortId) (f : Frame) (s : State) : Rearmed b s (forwardTo p f s) :=
  modifyPort_rearmed p s (by intro _; split <;> rfl)

theorem takeRequest_rearmed (hdr : ReqHdr) (r : Request) (s : State) : Rearmed b s (takeRequest hdr r s) :=
  .ite (fun _ => .of_same rfl rfl rfl rfl rfl rfl rfl)
    (fun _ => .ite (fun _ => .of_same rfl rfl rfl rfl rfl rfl rfl) (fun _ => .of_same rfl rfl rfl rfl rfl rfl rfl))

theorem drawFree_rearmed (s : State) : Rearmed b s (drawFree s).2 := .of_same rfl rfl rfl rfl rfl rfl rfl

theorem brdyOp_rearmed (src : Nat) (x : Body BrdyBody) (s : State) : Rearmed b s (brdyOp src x s) := by
  cases x
  · exact takeBrdy_rearmed _ _ _ _ _
  · exact ((drawFree_rearmed s).trans (drawFree_rearmed _)).trans (notify_rearmed _ _)

theorem ldonOp_rearmed (src : Nat) (x : Body LdonBody) (s : State) : Rearmed False s (ldonOp src x s) := by
  cases x
  · exact takeLdon_rearmed _ _ _
  · exact ((drawFree_rearmed s).trans (drawFree_rearmed _)).trans (notify_rearmed _ _)

/-- A chute frame handed to an entry that keeps the monitors, or dropped. -/
theorem chuteFrame_rearmed (src : Nat) (x : Body Nat) {entry : Nat → Chute → State → State} (s : State)
    (h : ∀ j c s, Rearmed b s (entry j c s)) : Rearmed b s (chuteFrame src x entry s) := by
  unfold chuteFrame
  split
  · exact h _ _ _
  · exact rejectChute_rearmed s

theorem fieldFrame_rearmed (f : Frame) (s : State) : Rearmed False s (fieldFrame f s) := by
  unfold fieldFrame
  split
  · exact brdyOp_rearmed _ _ _
  · exact ldonOp_rearmed _ _ _
  · exact tscnOp_rearmed _ _ _
  · exact chuteFrame_rearmed _ _ _ eyeSaw_rearmed
  · exact chuteFrame_rearmed _ _ _ cartOut_rearmed
  · exact chuteFrame_rearmed _ _ _ cartIn_rearmed
  · exact chuteFrame_rearmed _ _ _ faultChute_rearmed
  · exact chuteFrame_rearmed _ _ _ clearFault_rearmed
  · exact .refl _ _

theorem intake_rearmed (p : PortId) (f : Frame) (s : State) : Rearmed False s (intake p f s) := by
  unfold intake
  split
  · cases p
    · exact withLink_rearmed s
    · exact .ite (fun _ => fieldFrame_rearmed _ _) (fun _ => withLink_rearmed s)
  · split
    · cases p
      · exact (withLink_rearmed s).trans (takeRequest_rearmed _ _ _)
      · exact withLink_rearmed s
    · exact withLink_rearmed s

theorem decideFrame_monitorLaw (p : PortId) (f : Frame) (h : s.MonitorLaw) : (decideFrame p f s).MonitorLaw := by
  unfold decideFrame
  split
  · exact trainingReceived_monitorLaw p h
  · refine Rearmed.monitorLaw (b := False) ?_ h
    refine .ite (fun _ => .refl _ _) (fun _ => .ite (fun _ => withLink_rearmed s) (fun _ =>
      .ite (fun _ => intake_rearmed _ _ _) (fun _ => .ite (fun _ => ?_) (fun _ => forwardTo_rearmed _ _ _))))
    exact (forwardTo_rearmed _ _ _).trans (intake_rearmed _ _ _)

theorem frameReceived_monitorLaw (p : PortId) (r : Received) (h : s.MonitorLaw) :
    (frameReceived p r s).MonitorLaw := by
  unfold frameReceived
  split
  · exact h
  · unfold receiveTraining
    split
    · exact h
    · exact h
    · split
      · exact trainingReceived_monitorLaw p h
      · exact h
  · unfold receiveUp
    split
    · exact (modifyPort_rearmed (b := False) p s).monitorLaw h
    · exact (modifyPort_rearmed (b := False) p s).monitorLaw h
    · exact decideFrame_monitorLaw p _ ((modifyPort_rearmed (b := False) p s).monitorLaw h)

theorem timedSent_rearmed (s : State) : Rearmed b s (timedSent s) := by
  unfold timedSent
  split
  · exact .refl _ _
  · exact .ite (fun _ => .ite (fun _ => (withLink_rearmed s).trans (drainWatch_rearmed _)) (fun _ => withLink_rearmed s))
      (fun _ => .refl _ _)

theorem leavePlace_rearmed (cls : TxClass) (s : State) : Rearmed b s (leavePlace cls s) := by
  cases cls with
  | timing => exact timedSent_rearmed s
  | iref => exact withLink_rearmed s
  | cart => exact cartFrameSent_rearmed s
  | reply => exact .of_same rfl rfl rfl rfl rfl rfl rfl
  | note => exact .of_same rfl rfl rfl rfl rfl rfl rfl
  | training => exact .refl _ _
  | idle => exact .refl _ _
  | answer => exact .refl _ _
  | forward => exact .refl _ _

theorem frameSent_rearmed (p : PortId) (s : State) : Rearmed b s (frameSent p s) := by
  unfold frameSent
  split
  · exact .refl _ _
  · exact (modifyPort_rearmed p s).trans (leavePlace_rearmed _ _)

/-! ## Management requests -/

theorem dropRequest_rearmed (s : State) : Rearmed b s (dropRequest s) := .of_same rfl rfl rfl rfl rfl rfl rfl
theorem pushReply_rearmed (hdr : ReqHdr) (r : Request) (x : Status) (d : List Datum) (s : State) :
    Rearmed b s (pushReply hdr r x d s) := .of_same rfl rfl rfl rfl rfl rfl rfl

/-- A served request keeps the law if its owner does. -/
theorem serve_monitorLaw {hdr : ReqHdr} {r : Request} {owner : State → Served} (h : s.MonitorLaw)
    (ho : ∀ s : State, s.MonitorLaw → (owner s).state.MonitorLaw) (he : serve hdr r owner s = .next t) :
    t.MonitorLaw := by
  rw [serve_eq, Host.Outcome.next.injEq] at he
  rw [← he]
  refine (settle_rearmed (b := False) _).monitorLaw ?_
  split
  · exact (pushReply_rearmed (b := False) _ _ _ _ _).monitorLaw
      (ho _ ((dropRequest_rearmed (b := False) s).monitorLaw h))
  · exact h

/-- A served request keeps the law if its owner keeps the monitors. -/
theorem serve_rearmed_monitorLaw {hdr : ReqHdr} {r : Request} {owner : State → Served} (h : s.MonitorLaw)
    (ho : ∀ s, Rearmed False s (owner s).state) (he : serve hdr r owner s = .next t) : t.MonitorLaw :=
  serve_monitorLaw h (fun s hs => (ho s).monitorLaw hs) he

theorem done_monitorLaw {f : State → State} (h : (f s).MonitorLaw) (he : done (f s) = .next t) : t.MonitorLaw := by
  rw [done_eq, Host.Outcome.next.injEq] at he
  exact he ▸ (settle_rearmed (b := False) _).monitorLaw h

/-! ### Modes -/

theorem enterQuiet_rearmed (m : Mode) (s : State) : Rearmed b s (enterQuiet m s) :=
  (withSession_rearmed _ s).trans (withdrawDrops_rearmed _)

theorem closeChuteStaging_rearmed (s : State) : Rearmed b s (closeChuteStaging s) := .of_same rfl rfl rfl rfl rfl rfl rfl

theorem openSession_rearmed (n : Nat) (s : State) : Rearmed b s (openSession n s) := by
  unfold openSession
  refine Rearmed.trans (Rearmed.trans ?_ (enterQuiet_rearmed _ _)) (notify_rearmed _ _)
  exact .of_same rfl rfl rfl rfl rfl rfl rfl

theorem beginDrain_rearmed (s : State) : Rearmed b s (beginDrain s) :=
  (((((withSession_rearmed _ s).trans (withRouter_rearmed _ _)).trans (dropHeld_rearmed _)).trans
    (withSession_rearmed _ _)).trans (notify_rearmed _ _)).trans (drainWatch_rearmed _)

theorem closeSession_rearmed (s : State) : Rearmed b s (closeSession s) := by
  have h : Rearmed b s (closeManifest (closeAllChutes s)) :=
    (closeAllChutes_rearmed s).trans (.of_same rfl rfl rfl rfl rfl rfl rfl)
  exact ((h.trans (withSession_rearmed _ _)).trans (enterQuiet_rearmed _ _)).trans (notify_rearmed _ _)

theorem serveOpen_rearmed (arg : ModeOpenArg) (s : State) : Rearmed b s (serveOpen arg s).state := by
  unfold serveOpen
  split
  · exact .refl _ _
  · split <;> exact .refl _ _
  · split
    · exact .refl _ _
    · split
      · exact .refl _ _
      · exact openSession_rearmed _ _

theorem serveShadow_rearmed (s : State) : Rearmed b s (serveShadow s).state := by
  unfold serveShadow
  split
  · exact .refl _ _
  · split
    · exact ((closeChuteStaging_rearmed s).trans (enterQuiet_rearmed _ _)).trans (notify_rearmed _ _)
    · exact .refl _ _

theorem serveSetup_rearmed (s : State) : Rearmed b s (serveSetup s).state := by
  unfold serveSetup
  split
  · exact .refl _ _
  · exact ((cancelAll_rearmed s).trans (enterQuiet_rearmed _ _)).trans (notify_rearmed _ _)

theorem serveSort_rearmed (s : State) : Rearmed b s (serveSort s).state := by
  unfold serveSort
  split
  · exact .refl _ _
  · split
    · exact (((closeChuteStaging_rearmed s).trans (withRouter_rearmed _ _)).trans (withSession_rearmed _ _)).trans
        (notify_rearmed _ _)
    · exact .refl _ _

theorem serveDrain_rearmed (s : State) : Rearmed b s (serveDrain s).state := by
  unfold serveDrain
  split
  · exact .refl _ _
  · exact beginDrain_rearmed s

theorem serveClose_rearmed (s : State) : Rearmed b s (serveClose s).state := by
  unfold serveClose
  split
  · exact .refl _ _
  · exact closeSession_rearmed s

theorem serveClrs_rearmed (s : State) : Rearmed b s (serveClrs s).state := by
  unfold serveClrs
  split
  · exact releaseLatch_rearmed s
  · exact .refl _ _

theorem disableTray_rearmed (k : Nat) (s : State) : Rearmed b s (disableTray k s).state := by
  unfold disableTray
  split
  · exact .refl _ _
  · split
    · exact (settleTray_rearmed _ _ _).trans (moveScan_rearmed _ _)
    · split <;> exact .refl _ _

theorem enableTray_rearmed (k : Nat) (s : State) : Rearmed b s (enableTray k s).state := by
  unfold enableTray
  split
  · exact .refl _ _
  · split
    · exact (settleTray_rearmed _ _ _).trans (freshArm_rearmed _)
    · exact .refl _ _

theorem serveTcmdDisable_rearmed (arg : ActionArg) (s : State) : Rearmed b s (serveTcmdDisable arg s).state := by
  cases arg
  · exact disableTray_rearmed _ _
  · exact .refl _ _
  · exact .refl _ _

theorem resetLines_noneArmed (s : State) : ∀ l ∈ (resetLines s).lines, l.mon = none := by
  intro l hl
  obtain ⟨x, -, rfl⟩ := List.mem_map.1 hl
  rfl

theorem lineReset_monitorLaw (s : State) : (lineReset s).MonitorLaw := by
  have h : (resetTrays (discardTimed (resetDrops (resetChutes (resetArch (resetLines s)))))).NoneArmed := by
    refine ⟨rfl, resetLines_noneArmed s, fun c hc => ?_⟩
    obtain ⟨x, -, rfl⟩ := List.mem_map.1 hc
    rfl
  refine ((releaseLatch_rearmed (b := False) _).trans (drainWatch_rearmed _)).monitorLaw (State.NoneArmed.monitorLaw ?_)
  exact h.congr rfl rfl rfl

/-! ### Tables -/

theorem configuredLines_mon (a : LoopArg) : ∀ l ∈ configuredLines a, l.mon = none := by
  intro l hl
  rcases List.mem_append.1 hl with hl | hl
  · obtain ⟨x, -, rfl⟩ := List.mem_map.1 hl
    rfl
  · rw [(List.mem_replicate.1 hl).2]
    rfl

theorem applyLoop_monitorLaw (a : LoopArg) (s : State) : (applyLoop a s).MonitorLaw :=
  State.NoneArmed.monitorLaw ⟨rfl, configuredLines_mon a, (disarmAll_noneArmed s).2.2⟩

theorem serveLcfg_monitorLaw (arg : Option LoopArg) (h : s.MonitorLaw) : (serveLcfg arg s).state.MonitorLaw := by
  unfold serveLcfg
  split
  · exact h
  · split
    · exact h
    · split
      · exact h
      · split
        · exact h
        · exact applyLoop_monitorLaw _ _

theorem installChutes_mon : ∀ (first : Nat) (cs : List ChuteArg), ∀ c ∈ installChutes first cs, c.mon = none
  | _, [], _, h => nomatch h
  | first, x :: rest, c, h => by
    rcases List.mem_cons.1 h with rfl | h
    · rfl
    · exact installChutes_mon _ rest c h

theorem installTable_monitorLaw (cs : List ChuteArg) (h : s.MonitorLaw) : (installTable cs s).MonitorLaw := by
  obtain ⟨h1, h2, h3, -⟩ := h
  refine ⟨fun hm => ?_, h2, h3, fun c hc m hm => ?_⟩
  · exact ⟨(h1 hm).1, (h1 hm).2.1, installChutes_mon _ _⟩
  · simp [installChutes_mon _ _ c hc] at hm

theorem setChuteStaging_rearmed (cs : List ChuteArg) (s : State) : Rearmed b s (setChuteStaging cs s) :=
  .of_same rfl rfl rfl rfl rfl rfl rfl

theorem refuseInstall_rearmed (x : Status) (n : Nat) (s : State) : Rearmed b s (refuseInstall x n s).state := by
  unfold refuseInstall
  split
  · exact setChuteStaging_rearmed _ _
  · exact .refl _ _

theorem installStaged_monitorLaw (g : Geometry) (n : Nat) (cs : List ChuteArg) (h : s.MonitorLaw) :
    (installStaged g n cs s).state.MonitorLaw := by
  have hr := fun x => (refuseInstall_rearmed (b := False) x n s).monitorLaw h
  unfold installStaged
  split
  · exact hr _
  · split
    · exact hr _
    · split
      · exact hr _
      · split
        · exact hr _
        · exact installTable_monitorLaw _ h

theorem serveCcfg_monitorLaw (arg : Option CcfgArg) (h : s.MonitorLaw) : (serveCcfg arg s).state.MonitorLaw := by
  unfold serveCcfg
  split
  · exact h
  · split
    · exact h
    · split
      · exact h
      · unfold takeChutes
        split
        · exact h
        · split
          · exact h
          · split
            · exact h
            · split
              · exact installStaged_monitorLaw _ _ _ h
              · exact (setChuteStaging_rearmed (b := False) _ _).monitorLaw h

theorem serveZload_rearmed (arg : Option (List Zone)) (s : State) : Rearmed b s (serveZload arg s).state := by
  unfold serveZload
  split
  · exact .refl _ _
  · split
    · exact .refl _ _
    · split
      · exact withRouter_rearmed _ _
      · exact .refl _ _

theorem serveRload_rearmed (arg : Option RloadArg) (s : State) : Rearmed b s (serveRload arg s).state := by
  unfold serveRload
  split
  · exact .refl _ _
  · split
    · exact .refl _ _
    · split
      · exact .refl _ _
      · split
        · exact .refl _ _
        · split
          · exact .refl _ _
          · unfold takeRules
            split <;> exact withRouter_rearmed _ _

theorem serveRset_rearmed (arg : Option RsetArg) (s : State) : Rearmed b s (serveRset arg s).state := by
  unfold serveRset
  split
  · exact .refl _ _
  · split
    · exact .refl _ _
    · split
      · exact .refl _ _
      · split
        · exact .refl _ _
        · exact withRouter_rearmed _ _

/-! ### Entries, strays and chute commands -/

theorem handAmend_rearmed (old new tag : Nat) (s : State) : Rearmed b s (handAmend old new tag s) :=
  .ite (fun _ => .refl _ _) (fun _ => manifestChange_rearmed _ _ _)

theorem insertEntry_rearmed {e : Entry} (h : insertEntry e s = some t) : Rearmed b s t := by
  unfold insertEntry at h
  obtain ⟨k, -, rfl⟩ := Option.map_eq_some_iff.1 h
  exact withManifest_rearmed _ _

theorem putOne_rearmed (p : PutArg) (s : State) : Rearmed b s (putOne p s).1 := by
  unfold putOne
  split
  · exact .refl _ _
  · split
    · exact (withManifest_rearmed _ _).trans (handAmend_rearmed _ _ _ _)
    · split
      · exact insertEntry_rearmed ‹_›
      · exact .refl _ _

theorem putAll_rearmed : ∀ (l : List PutArg) (s : State), Rearmed b s (putAll l s).1
  | [], s => .refl _ s
  | p :: rest, s => (putOne_rearmed p s).trans (putAll_rearmed rest _)

theorem serveMput_rearmed (arg : Option MputArg) (s : State) : Rearmed b s (serveMput arg s).state := by
  unfold serveMput
  split
  · split <;> exact .refl _ _
  · split
    · exact .refl _ _
    · split
      · exact .refl _ _
      · split
        · exact .refl _ _
        · exact putAll_rearmed _ _

theorem deleteOne_rearmed (tag : Nat) (s : State) : Rearmed b s (deleteOne tag s).1 := by
  unfold deleteOne
  split
  · exact .refl _ _
  · split
    · exact (withManifest_rearmed _ _).trans (manifestChange_rearmed _ _ _)
    · exact .refl _ _

theorem deleteAll_rearmed : ∀ (l : List Nat) (s : State), Rearmed b s (deleteAll l s).1
  | [], s => .refl _ s
  | n :: rest, s => (deleteOne_rearmed n s).trans (deleteAll_rearmed rest _)

theorem serveMdel_rearmed (arg : Option MdelArg) (s : State) : Rearmed b s (serveMdel arg s).state := by
  unfold serveMdel
  split
  · exact .refl _ _
  · split
    · exact .refl _ _
    · split
      · exact .refl _ _
      · exact deleteAll_rearmed _ _

theorem serveMget_rearmed (arg : Option Nat) (s : State) : Rearmed b s (serveMget arg s).state := by
  unfold serveMget
  split
  · exact .refl _ _
  · split
    · exact .refl _ _
    · split <;> exact .refl _ _

theorem holdTag_rearmed (tag : Nat) (s : State) : Rearmed b s (holdTag tag s).state := by
  unfold holdTag
  split
  · split
    · exact .refl _ _
    · exact (withManifest_rearmed _ _).trans (manifestChange_rearmed _ _ _)
  · split
    · exact (insertEntry_rearmed ‹_›).trans (manifestChange_rearmed _ _ _)
    · exact .refl _ _

theorem serveHold_rearmed (arg : Option Nat) (s : State) : Rearmed b s (serveHold arg s).state := by
  unfold serveHold
  split
  · exact .refl _ _
  · split
    · exact .refl _ _
    · split
      · exact holdTag_rearmed _ _
      · exact .refl _ _

theorem serveRlse_rearmed (arg : Option Nat) (s : State) : Rearmed b s (serveRlse arg s).state := by
  unfold serveRlse
  split
  · exact .refl _ _
  · split
    · exact .refl _ _
    · split
      · unfold releaseTag
        split
        · exact (withManifest_rearmed _ _).trans (withStrays_rearmed _ _)
        · exact .refl _ _
      · exact .refl _ _

theorem serveFbld_rearmed (s : State) : Rearmed b s (serveFbld s).state := by
  unfold serveFbld
  split
  · exact .refl _ _
  · split
    · exact .refl _ _
    · exact withManifest_rearmed _ _

theorem serveSrd_rearmed (arg : Option SrdArg) (s : State) : Rearmed b s (serveSrd arg s).state := by
  unfold serveSrd
  split
  · exact .refl _ _
  · split
    · exact .refl _ _
    · split <;> exact .refl _ _

theorem resolveStray_rearmed (a : SresArg) (s : State) : Rearmed b s (resolveStray a s).state := by
  unfold resolveStray
  split
  · exact .refl _ _
  · split
    · exact .refl _ _
    · split
      · exact ((withManifest_rearmed _ _).trans (handAmend_rearmed _ _ _ _)).trans (withStrays_rearmed _ _)
      · split
        · exact (insertEntry_rearmed ‹_›).trans (withStrays_rearmed _ _)
        · exact .refl _ _

theorem serveSres_rearmed (arg : Option SresArg) (s : State) : Rearmed b s (serveSres arg s).state := by
  unfold serveSres
  split
  · exact .refl _ _
  · split
    · exact .refl _ _
    · split
      · exact .refl _ _
      · split
        · exact .refl _ _
        · exact resolveStray_rearmed _ _

theorem serveSdel_rearmed (arg : Option Nat) (s : State) : Rearmed b s (serveSdel arg s).state := by
  unfold serveSdel
  split
  · exact .refl _ _
  · split
    · exact .refl _ _
    · split
      · exact withStrays_rearmed _ _
      · exact .refl _ _

/-- A chute command that passes its checks keeps the monitors if its action does. -/
theorem commandChute_rearmed (j : Nat) {action : Nat → Chute → State → Served} (s : State)
    (h : ∀ j c s, Rearmed b s (action j c s).state) : Rearmed b s (commandChute j action s).state := by
  unfold commandChute
  split
  · exact .refl _ _
  · split
    · exact .refl _ _
    · split
      · exact .refl _ _
      · exact h _ _ _

theorem openCommand_rearmed (j : Nat) (c : Chute) (s : State) : Rearmed b s (openCommand j c s).state := by
  unfold openCommand
  split
  · split
    · exact openWithCart_rearmed _ _
    · exact .refl _ _
  all_goals exact .refl _ _

theorem forceCommand_rearmed (j : Nat) (c : Chute) (s : State) : Rearmed b s (forceCommand j c s).state := by
  unfold forceCommand
  split
  · exact cartOut_rearmed _ _ _
  · exact .refl _ _

theorem serveCcmdOpen_rearmed (arg : ActionArg) (s : State) : Rearmed b s (serveCcmdOpen arg s).state := by
  unfold serveCcmdOpen
  split
  · exact commandChute_rearmed _ _ openCommand_rearmed
  · split <;> exact .refl _ _
  · split <;> exact .refl _ _

theorem serveCrd_rearmed (arg : Option CrdArg) (s : State) : Rearmed b s (serveCrd arg s).state := by
  unfold serveCrd
  split
  · exact .refl _ _
  · split
    · exact .refl _ _
    · split <;> exact .refl _ _

theorem serveStat_rearmed (arg : Option StatArg) (s : State) : Rearmed b s (serveStat arg s).state := by
  unfold serveStat
  split
  · exact .refl _ _
  · split <;> exact .refl _ _

/-! ## Time -/

theorem bucketScan_rearmed (s : State) : Rearmed b s (bucketScan s) := by
  unfold bucketScan
  split
  · exact .refl _ _
  · exact .ite (fun _ => .of_same rfl rfl rfl rfl rfl rfl rfl)
      (fun _ => .of_same rfl rfl rfl rfl rfl rfl rfl)

theorem expireDue_rearmed (j : Nat) (s : State) : Rearmed b s (expireDue j s) := by
  unfold expireDue
  split
  · exact .refl _ _
  · exact .foldl (fun s _ => expireOldest_rearmed j s) _ s

theorem whenDue_monitorLaw (due : Bool) {event : State → State} (h : s.MonitorLaw)
    (he : s.MonitorLaw → (event s).MonitorLaw) : (whenDue due event s).MonitorLaw := by
  unfold whenDue
  split
  · exact he h
  · exact h

theorem portDue_monitorLaw (p : PortId) (h : s.MonitorLaw) : (portDue p s).MonitorLaw := by
  unfold portDue
  split
  · exact whenDue_monitorLaw _ (whenDue_monitorLaw _ h (linkTimeout_monitorLaw p))
      (idleSend_rearmed (b := False) p _).monitorLaw
  · exact whenDue_monitorLaw _ h (holdoffEnd_monitorLaw p)
  · exact whenDue_monitorLaw _ h (trainingSend_rearmed (b := False) p s).monitorLaw

theorem tick_monitorLaw (h : s.MonitorLaw) : (tick s).MonitorLaw := by
  have h0 : Rearmed False s { s with now := s.now + 1 } := .of_same rfl rfl rfl rfl rfl rfl rfl
  have h1 := (h0.trans (bucketScan_rearmed _)).monitorLaw h
  refine (settle_rearmed (b := False) _).monitorLaw (portDue_monitorLaw .down (portDue_monitorLaw .up ?_))
  refine (Rearmed.foldl (b := False) (fun s j => expireDue_rearmed j s) _ _).monitorLaw ?_
  exact whenDue_monitorLaw _ (whenDue_monitorLaw _ h1 speedSample_monitorLaw) (withSession_rearmed (b := False) _ _).monitorLaw

theorem powerOn_noneArmed (straps : Nat) (pins : Pins) : (State.powerOn straps pins).NoneArmed := by
  refine ⟨rfl, fun l hl => ?_, fun c hc => nomatch hc⟩
  rw [(List.mem_replicate.1 hl).2]
  rfl

/-! ## Every step -/

theorem exec_monitorLaw (c : Instr) (h : s.MonitorLaw) (he : exec c s = .next t) : t.MonitorLaw := by
  cases c with
  | encoderStep ph => exact done_monitorLaw ((encoderStep_rearmed ph s).monitorLaw h) he
  | homePulse => exact done_monitorLaw (homePulse_monitorLaw h) he
  | stopLevelChange held =>
    refine done_monitorLaw (f := stopChange held) ((noticeLevel_rearmed (b := False) _ _).monitorLaw ?_) he
    exact Rearmed.monitorLaw (b := False) (.of_same rfl rfl rfl rfl rfl rfl rfl) h
  | powerOnReset straps =>
    refine done_monitorLaw (f := fun s => { State.powerOn straps s.pins with free := s.free, pending := s.pending })
      (State.NoneArmed.monitorLaw ?_) he
    exact (powerOn_noneArmed straps s.pins).congr rfl rfl rfl
  | speedSample => exact done_monitorLaw (speedSample_monitorLaw h) he
  | sessionClockTick => exact done_monitorLaw (f := clockTick) ((withSession_rearmed (b := False) _ _).monitorLaw h) he
  | confirmationExpiry j =>
    exact done_monitorLaw (f := expireOldest j) ((expireOldest_rearmed (b := False) j s).monitorLaw h) he
  | bucketScan => exact done_monitorLaw (f := bucketScan) ((bucketScan_rearmed (b := False) s).monitorLaw h) he
  | frameReceived p broken bytes => exact done_monitorLaw (frameReceived_monitorLaw p _ h) he
  | trainingFrame p => exact done_monitorLaw (trainingReceived_monitorLaw p h) he
  | idleFrame p => exact done_monitorLaw ((idleReceived_rearmed (b := False) p s).monitorLaw h) he
  | linkTimeout p => exact done_monitorLaw (linkTimeout_monitorLaw p h) he
  | linkHoldoffEnd p => exact done_monitorLaw (holdoffEnd_monitorLaw p h) he
  | trainingSend p => exact done_monitorLaw ((trainingSend_rearmed (b := False) p s).monitorLaw h) he
  | idleSend p => exact done_monitorLaw ((idleSend_rearmed (b := False) p s).monitorLaw h) he
  | downFrameTransmitted => exact done_monitorLaw ((frameSent_rearmed (b := False) .down s).monitorLaw h) he
  | upFrameTransmitted => exact done_monitorLaw ((frameSent_rearmed (b := False) .up s).monitorLaw h) he
  | brdy src x => exact done_monitorLaw ((brdyOp_rearmed (b := False) src x s).monitorLaw h) he
  | ldon src x => exact done_monitorLaw ((ldonOp_rearmed src x s).monitorLaw h) he
  | tscn src x => exact done_monitorLaw ((tscnOp_rearmed (b := False) src x s).monitorLaw h) he
  | ceye src x => exact done_monitorLaw ((chuteFrame_rearmed (b := False) src x s eyeSaw_rearmed).monitorLaw h) he
  | cout src x => exact done_monitorLaw ((chuteFrame_rearmed (b := False) src x s cartOut_rearmed).monitorLaw h) he
  | cin src x => exact done_monitorLaw ((chuteFrame_rearmed (b := False) src x s cartIn_rearmed).monitorLaw h) he
  | cflt src x => exact done_monitorLaw ((chuteFrame_rearmed (b := False) src x s faultChute_rearmed).monitorLaw h) he
  | cclr src x => exact done_monitorLaw ((chuteFrame_rearmed (b := False) src x s clearFault_rearmed).monitorLaw h) he
  | requestIntake hdr r => exact done_monitorLaw ((takeRequest_rearmed (b := False) hdr r s).monitorLaw h) he
  | stat hdr arg => exact serve_rearmed_monitorLaw h (serveStat_rearmed arg) he
  | modeOpen hdr arg => exact serve_rearmed_monitorLaw h (serveOpen_rearmed arg) he
  | modeShadow hdr => exact serve_rearmed_monitorLaw h serveShadow_rearmed he
  | modeSetup hdr => exact serve_rearmed_monitorLaw h serveSetup_rearmed he
  | modeSort hdr => exact serve_rearmed_monitorLaw h serveSort_rearmed he
  | modeDrain hdr => exact serve_rearmed_monitorLaw h serveDrain_rearmed he
  | modeClose hdr => exact serve_rearmed_monitorLaw h serveClose_rearmed he
  | lcfg hdr arg => exact serve_monitorLaw h (fun _ => serveLcfg_monitorLaw arg) he
  | ccfg hdr arg => exact serve_monitorLaw h (fun _ => serveCcfg_monitorLaw arg) he
  | zload hdr arg => exact serve_rearmed_monitorLaw h (serveZload_rearmed arg) he
  | rload hdr arg => exact serve_rearmed_monitorLaw h (serveRload_rearmed arg) he
  | rset hdr arg => exact serve_rearmed_monitorLaw h (serveRset_rearmed arg) he
  | mput hdr arg => exact serve_rearmed_monitorLaw h (serveMput_rearmed arg) he
  | mdel hdr arg => exact serve_rearmed_monitorLaw h (serveMdel_rearmed arg) he
  | mget hdr arg => exact serve_rearmed_monitorLaw h (serveMget_rearmed arg) he
  | hold hdr arg => exact serve_rearmed_monitorLaw h (serveHold_rearmed arg) he
  | rlse hdr arg => exact serve_rearmed_monitorLaw h (serveRlse_rearmed arg) he
  | fbld hdr => exact serve_rearmed_monitorLaw h serveFbld_rearmed he
  | ccmdOpen hdr arg => exact serve_rearmed_monitorLaw h (serveCcmdOpen_rearmed arg) he
  | ccmdClose hdr j => exact serve_rearmed_monitorLaw h (fun s => commandChute_rearmed j s closeChute_rearmed) he
  | ccmdForceClose hdr j => exact serve_rearmed_monitorLaw h (fun s => commandChute_rearmed j s forceCommand_rearmed) he
  | ccmdClearFault hdr j => exact serve_rearmed_monitorLaw h (fun s => commandChute_rearmed j s clearFault_rearmed) he
  | tcmdDisable hdr arg => exact serve_rearmed_monitorLaw h (serveTcmdDisable_rearmed arg) he
  | tcmdEnable hdr k => exact serve_rearmed_monitorLaw h (enableTray_rearmed k) he
  | crd hdr arg => exact serve_rearmed_monitorLaw h (serveCrd_rearmed arg) he
  | srd hdr arg => exact serve_rearmed_monitorLaw h (serveSrd_rearmed arg) he
  | sres hdr arg => exact serve_rearmed_monitorLaw h (serveSres_rearmed arg) he
  | sdel hdr arg => exact serve_rearmed_monitorLaw h (serveSdel_rearmed arg) he
  | sstp hdr => exact serve_rearmed_monitorLaw h (setLatch_rearmed .sstp) he
  | clrs hdr => exact serve_rearmed_monitorLaw h serveClrs_rearmed he
  | lrst hdr =>
    refine done_monitorLaw
      (f := fun s => if s.mayServe hdr .lrst then lineReset (pushReply hdr .lrst .done [] (dropRequest s)) else s) ?_ he
    split
    · exact lineReset_monitorLaw _
    · exact h
  | bothPhasesChangeTogether => exact done_monitorLaw (bothChange_monitorLaw h) he

end

/-- Settles O13: every operation is a `Rearmed` step but those that disarm every monitor, that bring the DOWN port or the
tracker to where monitors may arm, and the speed sample, which takes every armed lead anew. -/
theorem monitorLawIsKept : Obligations.MonitorLawIsKept := by
  unfold Obligations.MonitorLawIsKept
  intro s t h hstep
  unfold step at hstep
  split at hstep
  · rw [Host.Outcome.next.injEq] at hstep
    exact hstep ▸ tick_monitorLaw h
  · refine exec_monitorLaw _ (Rearmed.monitorLaw (b := False) ?_ h) hstep
    exact .of_same rfl rfl rfl rfl rfl rfl rfl

end Sys2Proof.Machine
end

section
/-! # Power-on reset, the STOP line, and the evaluation of one monitor (chapter 1) -/

namespace Sys2Proof.Machine

open Sys2Proof

/-! ## How a request completes -/

/-- A request whose turn has come completes with what its owner gives. -/
theorem answers_of_serve {c : Instr} {hdr : ReqHdr} {r : Request} {owner : State → Served} {s : State} {x : Served}
    (he : exec c s = serve hdr r owner s) (hm : s.mayServe hdr r = true) (hx : owner (dropRequest s) = x) :
    Answers c hdr r s x.status x.results x.state := by
  unfold Answers Leads
  rw [he, serve_of hm, hx]

/-! ## Power-on reset (O3, O4) -/

theorem ownStation_eq (straps : Nat) :
    ownStation straps = if straps % 128 = 0 ∨ straps % 128 = 127 then 126 else straps % 128 := by
  unfold ownStation
  split <;> split <;> omega

/-- Settles O3. -/
theorem powerOnResetValues : Obligations.PowerOnResetValues := by
  unfold Obligations.PowerOnResetValues
  intro straps s
  refine ⟨{ State.powerOn straps s.pins with free := s.free, pending := s.pending }, rfl, rfl, rfl, rfl,
    fun l hl => (List.mem_replicate.1 hl).2, rfl, rfl, ⟨rfl, fun z hz => (List.mem_replicate.1 hz).2⟩,
    ⟨rfl, fun r hr => (List.mem_replicate.1 hr).2⟩, rfl, rfl, rfl, rfl, rfl, rfl, rfl, rfl, rfl, rfl, rfl,
    ownStation_eq straps, rfl, fun p hp => ?_, rfl, rfl, rfl, rfl, rfl⟩
  obtain rfl : p = Port.powerOn (ownStation straps) := by simpa [State.powerOn, Link.powerOn] using hp
  exact ⟨rfl, rfl, rfl, rfl, rfl⟩

theorem reset_trays : State.reset.trays = [] := rfl
theorem reset_manifest : State.reset.manifest = Manifest.powerOn := rfl
theorem reset_carts : State.reset.carts = CartUnit.powerOn := rfl
theorem reset_strays : State.reset.strays = StrayList.powerOn := rfl

/-- The store is empty right after reset, and every counter 0 counts no entry. -/
theorem reset_manifestLaw : State.reset.manifest.Law := by
  have counts : State.reset.manifest.Counts State.reset.manifest.filter Config.buckets := fun _ => .inr rfl
  refine ⟨reset_tables_wf.1, ?_, ?_, reset_tables_wf.2, counts, ?_⟩ <;> simp [reset_manifest, Manifest.powerOn]

theorem reset_lineLaw : State.reset.LineLaw := by
  refine ⟨fun i l hl => ?_, ?_, ?_⟩
  · obtain rfl : l = Line.powerOn := (List.mem_replicate.1 (List.mem_of_getElem? hl)).2
    rfl
  · simp [reset_trays]
  · simp [reset_trays]

/-- Settles O4: every queue and table that a law speaks of is empty right after reset. -/
theorem lawsHoldAtReset : Obligations.LawsHoldAtReset := by
  unfold Obligations.LawsHoldAtReset
  refine ⟨(powerOn_noneArmed _ _).monitorLaw, ?tags, ?capacity, ?bounds, ?session, ?reports, reset_manifestLaw, ?cartTags,
    ?orders, ?confirmations, reset_lineLaw, ?strays⟩
  case tags => simp [State.TagLaw, reset_trays]
  case capacity => simp [State.CapacityLaw, reset_carts, CartUnit.powerOn]
  case bounds => refine ⟨?_, ?_, ?_, ?_, ?_, ?_, ?_, ?_, ?_⟩ <;> decide
  case session => refine ⟨?_, ?_, ?_⟩ <;> decide
  case reports => simp [State.ReportLaw, reset_carts, CartUnit.powerOn]
  case cartTags => simp [State.CartTagLaw, reset_carts, CartUnit.powerOn]
  case orders => simp [State.OrderLaw, reset_trays, reset_carts, CartUnit.powerOn]
  case confirmations => simp [State.ConfirmationLaw, reset_trays, reset_carts, CartUnit.powerOn]
  case strays => simp [State.StrayLaw, reset_strays, StrayList.powerOn]

/-! ## The STOP latch and its line (R16, R17) -/

theorem noticeLevel_eq (before : Bool) (s : State) :
    noticeLevel before s =
      { s with
        mgmt :=
          if s.tracker.stopIn = true ∧ s.stopLevel ≠ before then s.mgmt.push (s.stamp (Notice.of (.stopSeen s.stopLevel)))
          else s.mgmt } := by
  unfold noticeLevel
  split <;> rfl

/-- The part begins to drive a line that nobody held: what a change of the latch makes of the level. -/
theorem stopLevel_withLatch (x : Option StopCause) (s : State) :
    (withLatch x s).stopLevel = (s.pins.stopHeld || (x.isSome && s.tracker.stopOut)) := rfl

/-- The notices of a latch that is set: STOP_ASSERTED, and STOP_SEEN where the drive changes the level that is read. -/
def State.latchSet (s : State) (c : StopCause) : Mgmt :=
  if s.tracker.stopIn = true ∧ s.tracker.stopOut = true ∧ s.pins.stopHeld = false then
    (s.mgmt.push (s.stamp c.notice)).push (s.stamp (Notice.of (.stopSeen true)))
  else s.mgmt.push (s.stamp c.notice)

theorem setLatch_eq (c : StopCause) (s : State) :
    setLatch c s =
      { s with
        tracker := { s.tracker with latch := some (s.tracker.latch.getD c) }
        mgmt := if s.tracker.latch = none then s.latchSet c else s.mgmt } := by
  unfold setLatch
  cases h : s.tracker.latch with
  | some x =>
    have : { s.tracker with latch := some x } = s.tracker := by rw [← h]
    simp [this]
  | none =>
    rw [noticeLevel_eq, State.latchSet]
    have hl : (notify c.notice (withLatch (some c) s)).stopLevel = (s.pins.stopHeld || s.tracker.stopOut) := by
      simp [State.stopLevel, State.stopDriven]
    have hb : s.stopLevel = s.pins.stopHeld := by simp [State.stopLevel, State.stopDriven, h]
    rw [hl, hb]
    cases s.pins.stopHeld <;> cases s.tracker.stopOut <;> simp [notify, withLatch, State.stamp]

theorem releaseLatch_eq (s : State) :
    releaseLatch s =
      { s with
        tracker := { s.tracker with latch := none }
        mgmt :=
          if s.tracker.stopIn = true ∧ s.tracker.stopOut = true ∧ s.tracker.latch ≠ none ∧ s.pins.stopHeld = false then
            s.mgmt.push (s.stamp (Notice.of (.stopSeen false)))
          else s.mgmt } := by
  unfold releaseLatch
  rw [noticeLevel_eq, stopLevel_withLatch]
  have hb : s.stopLevel = (s.pins.stopHeld || (s.tracker.latch.isSome && s.tracker.stopOut)) := rfl
  rw [hb]
  cases s.pins.stopHeld <;> cases s.tracker.stopOut <;> cases s.tracker.latch <;> simp [withLatch, State.stamp]

/-- Settles O11. -/
theorem stopLineReleased : Obligations.StopLineReleased := by
  unfold Obligations.StopLineReleased
  refine ⟨fun held s => ⟨stopChange held s, rfl, ?_, ?_⟩, fun hdr s hm => ⟨fun hd => ?_, fun hd => ?_⟩⟩
  · rw [stopChange, noticeLevel_eq]
    rfl
  · rw [stopChange, noticeLevel_eq]
    rfl
  · refine answers_of_serve (x := refuse .linkDown (dropRequest s)) rfl hm ?_
    simp [serveClrs, State.downUp, hd]
  · refine ⟨releaseLatch (dropRequest s), ?_, ?_, ?_⟩
    · refine answers_of_serve (x := doneWith [] (releaseLatch (dropRequest s))) rfl hm ?_
      simp [serveClrs, State.downUp, hd]
    · rw [releaseLatch_eq]
      rfl
    · rw [releaseLatch_eq]
      rfl

/-- Settles O12. -/
theorem sstpSetsTheLatch : Obligations.SstpSetsTheLatch := by
  unfold Obligations.SstpSetsTheLatch
  intro hdr s hm
  refine ⟨setLatch .sstp (dropRequest s), answers_of_serve (x := serveSstp (dropRequest s)) rfl hm rfl, ?_, ?_, ?_, ?_⟩
  · rw [setLatch_eq]
    rfl
  · intro h
    rw [setLatch_eq]
    exact if_neg (Option.isSome_iff_ne_none.1 h)
  · intro h
    rw [setLatch_eq]
    exact if_pos h
  · intro h
    rw [setLatch_eq]
    simp [State.stopLevel, State.stopDriven, h]

/-! ## Approach distances (R1, R13) -/

/-- The approach distance as a residue: the location less the displacement, more the tray's own offset. -/
theorem approach_eq (g : Geometry) (d k loc : Nat) (hL : 0 < g.loop) :
    (g.approach d k loc : Int) = ((loc : Int) - d + (k * g.pitch + g.centre : Nat)) % (g.loop : Int) := by
  have hL' : (0 : Int) < g.loop := by exact_mod_cast hL
  have hz : (g.trayAt d k : Int) = ((d : Int) - (k * g.pitch + g.centre : Nat)) % (g.loop : Int) :=
    Int.toNat_of_nonneg (Int.emod_nonneg _ hL'.ne')
  rw [Geometry.approach, Int.toNat_of_nonneg (Int.emod_nonneg _ hL'.ne'), hz, Int.sub_emod, Int.emod_emod_of_dvd _ dvd_rfl,
    ← Int.sub_emod]
  congr 1
  omega

theorem approach_lt (g : Geometry) (d k loc : Nat) (hL : 0 < g.loop) : g.approach d k loc < g.loop := by
  have := Int.emod_lt_of_pos ((loc : Int) - d + (k * g.pitch + g.centre : Nat)) (b := g.loop) (by exact_mod_cast hL)
  rw [← approach_eq g d k loc hL] at this
  exact_mod_cast this

/-- The approach distance depends on the displacement mod Lu. -/
theorem approach_congr (g : Geometry) {d d' : Nat} (k loc : Nat) (hL : 0 < g.loop) (h : d % g.loop = d' % g.loop) :
    g.approach d k loc = g.approach d' k loc := by
  have hmod : ((d : Int)) ≡ d' [ZMOD g.loop] := by exact_mod_cast (show d ≡ d' [MOD g.loop] from h)
  have : (g.approach d k loc : Int) = g.approach d' k loc := by
    rw [approach_eq g d k loc hL, approach_eq g d' k loc hL]
    exact (Int.ModEq.refl (loc : Int)).sub hmod |>.add_right _
  exact_mod_cast this

/-- A movement forward takes its steps from the approach distance, mod Lu. -/
theorem approach_add (g : Geometry) (d adv k loc : Nat) (hL : 0 < g.loop) :
    (g.approach (d + adv) k loc : Int) = ((g.approach d k loc : Int) - adv) % (g.loop : Int) := by
  rw [approach_eq g (d + adv) k loc hL, approach_eq g d k loc hL, Int.emod_sub_emod]
  congr 1
  push_cast
  omega

theorem approach_add_of_le (g : Geometry) {d adv k loc : Nat} (hL : 0 < g.loop) (h : adv ≤ g.approach d k loc) :
    g.approach (d + adv) k loc = g.approach d k loc - adv := by
  have hadd := approach_add g d adv k loc hL
  have hlt := approach_lt g d k loc hL
  rw [Int.emod_eq_of_lt (by omega) (by omega)] at hadd
  omega

theorem approach_add_of_gt (g : Geometry) {d adv k loc : Nat} (hL : 0 < g.loop) (hadv : adv < g.loop)
    (h : g.approach d k loc < adv) : g.approach (d + adv) k loc = g.approach d k loc + g.loop - adv := by
  have hadd := approach_add g d adv k loc hL
  rw [← Int.add_emod_right, Int.emod_eq_of_lt (by omega) (by omega)] at hadd
  omega

/-- Two trays stand at two approach distances to a location. -/
theorem approach_inj (g : Geometry) {d k k' loc : Nat} (hL : 0 < g.loop) (hk : k < g.trays) (hk' : k' < g.trays)
    (h : g.approach d k loc = g.approach d k' loc) : k = k' := by
  have hP : 0 < g.pitch := Nat.pos_of_mul_pos_left hL
  have hi : (g.approach d k loc : Int) = g.approach d k' loc := by exact_mod_cast h
  rw [approach_eq g d k loc hL, approach_eq g d k' loc hL] at hi
  have hm : ((k * g.pitch + g.centre : Nat) : Int) ≡ (k' * g.pitch + g.centre : Nat) [ZMOD g.loop] :=
    Int.ModEq.add_left_cancel' _ hi
  have hm' : k * g.pitch ≡ k' * g.pitch [MOD g.loop] := Nat.ModEq.add_right_cancel' _ (Int.natCast_modEq_iff.1 hm)
  have hlt : ∀ {x}, x < g.trays → x * g.pitch < g.loop := fun hx => Nat.mul_lt_mul_of_pos_right hx hP
  exact Nat.eq_of_mul_eq_mul_right hP (hm'.eq_of_lt_of_lt (hlt hk) (hlt hk'))

/-! ## The evaluation of one monitor (R14) -/

theorem evalApproach_zero (g : Geometry) (d k loc : Nat) : g.evalApproach d 0 k loc = g.approach d k loc := by
  simp [Geometry.evalApproach]

/-- The movement since displacement d0 has carried the tray onto or past the station. -/
theorem evalApproach_reached (g : Geometry) {d0 d adv k loc : Nat} (hadv : adv < g.loop)
    (hd : d % g.loop = (d0 + adv) % g.loop) (hpos : 0 < adv) (h : g.approach d0 k loc ≤ adv) :
    g.evalApproach d adv k loc = 0 := by
  have hL : 0 < g.loop := by omega
  unfold Geometry.evalApproach
  rw [approach_congr g k loc hL hd]
  refine if_pos ⟨hpos, ?_⟩
  rcases Nat.lt_or_eq_of_le h with h | h
  · rw [approach_add_of_gt g hL hadv h, show g.approach d0 k loc + g.loop - adv + adv = g.approach d0 k loc + g.loop by omega,
      Nat.add_mod_right]
    exact (Nat.mod_le _ _).trans (by omega)
  · rw [approach_add_of_le g hL (by omega), show g.approach d0 k loc - adv + adv = adv by omega]
    exact Nat.mod_le _ _

/-- The movement since displacement d0 has not reached the station yet. -/
theorem evalApproach_ahead (g : Geometry) {d0 d adv k loc : Nat} (hadv : adv < g.loop)
    (hd : d % g.loop = (d0 + adv) % g.loop) (h : adv < g.approach d0 k loc) :
    g.evalApproach d adv k loc = g.approach d0 k loc - adv ∧ g.approach d k loc = g.approach d0 k loc - adv := by
  have hL : 0 < g.loop := by omega
  have ha : g.approach d k loc = g.approach d0 k loc - adv := by
    rw [approach_congr g k loc hL hd, approach_add_of_le g hL (by omega)]
  refine ⟨?_, ha⟩
  unfold Geometry.evalApproach
  rw [if_neg, ha]
  rw [ha, show g.approach d0 k loc - adv + adv = g.approach d0 k loc by omega,
    Nat.mod_eq_of_lt (approach_lt g d0 k loc hL)]
  omega

theorem decideMonitor_fire_iff {a l w : Nat} : decideMonitor a l w = .fire ↔ a ≤ l ∧ l < a + w := by
  rw [decideMonitor_fire]
  omega

/-! ### Whose evaluation it is -/

section
variable {g : Geometry} {s : State} (adv : Nat)

theorem launchDecision_disarmed {i : Nat} {l : Line} (hl : s.lines[i]? = some l) (hm : l.mon = none) :
    s.launchDecision adv i = .stay := by
  unfold State.launchDecision
  rw [hl]
  split
  · rename_i h
    cases h
    rw [hm]
    split
    · rename_i h
      cases h
    · rfl
  · rfl

theorem launchDecision_armed {i : Nat} {l : Line} {c : LineCfg} {m : Monitor} (hg : s.tracker.geo = some g)
    (hl : s.lines[i]? = some l) (hc : l.cfg = some c) (hm : l.mon = some m) :
    s.launchDecision adv i = decideMonitor (g.evalApproach s.tracker.disp adv m.tray c.loc) m.lead g.centre := by
  simp [State.launchDecision, hg, hl, hc, hm]

theorem scanDecision_disarmed (hm : s.arch.mon = none) : s.scanDecision adv = .stay := by
  unfold State.scanDecision
  rw [hm]
  split
  · rename_i h
    cases h
  · rfl

theorem scanDecision_armed {m : Monitor} (hg : s.tracker.geo = some g) (hm : s.arch.mon = some m) :
    s.scanDecision adv = decideMonitor (g.evalApproach s.tracker.disp adv m.tray g.archLoc) m.lead g.centre := by
  simp [State.scanDecision, hg, hm]

theorem headDecision_disarmed {j : Nat} {c : Chute} (hc : s.carts.chutes[j]? = some c) (hm : c.mon = none) :
    s.headDecision adv j = .stay := by
  unfold State.headDecision State.chute?
  rw [hc]
  split
  · rename_i h
    cases h
    rw [hm]
  · rfl

theorem headDecision_armed {j : Nat} {c : Chute} {m : Monitor} (hg : s.tracker.geo = some g)
    (hc : s.carts.chutes[j]? = some c) (hm : c.mon = some m) :
    s.headDecision adv j =
      decideMonitor (g.evalApproach s.tracker.disp adv m.tray c.cfg.loc) m.lead (c.windowUsed g) := by
  simp [State.headDecision, State.chute?, hg, hc, hm]

end

theorem windowUsed_eq (c : Chute) (g : Geometry) :
    c.windowUsed g = if c.cfg.window < g.pitch / 2 then c.cfg.window else g.pitch / 2 := by
  unfold Chute.windowUsed Geometry.centre
  split <;> omega

/-- Settles O10. -/
theorem monitorEvaluation : Obligations.MonitorEvaluation := by
  unfold Obligations.MonitorEvaluation
  refine ⟨fun g d0 d adv k loc lead w _ hadv _ hd => ⟨?_, evalApproach_reached g hadv hd, fun _ => evalApproach_ahead g hadv hd,
    decideMonitor_stay, decideMonitor_fire_iff⟩, fun adv g s hg => ⟨fun i l hl => ⟨launchDecision_disarmed adv hl, fun c m hc hm =>
      launchDecision_armed adv hg hl hc hm⟩, scanDecision_disarmed adv, fun m hm => scanDecision_armed adv hg hm, fun j c hc =>
      ⟨headDecision_disarmed adv hc, fun m hm => ?_⟩⟩⟩
  · rintro rfl
    exact evalApproach_zero g d k loc
  · rw [headDecision_armed adv hg hc hm, windowUsed_eq]

end Sys2Proof.Machine
end

section
/-! # The loop configuration and the line reset (sections 11.4 and 11.6) -/

namespace Sys2Proof.Machine

open Sys2Proof

/-! ## The checks of LCFG (R192) -/

theorem distinct_iff (l : List Nat) : distinct l = true ↔ l.Nodup := by
  induction l with
  | nil => simp [distinct]
  | cons x rest ih => simp [distinct, ih]

theorem spaced_iff (lu pitch : Nat) (l : List Nat) :
    spaced lu pitch l = true ↔
      l.Pairwise (fun x y => pitch ≤ (y + lu - x) % lu ∧ pitch ≤ (x + lu - y) % lu) := by
  induction l with
  | nil => simp [spaced]
  | cons x rest ih => simp [spaced, ih]

theorem loopInRange_iff (a : LoopArg) : (loopRanges a && straySetOk a.straySet) = true ↔ LoopInRange a := by
  simp only [loopRanges, straySetOk, flagOk, LoopInRange, Bool.and_eq_true, decide_eq_true_eq, Bool.or_eq_true, beq_iff_eq,
    List.all_eq_true, distinct_iff]
  tauto

theorem loopInOrder_iff (a : LoopArg) (chutes : List Chute) : loopOrder a chutes = true ↔ LoopInOrder a chutes := by
  simp only [loopOrder, LoopInOrder, Bool.and_eq_true, decide_eq_true_eq, List.all_eq_true, spaced_iff, List.pairwise_map]
  simp only [pastArch, loopPast, and_assoc]

theorem loopAccepted_iff (a : LoopArg) (chutes : List Chute) :
    (loopRanges a && straySetOk a.straySet && loopOrder a chutes) = true ↔ LoopInRange a ∧ LoopInOrder a chutes := by
  rw [Bool.and_eq_true, loopInRange_iff, loopInOrder_iff]

theorem stationsDistinct_iff (s : State) (a : LoopArg) : s.stationsDistinct a = true ↔ (loopStations a s).Nodup :=
  distinct_iff _

/-! ## What an accepted LCFG stores (R193) -/

theorem configuredLines_length {a : LoopArg} (h : a.lines.length ≤ 4) : (configuredLines a).length = 4 := by
  simp only [configuredLines, List.length_append, List.length_map, List.length_replicate]
  omega

theorem configuredLines_getElem? {a : LoopArg} {i : Nat} {l : LineArg} (h : a.lines[i]? = some l) :
    (configuredLines a)[i]? = some (configuredLine l) := by
  have hi := (List.getElem?_eq_some_iff.1 h).1
  rw [configuredLines, List.getElem?_append_left (by simpa using hi), List.getElem?_map, h, Option.map_some]

theorem configuredLines_unconfigured {a : LoopArg} {i : Nat} (h : a.lines.length ≤ i) (hi : i < 4) :
    (configuredLines a)[i]? = some Line.powerOn := by
  rw [configuredLines, List.getElem?_append_right (by simpa using h), List.getElem?_replicate, if_pos]
  rw [List.length_map]
  omega

theorem min_eq_ite_lt (m n : Nat) : min m n = if m < n then m else n := by
  split <;> omega

theorem max_one_eq_ite (n : Nat) : max 1 n = if n = 0 then 1 else n := by
  split <;> omega

/-- LCFG in IDLE or SETUP by its checks. -/
theorem serveLcfg_some (a : LoopArg) {s : State} (h : s.mode = .idle ∨ s.mode = .setup) :
    serveLcfg (some a) s =
      if (loopRanges a && straySetOk a.straySet && loopOrder a s.carts.chutes) = false then refuse .range s
      else if s.stationsDistinct a = false then refuse .duplicate s
      else doneWith [.u32 (a.trays * a.pitch), .u8 a.lines.length, .u8 (max 1 a.lapLimit)] (applyLoop a s) :=
  if_neg (by tauto)

/-- Settles O58. -/
theorem loopConfigured : Obligations.LoopConfigured := by
  unfold Obligations.LoopConfigured
  intro hdr arg s hm
  refine ⟨fun h1 h2 => answers_of_serve (x := refuse .mode (dropRequest s)) rfl hm (if_pos ⟨h1, h2⟩), fun hmode => ⟨?_, ?_⟩⟩
  · rintro rfl
    exact answers_of_serve (x := refuse .range (dropRequest s)) rfl hm (if_neg (by tauto))
  · rintro a rfl
    have served := serveLcfg_some a (s := dropRequest s) hmode
    refine ⟨fun h => ?_, fun h1 h2 h3 => ?_, fun h1 h2 h3 => ⟨applyLoop a (dropRequest s), ?_, ?_, ?_, ?_, ?_⟩⟩
    · refine answers_of_serve (x := refuse .range (dropRequest s)) rfl hm (served.trans (if_pos ?_))
      rwa [← Bool.not_eq_true, loopAccepted_iff]
    · have ok := (loopAccepted_iff a (dropRequest s).carts.chutes).2 ⟨h1, h2⟩
      refine answers_of_serve (x := refuse .duplicate (dropRequest s)) rfl hm
        (served.trans ((if_neg (by rw [ok]; simp)).trans (if_pos ?_)))
      rwa [← Bool.not_eq_true, stationsDistinct_iff]
    · have ok := (loopAccepted_iff a (dropRequest s).carts.chutes).2 ⟨h1, h2⟩
      have own := (stationsDistinct_iff (dropRequest s) a).2 h3
      rw [← max_one_eq_ite]
      exact answers_of_serve
        (x := doneWith [.u32 (a.trays * a.pitch), .u8 a.lines.length, .u8 (max 1 a.lapLimit)] (applyLoop a (dropRequest s)))
        rfl hm (served.trans ((if_neg (by rw [ok]; simp)).trans (if_neg (by rw [own]; simp))))
    · rw [← max_one_eq_ite, ← min_eq_ite_lt]
      rfl
    · obtain ⟨-, ⟨-, -, hl, -⟩, -⟩ := h1
      exact configuredLines_length hl
    · intro i l hl
      rw [← min_eq_ite_lt, ← min_eq_ite_lt]
      exact configuredLines_getElem? hl
    · intro i h hi
      exact configuredLines_unconfigured h hi

/-! ## IREF frames at a line reset (R31, R42) -/

theorem mem_placeIref (r : Iref) (l : List Iref) : r ∈ placeIref r l := by
  unfold placeIref
  split
  · rename_i h
    obtain ⟨x, hx, hr⟩ := List.any_eq_true.1 h
    exact List.mem_map.2 ⟨x, hx, if_pos (by simpa using hr)⟩
  · simp

/-- An IREF raised for another line leaves an unsent one. -/
theorem mem_placeIref_of_ne {r x : Iref} {l : List Iref} (h : x ∈ l) (hr : x.line ≠ r.line) : x ∈ placeIref r l := by
  unfold placeIref
  split
  · exact List.mem_map.2 ⟨x, h, if_neg hr⟩
  · simp [h]

/-- The IREF frames that wait, replaced. -/
def withIrefs (l : List Iref) (s : State) : State := { s with link := { s.link with irefs := l } }

/-- The IREF that a line reset raises for a line state: of a HELD or RESERVED line, reason MODE (R42). -/
def LineState.resetIref (i : Nat) : LineState → Option Iref
  | .held t1 t2 => some { line := i, tag1 := t1, tag2 := t2, reason := .mode, begun := false }
  | .reserved _ t1 t2 => some { line := i, tag1 := t1, tag2 := t2, reason := .mode, begun := false }
  | _ => none

/-- The IREF that a line reset raises for line i. -/
def State.resetIref? (s : State) (i : Nat) : Option Iref := (s.lines[i]?).bind (fun l => l.state.resetIref i)

/-- The unsent IREF frames after the line reset has dealt with line i. -/
def State.irefsReset (s : State) (l : List Iref) (i : Nat) : List Iref :=
  match s.resetIref? i with
  | some r => placeIref r l
  | none => l

theorem resetIref?_line {s : State} {i : Nat} {r : Iref} (h : s.resetIref? i = some r) : r.line = i := by
  obtain ⟨l, -, hl⟩ := Option.bind_eq_some_iff.1 h
  cases hs : l.state <;> rw [hs] at hl <;> cases hl <;> rfl

theorem resetIref_eq (i : Nat) (l : List Iref) (s : State) :
    resetIref i (withIrefs l s) = withIrefs (s.irefsReset l i) s := by
  have hlines : (withIrefs l s).lines = s.lines := rfl
  unfold resetIref State.irefsReset State.resetIref?
  rw [hlines]
  cases s.lines[i]? with
  | none => rfl
  | some x => rcases hx : x.state <;> simp only [Option.map_some, hx, Option.bind_some, LineState.resetIref] <;> rfl

theorem resetIrefs_eq (s : State) : ∀ (is : List Nat) (l : List Iref),
    is.foldl (fun s i => resetIref i s) (withIrefs l s) = withIrefs (is.foldl s.irefsReset l) s
  | [], _ => rfl
  | i :: is, l => by rw [List.foldl_cons, resetIref_eq, resetIrefs_eq s is, List.foldl_cons]

/-- An unsent IREF stays through a line reset, where its line raises none or the very same. -/
theorem mem_irefsReset {s : State} {x : Iref} (hx : ∀ r, s.resetIref? x.line = some r → r = x) :
    ∀ (is : List Nat) {l : List Iref}, x ∈ l → x ∈ is.foldl s.irefsReset l
  | [], _, h => h
  | i :: is, l, h => by
    refine mem_irefsReset hx is ?_
    unfold State.irefsReset
    split
    · rename_i r hr
      by_cases hi : x.line = i
      · rw [hx r (hi ▸ hr)]
        exact mem_placeIref x l
      · exact mem_placeIref_of_ne h (by rwa [resetIref?_line hr])
    · exact h

/-- The IREF that a line raises waits after the line reset. -/
theorem mem_irefsReset_raised {s : State} {i : Nat} {r : Iref} (hr : s.resetIref? i = some r) :
    ∀ (is : List Nat) {l : List Iref}, i ∈ is → r ∈ is.foldl s.irefsReset l
  | k :: is, l, h => by
    rcases List.mem_cons.1 h with rfl | h
    · refine mem_irefsReset (fun r' hr' => ?_) is ?_
      · rw [resetIref?_line hr, hr] at hr'
        exact (Option.some.inj hr').symm
      · unfold State.irefsReset
        rw [hr]
        exact mem_placeIref r l
    · exact mem_irefsReset_raised hr is h

/-! ## The line reset (R196) -/

theorem Mgmt.push_requests (m : Mgmt) (n : Notice) : (m.push n).requests = m.requests := by
  unfold Mgmt.push
  split <;> rfl

theorem Mgmt.push_replies (m : Mgmt) (n : Notice) : (m.push n).replies = m.replies := by
  unfold Mgmt.push
  split <;> rfl

/-- The notices that wait, with the tally of those discarded. -/
def Mgmt.noticed (m : Mgmt) : List Notice × Nat := (m.notices, m.dropped)

/-- A notice joins its queue whatever the requests and replies. -/
theorem Mgmt.push_noticed {m m' : Mgmt} (h : m.noticed = m'.noticed) (n : Notice) :
    (m.push n).noticed = (m'.push n).noticed := by
  obtain ⟨h1, h2⟩ := Prod.mk.inj h
  unfold Mgmt.push Mgmt.noticed
  rw [h1]
  split <;> simp [h2]

theorem resetLines_eq (s : State) :
    resetLines s =
      { s with
        lines := s.lines.map Line.reset
        link := { s.link with irefs := (List.range s.lines.length).foldl s.irefsReset s.link.irefs } } := by
  have h : (List.range s.lines.length).foldl (fun s i => resetIref i s) s = _ :=
    resetIrefs_eq s (List.range s.lines.length) s.link.irefs
  unfold resetLines
  rw [h]
  rfl

theorem Manifest.abandon_eq (m : Manifest) :
    m.abandon = { m with
      rebuild := none
      rebuildsAbandoned := if m.rebuild.isSome then satInc 65535 m.rebuildsAbandoned else m.rebuildsAbandoned } := by
  obtain ⟨entries, filter, rebuild, lookups, absent, wrong, finished, abandoned⟩ := m
  cases rebuild <;> rfl

/-- No tray is in flight after a line reset. -/
theorem Tray.lineReset_not_inFlight (x : Tray) : x.lineReset.inFlight = false := by
  unfold Tray.lineReset
  split
  · rename_i h
    simp [Tray.inFlight, h]
  · rfl

/-- A line reset before its drain watch. -/
def resetBlocks (s : State) : State :=
  resetTracker (abandonRebuild (resetTrays (discardTimed (resetDrops (resetChutes (resetArch (resetLines s)))))))

theorem resetBlocks_eq (s : State) :
    resetBlocks s =
      { s with
        tracker :=
          { s.tracker with
            state := s.tracker.state.lineReset, disp := 0, speed := 0, net := 0, windowStart := s.now, latch := none }
        trays := s.trays.map Tray.lineReset
        lines := s.lines.map Line.reset
        arch := { s.arch with mon := none, outstanding := none }
        manifest := s.manifest.abandon
        sched := { s.sched with withdrawn := min Config.tallyMax (s.sched.withdrawn + s.dropsWaiting) }
        carts := { s.carts with chutes := s.carts.chutes.map Chute.lineReset }
        link :=
          { s.link with
            irefs := (List.range s.lines.length).foldl s.irefsReset s.link.irefs
            timing := []
            timingDiscarded :=
              min Config.tallyMax (s.link.timingDiscarded + (s.link.timing.filter (fun f => !f.body.isDrop)).length) }
        mgmt :=
          if s.tracker.stopIn = true ∧ s.tracker.stopOut = true ∧ s.tracker.latch ≠ none ∧ s.pins.stopHeld = false then
            s.mgmt.push (s.stamp (Notice.of (.stopSeen false)))
          else s.mgmt } := by
  unfold resetBlocks resetTracker
  rw [releaseLatch_eq, resetLines_eq]
  simp [withTracker, abandonRebuild, resetTrays, discardTimed, resetDrops, withSched, withLink, resetChutes, resetArch, withArch,
    State.dropsWaiting, State.stamp, List.filter_filter]

/-- The drain watch finds nothing in flight after a line reset. -/
theorem resetBlocks_drainDone (s : State) : (resetBlocks s).drainDone = s.session.watch := by
  rw [resetBlocks_eq]
  simp [State.drainDone, Tray.lineReset_not_inFlight]

theorem TrackState.lineReset_eq (x : TrackState) : x.lineReset = if x = .unconfigured then .unconfigured else .unsynced := by
  cases x <;> rfl

theorem lineReset_eq (s : State) :
    lineReset s =
      { resetBlocks s with
        session := if s.session.watch then { s.session with mode := .drained, watch := false } else s.session
        router := if s.session.watch then { s.router with staging := [] } else s.router
        mgmt :=
          if s.session.watch then
            (resetBlocks s).mgmt.push (s.stamp { Notice.of .drained with detail1 := s.session.voyage })
          else (resetBlocks s).mgmt } := by
  have h : lineReset s = drainWatch (resetBlocks s) := rfl
  have hs : (resetBlocks s).session = s.session := by rw [resetBlocks_eq]
  have hr : (resetBlocks s).router = s.router := by rw [resetBlocks_eq]
  rw [h, drainWatch, resetBlocks_drainDone, hs, hr]
  rfl

/-- A line that is HELD or RESERVED raises IREF, reason MODE. -/
theorem resetIref?_of_bags {s : State} {i : Nat} {l : Line} {a b k : Nat} (hl : s.lines[i]? = some l)
    (hs : l.state = .held a b ∨ l.state = .reserved k a b) :
    s.resetIref? i = some { line := i, tag1 := a, tag2 := b, reason := .mode, begun := false } := by
  unfold State.resetIref?
  rcases hs with h | h <;> rw [hl, Option.bind_some, h] <;> rfl

/-- A line that holds no bags raises no IREF. -/
theorem resetIref?_of_free {s : State} {i : Nat}
    (h : ∀ l ∈ s.lines[i]?, (∀ a b, l.state ≠ .held a b) ∧ ∀ k a b, l.state ≠ .reserved k a b) : s.resetIref? i = none := by
  unfold State.resetIref?
  cases hl : s.lines[i]? with
  | none => rfl
  | some l =>
    obtain ⟨hheld, hres⟩ := h l hl
    rw [Option.bind_some]
    cases hs : l.state with
    | held a b => exact absurd hs (hheld a b)
    | reserved k a b => exact absurd hs (hres k a b)
    | _ => rfl

/-- The notices at a line reset: the STOP line seen released, then a drain's end. -/
def State.resetMgmt (s : State) (m : Mgmt) : Mgmt :=
  let m1 :=
    if s.tracker.stopIn = true ∧ s.tracker.stopOut = true ∧ s.tracker.latch ≠ none ∧ s.pins.stopHeld = false then
      m.push (s.stamp (Notice.of (.stopSeen false)))
    else m
  if s.session.watch then m1.push (s.stamp { Notice.of .drained with detail1 := s.session.voyage }) else m1

theorem resetMgmt_requests (s : State) (m : Mgmt) : (s.resetMgmt m).requests = m.requests := by
  simp only [State.resetMgmt]
  split_ifs <;> simp only [Mgmt.push_requests]

theorem resetMgmt_replies (s : State) (m : Mgmt) : (s.resetMgmt m).replies = m.replies := by
  simp only [State.resetMgmt]
  split_ifs <;> simp only [Mgmt.push_replies]

theorem resetMgmt_noticed (s : State) {m m' : Mgmt} (h : m.noticed = m'.noticed) :
    (s.resetMgmt m).noticed = (s.resetMgmt m').noticed := by
  simp only [State.resetMgmt]
  split_ifs
  · exact Mgmt.push_noticed (Mgmt.push_noticed h _) _
  · exact Mgmt.push_noticed h _
  · exact Mgmt.push_noticed h _
  · exact h

theorem lineReset_mgmt (s : State) : (lineReset s).mgmt = s.resetMgmt s.mgmt := by
  rw [lineReset_eq, resetBlocks_eq]
  rfl

theorem lineReset_irefs (s : State) :
    (lineReset s).link.irefs = (List.range s.lines.length).foldl s.irefsReset s.link.irefs := by
  rw [lineReset_eq, resetBlocks_eq]

/-- Settles O59. -/
theorem lineReset_holds : Obligations.LineReset := by
  unfold Obligations.LineReset
  intro hdr s hm
  have hx : exec (.lrst hdr) s = done (lineReset (pushReply hdr .lrst .done [] (dropRequest s))) :=
    (rfl : exec (.lrst hdr) s = execLrst hdr s).trans (congrArg done (if_pos hm))
  refine ⟨_, hx, ?_, fun i l a b k hl hs => ?_, fun x hxm hfree => ?_, ?_, ?_, ?_⟩
  · rw [lineReset_eq, resetBlocks_eq, Manifest.abandon_eq, TrackState.lineReset_eq]
    rfl
  · rw [lineReset_irefs]
    exact mem_irefsReset_raised (resetIref?_of_bags hl hs) _ (List.mem_range.2 (List.getElem?_eq_some_iff.1 hl).1)
  · rw [lineReset_irefs]
    refine mem_irefsReset (fun r hr => ?_) _ hxm
    cases (resetIref?_of_free hfree).symm.trans hr
  · rw [lineReset_mgmt, resetMgmt_requests]
    rfl
  · rw [lineReset_mgmt, resetMgmt_replies]
    rfl
  · rw [lineReset_mgmt]
    exact resetMgmt_noticed s rfl

end Sys2Proof.Machine
end

section
/-! # The reports STAT, CRD and MGET (sections 7.5, 11.3 and 11.5) -/

namespace Sys2Proof.Machine

open Sys2Proof

/-! ## STAT (R191) -/

theorem sessionPart_eq (s : State) : (dropRequest s).sessionPart = sessionValues s := by
  have hflight : Tray.inFlight = fun x => x.state != .empty && x.state != .disabled :=
    funext fun x => Bool.not_or _ _
  simp only [State.sessionPart, sessionValues, State.inFlightCount, hflight, State.dropsWaiting, StrayList.openCount,
    List.append_assoc, List.cons_append, List.nil_append]
  rfl

theorem latchData_eq (c : Option StopCause) : latchData c = latchValues c := by
  rcases c with _ | _ | _ | _ | _ | _ <;> rfl

theorem trackerPart_eq (s : State) : s.trackerPart = trackerValues s := by
  have hstop : s.stopLevel = true ↔ s.pins.stopHeld = true ∨ (s.tracker.latch ≠ none ∧ s.tracker.stopOut = true) := by
    simp [State.stopLevel, State.stopDriven, Option.isSome_iff_ne_none]
  simp only [State.trackerPart, trackerValues, latchData_eq, hstop]
  rfl

theorem lineStateData_eq (x : LineState) : lineStateData x = lineValues x := by
  cases x <;> rfl

theorem irefData_eq (r : Option Iref) : irefData r = irefValues r := by
  cases r <;> rfl

theorem linesPart_eq (s : State) : s.linesPart = linesValues s := by
  refine List.flatMap_congr fun y _ => ?_
  simp only [State.lineData, lineStateData_eq, irefData_eq, listData, ← List.map_eq_flatMap,
    List.append_assoc, List.cons_append, List.nil_append]
  rfl

theorem monDatum_eq (m : Option Monitor) : monDatum m = .u8 (if m = none then 2 else 1) := by
  cases m <;> rfl

theorem rebuildData_eq (r : Option Rebuild) : rebuildData r = rebuildValues r := by
  cases r <;> rfl

theorem manifestPart_eq (m : Manifest) : m.statPart = manifestValues m := by
  simp only [Manifest.statPart, manifestValues, rebuildData_eq]
  rfl

theorem stagingData_eq {α : Type} (l : List α) : stagingData l.length = [.u8 (if l = [] then 1 else 2), .u8 l.length] := by
  cases l <;> rfl

theorem routesPart_eq (r : Router) (first : Nat) : r.statPart first = routesValues r first := by
  simp only [Router.statPart, routesValues, stagingData_eq, listData, List.length_take, List.length_drop]
  rfl

theorem chuteData_eq (s : State) (j : Nat) : s.chuteData j = chuteValues s.carts.chutes[j]? := by
  unfold State.chuteData State.chute?
  cases s.carts.chutes[j]? with
  | none => rfl
  | some c =>
    simp only [Chute.statData, monDatum_eq]
    rfl

theorem chuteRange_eq (first : Nat) : chuteRange first = (List.range (min 4 (64 - first))).map (first + ·) := by
  unfold chuteRange
  refine List.ext_getElem (by simp) fun i _ _ => ?_
  simp

theorem chutesPart_eq (s : State) (first : Nat) : s.chutesPart first = chutesValues s first := by
  simp only [State.chutesPart, chutesValues, stagingData_eq, listData, chuteRange_eq, List.length_map, List.length_range,
    List.flatMap_map, chuteData_eq, CartUnit.slotsUsed]
  rfl

/-- ARCH (R49), in the layout of log 14. -/
def archValues (s : State) : List Datum :=
  [.u16 s.arch.sent, .u16 s.arch.missed, .u16 s.arch.replaced, .u16 s.arch.stale, .u16 s.arch.rejected, .u16 s.arch.skipped,
    .u8 (s.arch.lapLimit.getD 0), .u16 (s.arch.outstanding.getD 65535), .u8 (if s.arch.mon = none then 2 else 1),
    .u16 ((s.arch.mon.map Monitor.tray).getD 65535), .u16 s.tracker.archClamped]

theorem archPart_eq (s : State) : s.archPart = archValues s := by
  simp only [State.archPart, monDatum_eq]
  rfl

/-- What a part of STAT carries after its part and first number. -/
def State.statValues (s : State) (a : StatArg) : List Datum :=
  match a.part with
  | 1 => sessionValues s
  | 2 => trackerValues s
  | 3 => linesValues s
  | 4 => archValues s
  | 5 => manifestValues s.manifest
  | 6 => routesValues s.router a.first
  | 7 => chutesValues s a.first
  | _ => s.link.statPart

theorem statPart_none (s : State) : ∀ {a : StatArg},
    (a.part = 0 ∨ 8 < a.part ∨ ((a.part = 6 ∨ a.part = 7) ∧ 63 < a.first)) → s.statPart a = none
  | ⟨0, _⟩, _ => rfl
  | ⟨1, _⟩, h | ⟨2, _⟩, h | ⟨3, _⟩, h | ⟨4, _⟩, h | ⟨5, _⟩, h | ⟨8, _⟩, h => absurd h (by simp)
  | ⟨6, f⟩, h | ⟨7, f⟩, h => if_neg (by simpa using h)
  | ⟨_ + 9, _⟩, _ => rfl

theorem statPart_eq (s : State) : ∀ {a : StatArg}, 1 ≤ a.part → a.part ≤ 8 → ((a.part = 6 ∨ a.part = 7) → a.first ≤ 63) →
    (dropRequest s).statPart a =
      some (.u8 a.part :: .u8 (if a.part = 6 ∨ a.part = 7 then a.first else 255) :: s.statValues a)
  | ⟨0, _⟩, h, _, _ => absurd h (by simp)
  | ⟨1, _⟩, _, _, _ => congrArg (fun d => some (Datum.u8 1 :: Datum.opt8 none :: d)) (sessionPart_eq s)
  | ⟨2, _⟩, _, _, _ => congrArg (fun d => some (Datum.u8 2 :: Datum.opt8 none :: d)) (trackerPart_eq (dropRequest s))
  | ⟨3, _⟩, _, _, _ => congrArg (fun d => some (Datum.u8 3 :: Datum.opt8 none :: d)) (linesPart_eq (dropRequest s))
  | ⟨4, _⟩, _, _, _ => congrArg (fun d => some (Datum.u8 4 :: Datum.opt8 none :: d)) (archPart_eq (dropRequest s))
  | ⟨5, _⟩, _, _, _ => congrArg (fun d => some (Datum.u8 5 :: Datum.opt8 none :: d)) (manifestPart_eq s.manifest)
  | ⟨6, f⟩, _, _, h =>
    (if_pos (h (.inl rfl))).trans (congrArg (fun d => some (Datum.u8 6 :: .u8 f :: d)) (routesPart_eq s.router f))
  | ⟨7, f⟩, _, _, h =>
    (if_pos (h (.inr rfl))).trans (congrArg (fun d => some (Datum.u8 7 :: .u8 f :: d)) (chutesPart_eq (dropRequest s) f))
  | ⟨8, _⟩, _, _, _ => rfl
  | ⟨_ + 9, _⟩, _, h, _ => absurd h (by simp)

/-! ## CRD (R144) -/

theorem crdData_eq (c : Chute) (first : Nat) : c.crdData first = crdValues c first := by
  simp only [Chute.crdData, crdValues, listData, List.length_take, List.length_drop]
  rfl

/-! ## MGET (R72) -/

theorem Table.mem_of_get {α : Type} {k : Nat} {v : α} : ∀ {t : List (Nat × α)}, Table.get t k = some v → (k, v) ∈ t
  | (k', v') :: rest, h => by
    unfold Table.get at h
    split at h
    · rename_i hk
      cases hk
      cases h
      exact List.mem_cons_self
    · exact List.mem_cons_of_mem _ (Table.mem_of_get h)

theorem Table.get_of_mem {α : Type} {k : Nat} {v : α} :
    ∀ {t : List (Nat × α)}, Table.wf t → (k, v) ∈ t → Table.get t k = some v
  | (k', v') :: rest, hwf, h => by
    obtain ⟨hlt, hrest⟩ := List.pairwise_cons.1 hwf
    rcases List.mem_cons.1 h with heq | hmem
    · cases heq
      exact if_pos rfl
    · have hne : k' ≠ k := Nat.ne_of_lt (hlt _ hmem)
      exact (if_neg hne).trans (Table.get_of_mem hrest hmem)

/-- The bucket search finds an entry of the store that bears the tag. -/
theorem Manifest.find_mem {m : Manifest} {tag : Nat} {e : Entry} (h : m.find tag = some e) :
    e.tag = tag ∧ ∃ k, (k, e) ∈ m.entries := by
  obtain ⟨k, hk, hget⟩ := Option.bind_eq_some_iff.1 h
  have hp := List.find?_some hk
  rw [hget] at hp
  exact ⟨by simpa using hp, k, Table.mem_of_get hget⟩

/-- A store that meets its law has no entry of a tag that the bucket search does not find. -/
theorem Manifest.find_none {m : Manifest} {tag : Nat} (hm : m.Law) (h : m.find tag = none) : ∀ x ∈ m.entries, x.2.tag ≠ tag := by
  obtain ⟨hwf, hkeys, -⟩ := hm
  rintro ⟨k, e⟩ hx rfl
  have hget := Table.get_of_mem hwf hx
  have hkey : k = wayKey (bucketOf e.tag) (k % Config.ways) := by
    rw [wayKey, ← (hkeys _ hx).1, Nat.mul_comm]
    exact (Nat.div_add_mod k Config.ways).symm
  have hin : k ∈ (List.range Config.ways).map (wayKey (bucketOf e.tag)) :=
    List.mem_map.2 ⟨k % Config.ways, List.mem_range.2 (Nat.mod_lt _ (by decide)), hkey.symm⟩
  have hsome : (m.findKey e.tag).isSome = true := List.find?_isSome.2 ⟨k, hin, by simp [hget]⟩
  obtain ⟨k', hk'⟩ := Option.isSome_iff_exists.1 hsome
  have hp := List.find?_some hk'
  cases hg : Table.get m.entries k' with
  | none => simp [hg] at hp
  | some e' =>
    rw [Manifest.find, hk', Option.bind_some, hg] at h
    cases h

/-- The tray found is the first that bears the tag. -/
theorem trayOfTag_some {s : State} {tag k : Nat} {x : Tray} (h : s.trayOfTag tag = some (k, x)) :
    s.trays[k]? = some x ∧ x.tag = tag ∧ ∀ y ∈ s.trays.take k, y.tag ≠ tag := by
  obtain ⟨⟨y, i⟩, hy, hyx⟩ := Option.map_eq_some_iff.1 h
  cases hyx
  obtain ⟨hp, n, hn, hget, hbefore⟩ := List.find?_eq_some_iff_getElem.1 hy
  rw [List.getElem_zipIdx, Nat.zero_add] at hget
  obtain ⟨rfl, rfl⟩ := Prod.mk.inj hget
  have hlen : n < s.trays.length := by simpa using hn
  obtain ⟨h0, htag⟩ : tag ≠ 0 ∧ s.trays[n].tag = tag := by simpa using hp
  refine ⟨List.getElem?_eq_getElem _, htag, fun y hy htag' => ?_⟩
  obtain ⟨i, hi, rfl⟩ := List.mem_take_iff_getElem.1 hy
  simpa [h0, htag'] using hbefore i (by omega)

theorem trayOfTag_none {s : State} {tag : Nat} (h0 : tag ≠ 0) (h : s.trayOfTag tag = none) : ∀ x ∈ s.trays, x.tag ≠ tag := by
  intro x hx htag
  obtain ⟨i, hi, rfl⟩ := List.getElem_of_mem hx
  have hmem : (s.trays[i], i) ∈ s.trays.zipIdx := List.mem_zipIdx_iff_getElem?.2 (List.getElem?_eq_getElem hi)
  have hp := List.find?_eq_none.1 (Option.map_eq_none_iff.1 h) _ hmem
  exact hp (by simp [h0, htag])

/-- The open cart's entry found is the first that bears the tag, chute by chute. -/
theorem cartOfTag_some {s : State} {tag j serial : Nat} {e : CartEntry} (h : s.cartOfTag tag = some (j, serial, e)) :
    ∃ c before after, s.carts.chutes[j]? = some c ∧ c.serial.getD 0 = serial ∧ c.cart = before ++ e :: after ∧ e.tag = tag ∧
      (∀ x ∈ before, x.tag ≠ tag) ∧ ∀ d ∈ s.carts.chutes.take j, ∀ x ∈ d.cart, x.tag ≠ tag := by
  obtain ⟨l₁, ⟨c, i⟩, l₂, hsplit, hc, hbefore⟩ := List.findSome?_eq_some_iff.1 h
  obtain ⟨e', he, hee⟩ := Option.map_eq_some_iff.1 hc
  obtain ⟨rfl, rfl, rfl⟩ : j = i ∧ serial = c.serial.getD 0 ∧ e = e' := by simpa [eq_comm] using hee
  obtain ⟨hp, before, after, hcart, hnot⟩ := List.find?_eq_some_iff_append.1 he
  obtain ⟨h0, htag⟩ : tag ≠ 0 ∧ e.tag = tag := by simpa using hp
  have hi : l₁.length = j ∧ s.carts.chutes[j]? = some c := by
    have hget : s.carts.chutes.zipIdx[l₁.length]? = some (c, j) := by rw [hsplit]; simp
    rw [List.getElem?_zipIdx] at hget
    obtain ⟨x, hx, hxe⟩ := Option.map_eq_some_iff.1 hget
    simp only [Nat.zero_add, Prod.mk.injEq] at hxe
    obtain ⟨rfl, rfl⟩ := hxe
    exact ⟨rfl, hx⟩
  obtain ⟨rfl, hchute⟩ := hi
  refine ⟨c, before, after, hchute, rfl, hcart, htag, fun x hx hxt => ?_, fun d hd x hx hxt => ?_⟩
  · simpa [h0, hxt] using hnot x hx
  · obtain ⟨i, hi, rfl⟩ := List.mem_take_iff_getElem.1 hd
    have hl : (s.carts.chutes[i], i) ∈ l₁ := by
      have hget : s.carts.chutes.zipIdx[i]? = some (s.carts.chutes[i], i) := by
        rw [List.getElem?_zipIdx, List.getElem?_eq_getElem, Option.map_some, Nat.zero_add]
      rw [hsplit, List.getElem?_append_left (by omega)] at hget
      exact List.mem_of_getElem? hget
    have hnone := List.find?_eq_none.1 (Option.map_eq_none_iff.1 (hbefore _ hl)) x hx
    exact hnone (by simp [h0, hxt])

theorem cartOfTag_none {s : State} {tag : Nat} (h0 : tag ≠ 0) (h : s.cartOfTag tag = none) :
    ∀ c ∈ s.carts.chutes, ∀ e ∈ c.cart, e.tag ≠ tag := by
  intro c hc e he htag
  obtain ⟨i, hi, rfl⟩ := List.getElem_of_mem hc
  have hmem : (s.carts.chutes[i], i) ∈ s.carts.chutes.zipIdx := List.mem_zipIdx_iff_getElem?.2 (List.getElem?_eq_getElem hi)
  have hnone := List.find?_eq_none.1 (Option.map_eq_none_iff.1 (List.findSome?_eq_none_iff.1 h _ hmem)) e he
  exact hnone (by simp [h0, htag])

theorem StrayRec.holds_iff {tag : Nat} (h0 : tag ≠ 0) (r : StrayRec) :
    r.holds tag = true ↔ r.tag = tag ∨ r.resolvedTag = tag := by
  simp [StrayRec.holds, h0]

/-- The record found is the first that holds the tag. -/
theorem StrayList.find_some {l : StrayList} {tag : Nat} {r : StrayRec} (h0 : tag ≠ 0) (h : l.find tag = some r) :
    ∃ before after, l.recs = before ++ r :: after ∧ (r.tag = tag ∨ r.resolvedTag = tag) ∧
      ∀ x ∈ before, x.tag ≠ tag ∧ x.resolvedTag ≠ tag := by
  obtain ⟨hp, before, after, hsplit, hnot⟩ := List.find?_eq_some_iff_append.1 h
  refine ⟨before, after, hsplit, (StrayRec.holds_iff h0 r).1 hp, fun x hx => not_or.1 fun hx' => ?_⟩
  have := hnot x hx
  rw [(StrayRec.holds_iff h0 x).2 hx'] at this
  cases this

theorem StrayList.find_none {l : StrayList} {tag : Nat} (h0 : tag ≠ 0) (h : l.find tag = none) :
    ∀ r ∈ l.recs, r.tag ≠ tag ∧ r.resolvedTag ≠ tag :=
  fun r hr => not_or.1 fun hx => List.find?_eq_none.1 h r hr ((StrayRec.holds_iff h0 r).2 hx)

/-- A tag that no entry, tray, cart entry or stray record bears is nowhere. -/
theorem tagNowhere_of_absent {s : State} {tag : Nat} (h0 : tag ≠ 0) (hentry : ∀ x ∈ s.manifest.entries, x.2.tag ≠ tag)
    (htray : ∀ x ∈ s.trays, x.tag ≠ tag) (hcart : ∀ c ∈ s.carts.chutes, ∀ e ∈ c.cart, e.tag ≠ tag)
    (hstray : ∀ r ∈ s.strays.recs, r.tag ≠ tag ∧ r.resolvedTag ≠ tag) : s.tagNowhere tag = true := by
  have h1 : s.manifest.find tag = none := by
    refine Option.eq_none_iff_forall_not_mem.2 fun e he => ?_
    obtain ⟨htag, k, hk⟩ := Manifest.find_mem he
    exact hentry _ hk htag
  have h2 : s.trayOfTag tag = none := by
    refine Option.eq_none_iff_forall_not_mem.2 fun ⟨k, x⟩ hx => ?_
    obtain ⟨hk, htag, -⟩ := trayOfTag_some hx
    exact htray x (List.mem_of_getElem? hk) htag
  have h3 : s.cartOfTag tag = none := by
    refine Option.eq_none_iff_forall_not_mem.2 fun ⟨j, n, e⟩ he => ?_
    obtain ⟨c, before, after, hc, -, hsplit, htag, -⟩ := cartOfTag_some he
    exact hcart c (List.mem_of_getElem? hc) e (by simp [hsplit]) htag
  have h4 : s.strays.find tag = none := by
    refine Option.eq_none_iff_forall_not_mem.2 fun r hr => ?_
    obtain ⟨before, after, hsplit, htag, -⟩ := StrayList.find_some h0 hr
    obtain ⟨hne, hne'⟩ := hstray r (by simp [hsplit])
    exact htag.elim hne hne'
  simp [State.tagNowhere, h1, h2, h3, h4]

/-- A tag that an entry, a tray, a cart entry or a stray record bears is somewhere. -/
theorem not_tagNowhere_of_present {s : State} {tag : Nat} (h0 : tag ≠ 0) (hm : s.manifest.Law)
    (h : (∃ x ∈ s.manifest.entries, x.2.tag = tag) ∨ (∃ x ∈ s.trays, x.tag = tag) ∨
      (∃ c ∈ s.carts.chutes, ∃ e ∈ c.cart, e.tag = tag) ∨ ∃ r ∈ s.strays.recs, r.tag = tag ∨ r.resolvedTag = tag) :
    s.tagNowhere tag = false := by
  rw [← Bool.not_eq_true]
  intro hno
  simp only [State.tagNowhere, Bool.and_eq_true, Option.isNone_iff_eq_none] at hno
  obtain ⟨⟨⟨h1, h2⟩, h3⟩, h4⟩ := hno
  rcases h with ⟨x, hx, htag⟩ | ⟨x, hx, htag⟩ | ⟨c, hc, e, he, htag⟩ | ⟨r, hr, htag⟩
  · exact Manifest.find_none hm h1 x hx htag
  · exact trayOfTag_none h0 h2 x hx htag
  · exact cartOfTag_none h0 h3 c hc e he htag
  · obtain ⟨hne, hne'⟩ := StrayList.find_none h0 h4 r hr
    exact htag.elim hne hne'

theorem tagOk_iff (tag : Nat) : tagOk tag = true ↔ 1 ≤ tag ∧ tag ≤ 999999999 := by
  rw [tagOk, Bool.and_eq_true, decide_eq_true_iff, decide_eq_true_iff]
  rfl

/-- MGET of a tag in range, by where the tag is. -/
theorem serveMget_some {tag : Nat} (h : 1 ≤ tag ∧ tag ≤ 999999999) (s : State) :
    serveMget (some tag) s = if s.tagNowhere tag then refuse .notFound s else doneWith (s.mgetParts tag) s :=
  if_neg (by rw [(tagOk_iff tag).2 h]; simp)

/-- Settles O60. -/
theorem reports : Obligations.Reports := by
  unfold Obligations.Reports
  intro hdr s
  refine ⟨fun arg hm => ⟨?_, ?_⟩, fun arg hm => ⟨?_, ?_⟩, fun arg hm => ⟨?_, ?_⟩⟩
  · rintro rfl
    exact answers_of_serve (x := refuse .range (dropRequest s)) rfl hm rfl
  · rintro a rfl
    refine ⟨fun h => ?_, fun h1 h8 hf => ⟨s.statValues a, ?_, ?_, ?_, ?_, ?_, ?_, ?_, ?_, ?_⟩⟩
    · have served : serveStat (some a) (dropRequest s) = refuse .range (dropRequest s) := by
        rw [serveStat, statPart_none (dropRequest s) h]
      exact answers_of_serve rfl hm served
    · have served : serveStat (some a) (dropRequest s) =
          doneWith (.u8 a.part :: .u8 (if a.part = 6 ∨ a.part = 7 then a.first else 255) :: s.statValues a)
            (dropRequest s) := by
        rw [serveStat, statPart_eq s h1 h8 hf]
      exact answers_of_serve rfl hm served
    all_goals exact fun h => by rw [State.statValues, h]; rfl
  · rintro rfl
    exact answers_of_serve (x := refuse .range (dropRequest s)) rfl hm rfl
  · rintro a rfl
    refine ⟨fun h => ?_, fun h63 h254 hc => ?_, fun c h63 h254 hc => ?_⟩
    · exact answers_of_serve (x := refuse .range (dropRequest s)) rfl hm (if_pos h)
    · have served : serveCrd (some a) (dropRequest s) = refuse .notFound (dropRequest s) := by
        have hc' : (dropRequest s).chute? a.chute = none := hc
        rw [serveCrd, if_neg (by omega), hc']
      exact answers_of_serve rfl hm served
    · have served : serveCrd (some a) (dropRequest s) = doneWith (crdValues c a.first) (dropRequest s) := by
        have hc' : (dropRequest s).chute? a.chute = some c := hc
        rw [serveCrd, if_neg (by omega), hc', ← crdData_eq]
      exact answers_of_serve rfl hm served
  · rintro rfl
    exact answers_of_serve (x := refuse .range (dropRequest s)) rfl hm rfl
  · rintro tag rfl
    refine ⟨fun h => ?_, fun h1 hmax hentry htray hcart hstray => ?_,
      fun entry tray cart stray h1 hmax hlaw hthere e0 e1 t0 t1 c0 c1 s0 s1 => ?_⟩
    · refine answers_of_serve (x := refuse .range (dropRequest s)) rfl hm (if_pos ?_)
      rw [← Bool.not_eq_true, tagOk_iff]
      omega
    · refine answers_of_serve (x := refuse .notFound (dropRequest s)) rfl hm ?_
      have hno : (dropRequest s).tagNowhere tag = true := tagNowhere_of_absent (by omega) hentry htray hcart hstray
      rw [serveMget_some ⟨h1, hmax⟩, if_pos hno]
    · have h0 : tag ≠ 0 := by omega
      have he : entry = entryPart (s.manifest.find tag) := by
        cases hf : s.manifest.find tag with
        | none => exact e0 (Manifest.find_none hlaw hf)
        | some e =>
          obtain ⟨rfl, k, hk⟩ := Manifest.find_mem hf
          exact e1 k e hk rfl
      have ht : tray = trayPart (s.trayOfTag tag) := by
        cases hf : s.trayOfTag tag with
        | none => exact t0 (trayOfTag_none h0 hf)
        | some y =>
          obtain ⟨hk, htag, hbefore⟩ := trayOfTag_some hf
          exact t1 y.1 y.2 hk htag hbefore
      have hc : cart = cartPart (s.cartOfTag tag) := by
        cases hf : s.cartOfTag tag with
        | none => exact c0 (cartOfTag_none h0 hf)
        | some y =>
          obtain ⟨c, before, after, hj, hserial, hsplit, htag, hbefore, hchutes⟩ := cartOfTag_some hf
          rw [c1 y.1 c y.2.2 before after hj hsplit htag hbefore hchutes, hserial]
          rfl
      have hs : stray = strayPart (s.strays.find tag) := by
        cases hf : s.strays.find tag with
        | none => exact s0 (StrayList.find_none h0 hf)
        | some r =>
          obtain ⟨before, after, hsplit, htag, hbefore⟩ := StrayList.find_some h0 hf
          exact s1 before after r hsplit htag hbefore
      rw [he, ht, hc, hs]
      refine answers_of_serve (x := doneWith ((dropRequest s).mgetParts tag) (dropRequest s)) rfl hm ?_
      have hsome : (dropRequest s).tagNowhere tag = false := not_tagNowhere_of_present h0 hlaw hthere
      rw [serveMget_some ⟨h1, hmax⟩, hsome]
      rfl

end Sys2Proof.Machine
end

section
/-! # Cancellation of orders and chute faults (sections 6.3, 7.4 and 7.5) -/

namespace Sys2Proof.Machine

open Sys2Proof

/-! ## Changes of tray state that evaluate no drain watch (R23, R169) -/

theorem set_eq_modify_of_get {α : Type} {l : List α} {i : Nat} {a : α} (h : l[i]? = some a) (f : α → α) :
    l.modify i f = l.set i (f a) := by
  rw [List.modify_eq_set_getElem?, h]
  rfl

/-- Modifying an element that a function leaves alone changes nothing. -/
theorem modify_eq_self {α : Type} {f : α → α} {i : Nat} {l : List α} (h : ∀ a ∈ l[i]?, f a = a) : l.modify i f = l := by
  refine List.ext_getElem? fun n => ?_
  rw [List.getElem?_modify]
  by_cases hn : i = n
  · subst hn
    cases ha : l[i]? with
    | none => rfl
    | some a => simp [h a ha]
  · simp [hn]

/-- The change of a tray record that is made only in the expected state (R23). -/
def Tray.changed (expected : TrayState) (f : Tray → Tray) (x : Tray) : Tray := if x.state = expected then f x else x

/-- A change to a state other than EMPTY and DISABLED writes the tray record alone. -/
theorem changeTray_eq {e : TrayState} {f : Tray → Tray} (hf : ∀ x, (f x).state ≠ .empty ∧ (f x).state ≠ .disabled) (k : Nat)
    (s : State) : changeTray k e f s = { s with trays := s.trays.modify k (Tray.changed e f) } := by
  unfold changeTray
  cases hx : s.trays[k]? with
  | none => rw [modify_eq_self (by simp [hx])]
  | some x =>
    change (if x.state = e then settleTray k (f x) s else s) = _
    by_cases he : x.state = e
    · obtain ⟨h1, h2⟩ := hf x
      rw [set_eq_modify_of_get hx, Tray.changed, if_pos he, if_pos he, settleTray, if_neg (by tauto)]
      rfl
    · rw [if_neg he, modify_eq_self (by simp [hx, Tray.changed, he])]

/-- ROUTED to RECIRCULATE (R112). -/
def Tray.recirculated : Tray → Tray := Tray.changed .routed Tray.unroute

theorem Tray.recirculated_idem (x : Tray) : x.recirculated.recirculated = x.recirculated := by
  unfold Tray.recirculated Tray.changed
  by_cases h : x.state = .routed
  · rw [if_pos h]
    rfl
  · rw [if_neg h, if_neg h]

/-- The trays after the change of those that a list names. -/
def traysAfter (f : Tray → Tray) (ks : List Nat) (trays : List Tray) : List Tray :=
  ks.foldl (fun ts k => ts.modify k f) trays

/-- A change that is idempotent is made once to each tray named, and to no other. -/
theorem traysAfter_getElem? {f : Tray → Tray} (hf : ∀ x, f (f x) = f x) :
    ∀ (ks : List Nat) (trays : List Tray) (k : Nat),
      (traysAfter f ks trays)[k]? = (trays[k]?).map (fun x => if k ∈ ks then f x else x)
  | [], trays, k => by simp [traysAfter]
  | i :: ks, trays, k => by
    rw [traysAfter, List.foldl_cons, ← traysAfter, traysAfter_getElem? hf ks, List.getElem?_modify]
    cases trays[k]? with
    | none => rfl
    | some x => by_cases hi : i = k <;> by_cases hk : k ∈ ks <;> simp [hi, hk, hf, eq_comm]

/-! ## Cancellation (R112, R113) -/

theorem repeat_succ_inner {α : Type} (f : α → α) (n : Nat) (a : α) : Nat.repeat f (n + 1) a = Nat.repeat f n (f a) := by
  induction n with
  | zero => rfl
  | succ n ih => exact congrArg f ih

theorem repeat_add {α : Type} (f : α → α) (m n : Nat) (a : α) :
    Nat.repeat f (m + n) a = Nat.repeat f n (Nat.repeat f m a) := by
  induction n with
  | zero => rfl
  | succ n ih => exact congrArg f ih

theorem cancelTray_eq (k : Nat) (s : State) :
    cancelTray k s =
      { s with
        trays := s.trays.modify k Tray.recirculated
        sched := { s.sched with cancelled := satInc 65535 s.sched.cancelled } } :=
  changeTray_eq (fun _ => by simp [Tray.unroute]) _ _

theorem cancelTrays_eq : ∀ (q : List Order) (s : State),
    q.foldl (fun s o => cancelTray o.tray s) s =
      { s with
        trays := traysAfter Tray.recirculated (q.map Order.tray) s.trays
        sched := { s.sched with cancelled := Nat.repeat (satInc 65535) q.length s.sched.cancelled } }
  | [], _ => rfl
  | o :: q, s => by
    rw [List.foldl_cons, cancelTray_eq, cancelTrays_eq q]
    simp only [List.length_cons, repeat_succ_inner]
    rfl

/-- A chute without its orders and its monitor, with the FULL test (R113, R124). -/
def Chute.unordered (c : Chute) : Chute := { c with queue := [], mon := none }.fullTest

theorem cancelQueue_eq {j : Nat} {s : State} {c : Chute} (h : s.carts.chutes[j]? = some c) :
    cancelQueue j s =
      { s with
        trays := traysAfter Tray.recirculated (c.queue.map Order.tray) s.trays
        sched := { s.sched with cancelled := Nat.repeat (satInc 65535) c.queue.length s.sched.cancelled }
        carts := { s.carts with chutes := s.carts.chutes.set j c.unordered } } := by
  have hc : s.chute? j = some c := h
  unfold cancelQueue
  rw [hc]
  simp only [cancelTrays_eq]
  simp only [modifyChute, set_eq_modify_of_get h]
  rfl

/-- A ROUTED tray of an order recirculates, and no other tray changes (R112). -/
theorem traysAfter_recirculated {q : List Order} {s : State} {t : List Tray}
    (ht : t = traysAfter Tray.recirculated (q.map Order.tray) s.trays) :
    (∀ o ∈ q, ∀ x, s.trays[o.tray]? = some x → x.state = .routed →
      t[o.tray]? = some { x with state := .recirculate, target := none, seq := none }) ∧
    ∀ (k : Nat) (x : Tray), s.trays[k]? = some x → ((∀ o ∈ q, o.tray ≠ k) ∨ x.state ≠ .routed) → t[k]? = some x := by
  subst ht
  refine ⟨fun o ho x hx hr => ?_, fun k x hx hk => ?_⟩
  · rw [traysAfter_getElem? Tray.recirculated_idem, hx, Option.map_some, if_pos (List.mem_map_of_mem ho), Tray.recirculated,
      Tray.changed, if_pos hr]
    rfl
  · rw [traysAfter_getElem? Tray.recirculated_idem, hx, Option.map_some]
    rcases hk with hk | hk
    · rw [if_neg (by simpa using hk)]
    · rw [Tray.recirculated, Tray.changed, if_neg hk, ite_self]

/-! ## Faults and their end (R137, R138) -/

/-- A frame of a chute's own station is handed to its owner (R120). -/
theorem chuteFrame_eq {j : Nat} {s : State} {c : Chute} (h : s.carts.chutes[j]? = some c)
    (entry : Nat → Chute → State → State) : chuteFrame c.cfg.station (.full j) entry s = entry j c s := by
  have hc : s.chute? j = some c := h
  simp [chuteFrame, State.frameChute, hc]

/-- The effect of CFLT before the STOP latch (R137). -/
theorem cancelQueue_faulted {j : Nat} {s : State} {c : Chute} (h : s.carts.chutes[j]? = some c) :
    cancelQueue j (modifyChute j (fun c => { c with state := .faulted, prior := some c.state }) s) =
      { s with
        trays := traysAfter Tray.recirculated (c.queue.map Order.tray) s.trays
        sched := { s.sched with cancelled := Nat.repeat (satInc 65535) c.queue.length s.sched.cancelled }
        carts :=
          { s.carts with
            chutes := s.carts.chutes.set j { c with state := .faulted, prior := some c.state, queue := [], mon := none } } } := by
  have hlt : j < s.carts.chutes.length := (List.getElem?_eq_some_iff.1 h).1
  have h' : (modifyChute j (fun c => { c with state := .faulted, prior := some c.state }) s).carts.chutes[j]? =
      some { c with state := .faulted, prior := some c.state } := by
    simp [h]
  rw [cancelQueue_eq h']
  simp [modifyChute, set_eq_modify_of_get h, List.set_set, Chute.unordered, Chute.fullTest, Chute.inUse]

theorem stopOnFault_eq (j : Nat) (c : Chute) (s : State) :
    stopOnFault j c s =
      { s with
        tracker :=
          { s.tracker with
            latch := if c.cfg.stopOnFault then some (s.tracker.latch.getD (.chuteFault j)) else s.tracker.latch }
        mgmt := if c.cfg.stopOnFault = true ∧ s.tracker.latch = none then s.latchSet (.chuteFault j) else s.mgmt } := by
  unfold stopOnFault
  cases c.cfg.stopOnFault
  · simp
  · simp [setLatch_eq]

/-- The latch and the notices after CFLT, whatever the state of the chute (R137). -/
theorem faultChute_latch {j : Nat} {s : State} {c : Chute} (h : s.carts.chutes[j]? = some c) :
    (faultChute j c s).tracker =
        { s.tracker with
          latch := if c.cfg.stopOnFault then some (s.tracker.latch.getD (.chuteFault j)) else s.tracker.latch } ∧
      (faultChute j c s).mgmt =
        if c.cfg.stopOnFault = true ∧ s.tracker.latch = none then s.latchSet (.chuteFault j) else s.mgmt := by
  unfold faultChute
  split
  · rw [stopOnFault_eq]
    exact ⟨rfl, rfl⟩
  · rw [cancelQueue_faulted h, stopOnFault_eq]
    exact ⟨rfl, rfl⟩

/-- The swap of a chute ends with a new cart (R136). -/
theorem openWithCart_eq {j : Nat} {s : State} {c : Chute} (h : s.carts.chutes[j]? = some c) (hq : c.queue = [])
    (hcap : 1 ≤ c.cfg.capacity) : openWithCart j s = { s with carts := s.carts.recarted j c } := by
  have hlen : j < s.carts.chutes.length := (List.getElem?_eq_some_iff.1 h).1
  have h' : (newCart j s).carts.chutes[j]? =
      some { c with serial := some s.carts.nextSerial, cart := [], nearFull := false, present := false } := by
    simp [newCart, h]
  have hpos : 0 < c.cfg.capacity := hcap
  unfold openWithCart modifyChute
  rw [set_eq_modify_of_get h']
  simp [newCart, set_eq_modify_of_get h, List.set_set, Chute.fullTest, Chute.inUse, Chute.count, Chute.queued, hq, hpos,
    CartUnit.recarted, nextSerial]

/-- A chute in SWAP whose report is sent and whose cart stands there ends its swap (R136). -/
theorem swapTest_ready {j : Nat} {s : State} {c : Chute} (h : s.carts.chutes[j]? = some c)
    (hswap : c.state = .swap ∧ c.report = .none ∧ c.present = true) (hq : c.queue = []) (hcap : 1 ≤ c.cfg.capacity) :
    swapTest j s = { s with carts := s.carts.recarted j c } := by
  have hc : s.chute? j = some c := h
  rw [swapTest, hc]
  exact (if_pos hswap).trans (openWithCart_eq h hq hcap)

/-- CCLR at a FAULTED chute: its prior state, then the test for the end of a swap (R138). -/
theorem clearFault_eq {j : Nat} {s : State} {c : Chute} (h : s.carts.chutes[j]? = some c) (hf : c.state = .faulted) :
    clearFault j c s = swapTest j { s with carts := { s.carts with chutes := s.carts.chutes.set j c.restore } } := by
  rw [clearFault, if_pos hf, modifyChute, set_eq_modify_of_get h]

/-- The test for the end of a swap leaves a chute alone that is not ready for it. -/
theorem swapTest_set {j : Nat} {s : State} {c d : Chute} (h : s.carts.chutes[j]? = some c)
    (hd : ¬ (d.state = .swap ∧ d.report = .none ∧ d.present = true)) :
    swapTest j { s with carts := { s.carts with chutes := s.carts.chutes.set j d } } =
      { s with carts := { s.carts with chutes := s.carts.chutes.set j d } } := by
  have hlen : j < s.carts.chutes.length := (List.getElem?_eq_some_iff.1 h).1
  simp [swapTest, State.chute?, hlen, hd]

theorem Chute.restore_inUse {c : Chute} (h : c.prior = some .opened ∨ c.prior = some .full) :
    c.restore =
      { c with prior := none, state := if c.cart.length + c.queue.length < c.cfg.capacity then .opened else .full } := by
  unfold Chute.restore
  rcases h with h | h <;> rw [h] <;> rfl

/-- Settles O43. -/
theorem chuteFaults : Obligations.ChuteFaults := by
  unfold Obligations.ChuteFaults
  intro j s c h
  obtain ⟨htracker, hmgmt⟩ := faultChute_latch h
  refine ⟨⟨faultChute j c s, congrArg done (chuteFrame_eq h faultChute), fun hf => ⟨?_, ?_⟩, fun hf => ?_, htracker,
    fun hno => ?_, fun hstop hnone => ?_⟩,
    clearFault j c s, congrArg done (chuteFrame_eq h clearFault), fun hf => if_neg hf, fun hf hp => ?_, fun hf hp => ?_,
    fun hf hp => ⟨fun hno => ?_, fun hrep hpres hq hcap => ?_⟩⟩
  · rw [faultChute, if_neg hf, cancelQueue_faulted h, stopOnFault_eq]
  · rw [faultChute, if_neg hf, cancelQueue_faulted h, stopOnFault_eq]
    exact ⟨rfl, traysAfter_recirculated rfl⟩
  · rw [faultChute, if_pos hf, stopOnFault_eq]
  · rw [hmgmt, if_neg]
    rintro ⟨hstop, hnone⟩
    exact hno.elim (by simp [hstop]) (absurd hnone)
  · rw [hmgmt, if_pos ⟨hstop, hnone⟩]
    rfl
  · rw [clearFault_eq h hf, Chute.restore_inUse hp, swapTest_set h]
    rintro ⟨hs, -⟩
    dsimp only at hs
    split at hs <;> cases hs
  · have hr : c.restore = { c with prior := none, state := .closed } := by
      simp [Chute.restore, Chute.fullTest, Chute.inUse, hp]
    rw [clearFault_eq h hf, hr, swapTest_set h (by simp)]
  all_goals
    have hr : c.restore = { c with prior := none, state := .swap } := by
      simp [Chute.restore, Chute.fullTest, Chute.inUse, hp]
  · rw [clearFault_eq h hf, hr, swapTest_set h]
    rintro ⟨-, hnone, hpres⟩
    exact hno.elim (absurd hnone) (by simp [show c.present = true from hpres])
  · have hlen : j < s.carts.chutes.length := (List.getElem?_eq_some_iff.1 h).1
    rw [clearFault_eq h hf, hr]
    rw [swapTest_ready (c := { c with prior := none, state := .swap }) (by simp [hlen]) ⟨rfl, hrep, hpres⟩ hq hcap]
    simp [CartUnit.recarted]

end Sys2Proof.Machine
end

section
/-! # The trays by approach distance, a fresh arming, and speed samples (sections 1.4, 1.7 and 3.1) -/

namespace Sys2Proof.Machine

open Sys2Proof

/-! ## The trays by approach distance (R13, R33) -/

theorem insertNear_perm (x : Nat × Nat) : ∀ l : List (Nat × Nat), (insertNear x l).Perm (x :: l)
  | [] => .refl _
  | y :: rest => by
    unfold insertNear
    split
    · exact .refl _
    · exact ((insertNear_perm x rest).cons y).trans (.swap x y rest)

theorem insertNear_sorted (x : Nat × Nat) :
    ∀ {l : List (Nat × Nat)}, l.Pairwise (fun a b => a.1 ≤ b.1) → (insertNear x l).Pairwise (fun a b => a.1 ≤ b.1)
  | [], _ => List.pairwise_singleton _ _
  | y :: rest, h => by
    obtain ⟨hy, hrest⟩ := List.pairwise_cons.1 h
    unfold insertNear
    split
    · rename_i hlt
      refine List.pairwise_cons.2 ⟨fun z hz => ?_, h⟩
      rcases List.mem_cons.1 hz with rfl | hz
      · exact hlt.le
      · exact hlt.le.trans (hy z hz)
    · rename_i hge
      refine List.pairwise_cons.2 ⟨fun z hz => ?_, insertNear_sorted x hrest⟩
      rcases List.mem_cons.1 ((insertNear_perm x rest).mem_iff.1 hz) with rfl | hz
      · exact Nat.le_of_not_lt hge
      · exact hy z hz

/-- The insertion of trays one after another: a permutation, in increasing order of approach distance. -/
theorem foldl_insertNear (f : Nat → Nat × Nat) : ∀ (ks : List Nat) (acc : List (Nat × Nat)),
    acc.Pairwise (fun a b => a.1 ≤ b.1) →
      (ks.foldl (fun acc k => insertNear (f k) acc) acc).Perm (ks.map f ++ acc) ∧
        (ks.foldl (fun acc k => insertNear (f k) acc) acc).Pairwise (fun a b => a.1 ≤ b.1)
  | [], acc, h => ⟨.refl _, h⟩
  | k :: ks, acc, h => by
    obtain ⟨hp, hs⟩ := foldl_insertNear f ks (insertNear (f k) acc) (insertNear_sorted (f k) h)
    exact ⟨hp.trans (((insertNear_perm (f k) acc).append_left _).trans List.perm_middle), hs⟩

theorem byApproach_perm (g : Geometry) (d loc : Nat) :
    (g.byApproach d loc).Perm ((List.range g.trays).map (fun k => (g.approach d k loc, k))) := by
  have h := (foldl_insertNear (fun k => (g.approach d k loc, k)) (List.range g.trays) [] .nil).1
  rwa [List.append_nil] at h

theorem byApproach_sorted (g : Geometry) (d loc : Nat) : (g.byApproach d loc).Pairwise (fun a b => a.1 ≤ b.1) :=
  (foldl_insertNear (fun k => (g.approach d k loc, k)) (List.range g.trays) [] .nil).2

theorem mem_byApproach {g : Geometry} {d loc : Nat} {x : Nat × Nat} :
    x ∈ g.byApproach d loc ↔ x.2 < g.trays ∧ x.1 = g.approach d x.2 loc := by
  rw [(byApproach_perm g d loc).mem_iff, List.mem_map]
  constructor
  · rintro ⟨k, hk, rfl⟩
    exact ⟨List.mem_range.1 hk, rfl⟩
  · rintro ⟨hk, hx⟩
    exact ⟨x.2, List.mem_range.2 hk, by rw [← hx]⟩

/-! ## A fresh arming (R44) -/

theorem trayDisabled_iff (s : State) (k : Nat) : s.trayDisabled k = true ↔ s.OutOfService k := by
  unfold State.trayDisabled State.OutOfService
  cases s.trays[k]? <;> simp

theorem freshTray_some {s : State} {g : Geometry} {k : Nat} (h : s.freshTray g = some k) : s.FreshTray g k := by
  obtain ⟨x, hx, rfl⟩ := Option.map_eq_some_iff.1 h
  obtain ⟨rest, hl⟩ := List.head?_eq_some_iff.1 hx
  have hmem := hl ▸ List.mem_cons_self (a := x) (l := rest)
  simp only [List.mem_filter, mem_byApproach, Bool.and_eq_true, decide_eq_true_eq, Bool.not_eq_true'] at hmem
  obtain ⟨⟨hk, hx⟩, hlead, hdis⟩ := hmem
  rw [← Bool.not_eq_true, trayDisabled_iff] at hdis
  refine ⟨hk, hdis, hx ▸ hlead, fun n hn hout hfar => ?_⟩
  have hsorted := (byApproach_sorted g s.tracker.disp g.archLoc).filter
    (fun x => decide (leadOf s.tracker.speed g.archDelay ≤ x.1) && !s.trayDisabled x.2)
  rw [hl] at hsorted
  have hn' : (g.approach s.tracker.disp n g.archLoc, n) ∈ x :: rest := by
    rw [← hl, List.mem_filter, mem_byApproach]
    refine ⟨⟨hn, rfl⟩, ?_⟩
    rw [Bool.and_eq_true, Bool.not_eq_true', ← Bool.not_eq_true, trayDisabled_iff]
    exact ⟨decide_eq_true hfar, hout⟩
  rw [← hx]
  rcases List.mem_cons.1 hn' with heq | hin
  · exact (congrArg Prod.fst heq).ge
  · exact (List.pairwise_cons.1 hsorted).1 _ hin

theorem freshTray_none {s : State} {g : Geometry} (h : s.freshTray g = none) (k : Nat) : ¬ s.FreshTray g k := by
  rintro ⟨hk, hout, hlead, -⟩
  have hnil := List.head?_eq_none_iff.1 (Option.map_eq_none_iff.1 h)
  have hmem : (g.approach s.tracker.disp k g.archLoc, k) ∈ ([] : List (Nat × Nat)) := by
    rw [← hnil, List.mem_filter, mem_byApproach]
    refine ⟨⟨hk, rfl⟩, ?_⟩
    rw [Bool.and_eq_true, Bool.not_eq_true', ← Bool.not_eq_true, trayDisabled_iff]
    exact ⟨decide_eq_true hlead, hout⟩
  cases hmem

/-- No two trays are as far away, so only one tray is that of a fresh arming. -/
theorem FreshTray_unique {s : State} {g : Geometry} {k n : Nat} (hL : 0 < g.loop) (hk : s.FreshTray g k) (hn : s.FreshTray g n) :
    k = n := by
  obtain ⟨hk, hko, hkl, hkmin⟩ := hk
  obtain ⟨hn, hno, hnl, hnmin⟩ := hn
  exact approach_inj g hL hk hn (Nat.le_antisymm (hkmin n hn hno hnl) (hnmin k hk hko hkl))

theorem armScan_eq {s : State} {g : Geometry} (hg : s.tracker.geo = some g) (k : Nat) : armScan k s = s.scanArmed g k := by
  unfold armScan
  rw [hg]
  rfl

/-- A scan monitor that an evaluation leaves armed changes nothing. -/
theorem evalScan_of_stay {s : State} {adv : Nat} (h : s.scanDecision adv = .stay) : evalScan adv s = s := by
  unfold evalScan
  cases hm : s.arch.mon with
  | none => rfl
  | some m =>
    cases s.trays.length with
    | zero => rfl
    | succ n =>
      change runScan (n + 1) adv m.tray s = s
      unfold runScan
      rw [hm]
      simp only [h]

theorem scanArmed_stays {s : State} {g : Geometry} {k : Nat} (hg : s.tracker.geo = some g)
    (h : (s.scanArmed g k).ScanStays g k) : evalScan 0 (s.scanArmed g k) = s.scanArmed g k := by
  refine evalScan_of_stay ?_
  unfold State.scanDecision
  have hg' : (s.scanArmed g k).tracker.geo = some g := hg
  rw [hg']
  change decideMonitor (g.evalApproach _ 0 k g.archLoc) _ _ = .stay
  rw [evalApproach_zero, decideMonitor_stay]
  exact h

theorem freshArm_freshlyArmed (s : State) : FreshlyArmed s (freshArm s) := by
  refine ⟨fun h => ?_, fun g hg hL ht hd hm => ?_⟩
  · refine if_neg fun hall => ?_
    simp only [Bool.and_eq_true, Option.isNone_iff_eq_none] at hall
    obtain ⟨⟨ht, hd⟩, hm⟩ := hall
    rcases h with h | h | h
    · rw [ht] at h; cases h
    · rw [hd] at h; cases h
    · exact h hm
  · cases hf : s.freshTray g with
    | none =>
      have hnone : freshArm s = s := by simp [freshArm, hg, hf]
      exact ⟨fun _ => hnone, fun k hk => absurd hk (freshTray_none hf k)⟩
    | some n =>
      have hsome : freshArm s = evalScan 0 (s.scanArmed g n) := by
        rw [← armScan_eq hg]
        simp [freshArm, ht, hd, hm, hg, hf]
      refine ⟨fun hno => absurd (freshTray_some hf) (hno n), fun k hk => ?_⟩
      obtain rfl := FreshTray_unique hL (freshTray_some hf) hk
      exact ⟨hsome, fun hs => hsome.trans (scanArmed_stays hg hs)⟩

/-! ## What an evaluation of a launch monitor leaves unchanged -/

@[simp] theorem settleTray_arch (k : Nat) (x : Tray) (s : State) : (settleTray k x s).arch = s.arch := by
  unfold settleTray
  split <;> rfl

@[simp] theorem changeTray_arch (k : Nat) (e : TrayState) (f : Tray → Tray) (s : State) : (changeTray k e f s).arch = s.arch := by
  unfold changeTray
  split
  · split
    · exact settleTray_arch _ _ _
    · rfl
  · rfl

theorem releaseLine_arch (i : Nat) (s : State) : (releaseLine i s).arch = s.arch := by
  unfold releaseLine
  split
  · unfold holdAgain
    split <;> simp [refuseLine]
  · rfl

theorem evalLaunch_arch (adv i : Nat) (s : State) : (evalLaunch adv i s).arch = s.arch := by
  unfold evalLaunch
  split
  · rfl
  · unfold launchFire
    split
    · split
      · simp [sendLaunch]
      · exact releaseLine_arch i s
    · rfl
  · exact releaseLine_arch i s

/-! ## Speed samples (R11) -/

theorem speedOf_eq (net : Int) : speedOf net = if net < 0 then 0 else if 4095 < net then 4095 else net.toNat := by
  unfold speedOf
  split_ifs <;> omega

theorem resampleLaunch_eq_launchResampled (i : Nat) (s : State) : resampleLaunch i s = evalLaunch 0 i (s.launchResampled i) := by
  have h : Line.resampled s.tracker.speed = fun l =>
      match l.cfg, l.mon with
      | some c, some m =>
        { l with
          mon := some { tray := m.tray, lead := leadAt s.tracker.speed c.delay }
          clamped := clampedAt s.tracker.speed c.delay l.clamped }
      | _, _ => l := by
    funext l
    unfold Line.resampled Line.arm
    cases l.mon <;> cases l.cfg <;> rfl
  rw [resampleLaunch_eq, h]
  rfl

/-- The launch monitors of a speed sample. -/
def resampleLaunches (s : State) : State := s.armedLines.foldl (fun s i => resampleLaunch i s) s

theorem resampleLaunches_arch (is : List Nat) (s : State) : (is.foldl (fun s i => resampleLaunch i s) s).arch = s.arch := by
  induction is generalizing s with
  | nil => rfl
  | cons i is ih =>
    rw [List.foldl_cons, ih, resampleLaunch_eq_launchResampled, evalLaunch_arch]
    rfl

theorem resampleLaunches_geo (is : List Nat) (s : State) :
    (is.foldl (fun s i => resampleLaunch i s) s).tracker.geo = s.tracker.geo := by
  have h : Kept s (is.foldl (fun s i => resampleLaunch i s) s) := .foldl (fun s i => resampleLaunch_frame i s) is s
  exact (congrArg Tracker.geo h.tracker :)

theorem resampleScan_disarmed {s : State} (hm : s.arch.mon = none) : resampleScan s = freshArm s := by
  rw [resampleScan, hm]

theorem resampleScan_armed {s : State} {g : Geometry} {m : Monitor} (hg : s.tracker.geo = some g)
    (hm : s.arch.mon = some m) : resampleScan s = evalScan 0 (s.scanArmed g m.tray) := by
  rw [resampleScan, hm]
  exact congrArg (evalScan 0) (armScan_eq hg m.tray)

theorem resampleAll_monitorsResampled (s : State) : MonitorsResampled s (resampleAll s) := by
  have harch : (resampleLaunches s).arch = s.arch := resampleLaunches_arch _ _
  refine ⟨resampleLaunches s, resampleScan (resampleLaunches s), ?_, fun hm => ?_, fun g m hg hm => ?_, rfl⟩
  · unfold resampleLaunches
    simp only [resampleLaunch_eq_launchResampled]
    rfl
  · rw [resampleScan_disarmed (by rw [harch, hm])]
    exact freshArm_freshlyArmed _
  · exact resampleScan_armed ((resampleLaunches_geo _ _).trans hg) (by rw [harch, hm])

theorem armedLines_nil {s : State} (h : ∀ l ∈ s.lines, l.mon = none) : s.armedLines = [] := by
  refine List.filter_eq_nil_iff.2 fun i _ => ?_
  cases hl : s.lines[i]? with
  | none => simp
  | some l => simp [h l (List.mem_of_getElem? hl)]

theorem armedChutes_nil {s : State} (h : ∀ c ∈ s.carts.chutes, c.mon = none) : s.armedChutes = [] := by
  refine List.filter_eq_nil_iff.2 fun j _ => ?_
  cases hc : s.carts.chutes[j]? with
  | none => simp
  | some c => simp [h c (List.mem_of_getElem? hc)]

/-- With no launch monitor and no chute monitor armed, a sample concerns the scan monitor alone. -/
theorem resampleAll_scan {s : State} (hl : ∀ l ∈ s.lines, l.mon = none) (hc : ∀ c ∈ s.carts.chutes, c.mon = none) :
    resampleAll s = resampleScan s := by
  rw [resampleAll, armedLines_nil hl, armedChutes_nil hc]
  rfl

theorem resampleAll_freshlyArmed {s : State} (h : s.NoneArmed) : FreshlyArmed s (resampleAll s) := by
  obtain ⟨ha, hl, hc⟩ := h
  rw [resampleAll_scan hl hc, resampleScan_disarmed ha]
  exact freshArm_freshlyArmed s

/-- Settles O9. -/
theorem speedSample_holds : Obligations.SpeedSample := by
  unfold Obligations.SpeedSample
  intro s
  have htrack : s.isTracking = true → speedSample s = resampleAll (withTracker (s.tracker.sample s.now) s) :=
    fun h => if_pos h
  refine ⟨speedSample s, withTracker (s.tracker.sample s.now) s, rfl, ?_, ?_, fun h => ?_, fun h => ?_, fun h hn => ?_,
    fun g m h hg hm hl hc => ?_⟩
  · rw [Tracker.sample, speedOf_eq]
    rfl
  · exact .ite (resampleAll_frame _) (.refl _)
  · exact if_neg (by simp [h])
  · rw [htrack h]
    exact resampleAll_monitorsResampled _
  · rw [htrack h]
    exact resampleAll_freshlyArmed hn
  · have hsample : speedSample s = evalScan 0 ((withTracker (s.tracker.sample s.now) s).scanArmed g m.tray) :=
      (htrack h).trans
        ((resampleAll_scan (s := withTracker (s.tracker.sample s.now) s) hl hc).trans (resampleScan_armed hg hm))
    exact ⟨hsample, fun hs => hsample.trans (scanArmed_stays hg hs)⟩

end Sys2Proof.Machine
end

section
/-! # Passings, steps and home corrections (sections 1.2, 1.4, 1.5 and 2.3) -/

namespace Sys2Proof.Machine

open Sys2Proof

/-! ## The trays that pass a location (R13) -/

/-- A movement of adv steps forward from displacement d to D mod Lu; one of no steps may begin anywhere. -/
def Geometry.MovedTo (g : Geometry) (d adv D : Nat) : Prop := adv ≠ 0 → D % g.loop = (d + adv) % g.loop

/-- The displacement before a movement, found back from the one after it. -/
theorem displacement_before {g : Geometry} {d adv D : Nat} (hL : 0 < g.loop) (h : D % g.loop = (d + adv) % g.loop) :
    (D + g.loop - adv % g.loop) % g.loop = d % g.loop := by
  have hlt := Nat.mod_lt adv hL
  have hback : D + g.loop - adv % g.loop + adv ≡ D [MOD g.loop] := by
    calc D + g.loop - adv % g.loop + adv
        ≡ D + g.loop - adv % g.loop + adv % g.loop [MOD g.loop] := (Nat.mod_modEq _ _).symm.add_left _
      _ = D + g.loop := by omega
      _ ≡ D [MOD g.loop] := by simp [Nat.ModEq]
  exact Nat.ModEq.add_right_cancel' adv (hback.trans h)

theorem mem_passings {g : Geometry} {d adv D loc k : Nat} (hL : 0 < g.loop) (hd : g.MovedTo d adv D) :
    k ∈ g.passings D adv loc ↔ g.Passes d adv loc k := by
  unfold Geometry.passings Geometry.Passes
  simp only [List.mem_reverse, List.mem_map, List.mem_filter, mem_byApproach, Bool.and_eq_true, decide_eq_true_eq]
  by_cases h0 : adv = 0
  · constructor
    · rintro ⟨x, ⟨-, h1, h2⟩, -⟩
      omega
    · rintro ⟨-, h1, h2⟩
      omega
  · have happ : ∀ k, g.approach ((D + g.loop - adv % g.loop) % g.loop) k loc = g.approach d k loc := fun k =>
      approach_congr g k loc hL ((Nat.mod_mod _ _).trans (displacement_before hL (hd h0)))
    constructor
    · rintro ⟨x, ⟨⟨hk, hx⟩, h1, h2⟩, rfl⟩
      rw [hx, happ] at h1 h2
      exact ⟨hk, h1, h2⟩
    · rintro ⟨hk, h1, h2⟩
      exact ⟨(g.approach d k loc, k), ⟨⟨hk, (happ k).symm⟩, h1, h2⟩, rfl⟩

/-- No two trays are as far away, so the trays by approach distance stand in strictly increasing order. -/
theorem byApproach_strict {g : Geometry} (hL : 0 < g.loop) (d loc : Nat) :
    ((g.byApproach d loc).map Prod.snd).Pairwise (fun x y => g.approach d x loc < g.approach d y loc) := by
  have hnodup : (g.byApproach d loc).Pairwise (fun a b => a.2 ≠ b.2) := by
    rw [← List.pairwise_map (f := Prod.snd) (R := (· ≠ ·))]
    refine ((byApproach_perm g d loc).map Prod.snd).nodup_iff.2 ?_
    simpa [List.map_map, Function.comp_def] using List.nodup_range
  refine List.pairwise_map.2 (((byApproach_sorted g d loc).and hnodup).imp_of_mem ?_)
  rintro a b ha hb ⟨hle, hne⟩
  obtain ⟨hak, hax⟩ := mem_byApproach.1 ha
  obtain ⟨hbk, hbx⟩ := mem_byApproach.1 hb
  rw [hax, hbx] at hle
  exact lt_of_le_of_ne hle fun heq => hne (approach_inj g hL hak hbk heq)

theorem passings_sorted {g : Geometry} {d adv D : Nat} (hL : 0 < g.loop) (hd : g.MovedTo d adv D) (loc : Nat) :
    (g.passings D adv loc).Pairwise (fun x y => g.approach d y loc < g.approach d x loc) := by
  by_cases h0 : adv = 0
  · have hnil : g.passings D adv loc = [] := by
      refine List.eq_nil_iff_forall_not_mem.2 fun k hk => ?_
      obtain ⟨-, h1, h2⟩ := (mem_passings hL hd).1 hk
      omega
    rw [hnil]
    exact .nil
  · have happ : ∀ k, g.approach ((D + g.loop - adv % g.loop) % g.loop) k loc = g.approach d k loc := fun k =>
      approach_congr g k loc hL ((Nat.mod_mod _ _).trans (displacement_before hL (hd h0)))
    unfold Geometry.passings
    rw [List.pairwise_reverse]
    refine ((byApproach_strict hL ((D + g.loop - adv % g.loop) % g.loop) loc).sublist (List.filter_sublist.map _)).imp
      fun {x y} h => ?_
    rwa [happ, happ] at h

/-- The trays that pass, in the order of R13, are those that the model announces. -/
theorem eq_passings {g : Geometry} {d adv D loc : Nat} {ks : List Nat} (hL : 0 < g.loop) (hd : g.MovedTo d adv D)
    (hmem : ∀ k, k ∈ ks ↔ g.Passes d adv loc k)
    (hsorted : ks.Pairwise (fun x y => g.approach d y loc < g.approach d x loc)) : ks = g.passings D adv loc := by
  have hnodup : ∀ {l : List Nat}, l.Pairwise (fun x y => g.approach d y loc < g.approach d x loc) → l.Nodup :=
    fun h => h.imp fun {x y} hlt heq => by subst heq; exact lt_irrefl _ hlt
  have hpass := passings_sorted hL hd loc
  have hperm : ks.Perm (g.passings D adv loc) :=
    (List.perm_ext_iff_of_nodup (hnodup hsorted) (hnodup hpass)).2 fun k => (hmem k).trans (mem_passings hL hd).symm
  exact hperm.eq_of_pairwise (fun _ _ _ _ h h' => absurd h' h.asymm) hsorted hpass

/-! ## A line and the trays that pass it (R32, R39) -/

/-- A line whose yield bar the trays ks leave. -/
def Line.left (ks : List Nat) (l : Line) : Line := { l with bar := l.bar.filter (fun k => !ks.contains k) }

theorem Line.left_nil (l : Line) : l.left [] = l := by
  simp [Line.left]

theorem Line.left_left (k : Nat) (ks : List Nat) (l : Line) : (l.left [k]).left ks = l.left (k :: ks) := by
  simp only [Line.left, List.filter_filter]
  congr 1
  refine List.filter_congr fun x _ => ?_
  simp [Bool.and_comm]

/-- The line that the movement passes, where the passings are those announced. -/
theorem Line.passed_eq {g : Geometry} {d adv D : Nat} (hL : 0 < g.loop) (hd : g.MovedTo d adv D) {l : Line} {c : LineCfg}
    (hc : l.cfg = some c) : l.passed g d adv = l.left (g.passings D adv c.loc) := by
  have hmem : ∀ k, (g.passings D adv c.loc).contains k =
      (decide (k < g.trays) && decide (1 ≤ g.approach d k c.loc) && decide (g.approach d k c.loc ≤ adv)) := fun k => by
    rw [Bool.eq_iff_iff, List.contains_iff_mem, mem_passings hL hd, Geometry.Passes]
    simp [and_assoc]
  unfold Line.passed Line.left
  simp only [hc, hmem]

theorem Line.passed_unconfigured {g : Geometry} {d adv : Nat} {l : Line} (hc : l.cfg = none) : l.passed g d adv = l := by
  simp [Line.passed, hc]

/-! ## Attempts at passings (R32 to R34) -/

/-- Line i replaced. -/
def State.putLine (s : State) (i : Nat) (l : Line) : State := { s with lines := s.lines.set i l }

theorem putLine_self {s : State} {i : Nat} {l : Line} (h : s.lines[i]? = some l) : s.putLine i l = s := by
  obtain ⟨hi, rfl⟩ := List.getElem?_eq_some_iff.1 h
  simp [State.putLine]

theorem putLine_putLine (s : State) (i : Nat) (l m : Line) : (s.putLine i l).putLine i m = s.putLine i m := by
  simp [State.putLine, List.set_set]

theorem putLine_get {s : State} {i : Nat} {l m : Line} (h : s.lines[i]? = some l) : (s.putLine i m).lines[i]? = some m := by
  have hi : i < s.lines.length := (List.getElem?_eq_some_iff.1 h).1
  simp [State.putLine, hi]

theorem passLine_eq {s : State} {i : Nat} {l : Line} (h : s.lines[i]? = some l) (k : Nat) :
    passLine i k s = attempt i (s.putLine i (l.left [k])) := by
  have hf : (fun x => x != k) = fun x => !([k].contains x) := by
    funext x
    simp [bne, beq_eq_decide]
  unfold passLine modifyLine
  rw [set_eq_modify_of_get h, hf]
  rfl

/-- A line that is not configured, or not HELD, makes no attempt. -/
def Line.Idle (l : Line) : Prop := l.cfg = none ∨ ∀ a b, l.state ≠ .held a b

theorem attempt_of_idle {s : State} {i : Nat} {l : Line} (h : s.lines[i]? = some l) (hl : l.Idle) : attempt i s = s := by
  unfold attempt
  split
  · split
    · rename_i g l' _ hl'
      obtain rfl : l = l' := Option.some.inj (h.symm.trans hl')
      split
      · rename_i c a b hc hs
        rcases hl with hl | hl
        · rw [hl] at hc
          cases hc
        · exact absurd hs (hl a b)
      · rfl
    · rfl
  · rfl

/-- Passings of an idle line clear its yield bar. -/
theorem passLines_idle : ∀ (ks : List Nat) {s : State} {i : Nat} {l : Line}, s.lines[i]? = some l → l.Idle →
    ks.foldl (fun s k => passLine i k s) s = s.putLine i (l.left ks)
  | [], s, i, l, h, _ => by rw [Line.left_nil, putLine_self h]; rfl
  | k :: ks, s, i, l, h, hl => by
    have hget := putLine_get (m := l.left [k]) h
    have hidle : (l.left [k]).Idle := hl
    rw [List.foldl_cons, passLine_eq h, attempt_of_idle hget hidle, passLines_idle ks hget hidle, putLine_putLine,
      Line.left_left]

/-- Without allocation, passings clear the yield bar of any line. -/
theorem passLines_barred : ∀ (ks : List Nat) {s : State} {i : Nat} {l : Line}, s.lines[i]? = some l → s.mayAllocate = false →
    ks.foldl (fun s k => passLine i k s) s = s.putLine i (l.left ks)
  | [], s, i, l, h, _ => by rw [Line.left_nil, putLine_self h]; rfl
  | k :: ks, s, i, l, h, hm => by
    have hget := putLine_get (m := l.left [k]) h
    have hm' : (s.putLine i (l.left [k])).mayAllocate = false := hm
    have hstep : attempt i (s.putLine i (l.left [k])) = s.putLine i (l.left [k]) := if_neg (by simp [hm'])
    rw [List.foldl_cons, passLine_eq h, hstep, passLines_barred ks hget hm', putLine_putLine, Line.left_left]

/-- The tray that a search chooses is EMPTY and farther away than the lead. -/
theorem searchTray_some {s : State} {g : Geometry} {l : Line} {c : LineCfg} {k : Nat} (h : s.searchTray g l c = some k) :
    s.trayEmpty k = true ∧ leadOf s.tracker.speed c.delay + g.pitch ≤ g.approach s.tracker.disp k c.loc := by
  have hp := List.find?_some h
  obtain ⟨x, hx, rfl⟩ := List.mem_map.1 (List.mem_of_find?_eq_some h)
  obtain ⟨hmem, hfar⟩ := List.mem_filter.1 (List.mem_of_mem_take hx)
  obtain ⟨-, hx1⟩ := mem_byApproach.1 hmem
  rw [Bool.and_eq_true] at hp
  rw [decide_eq_true_eq, hx1] at hfar
  exact ⟨hp.1, hfar⟩

/-- A reservation by a search arms the launch monitor, and its evaluation leaves it armed (R33, R34). -/
theorem reserveTray_eq {s : State} {g : Geometry} {i k a b : Nat} {l : Line} {c : LineCfg} (hL : 0 < g.loop)
    (hg : s.tracker.geo = some g) (hl : s.lines[i]? = some l) (hc : l.cfg = some c) (hk : s.searchTray g l c = some k) :
    reserveTray i k a b s = s.reserved i k a b l c := by
  obtain ⟨hempty, hfar⟩ := searchTray_some hk
  have hpitch : 0 < g.pitch := Nat.pos_of_mul_pos_left hL
  have hplaced : modifyLine i (fun l => { l with state := .reserved k a b }.arm k s.tracker.speed)
      (changeTray k .empty (fun _ => { Tray.blank .reserved with source := some i }) s) = s.reserved i k a b l c := by
    obtain ⟨x, hx, hxe⟩ := (Option.any_eq_true _ _).1 hempty
    have hxe' : x.state = .empty := by simpa using hxe
    have hch : changeTray k .empty (fun _ => { Tray.blank .reserved with source := some i }) s =
        { s with trays := s.trays.set k { Tray.blank .reserved with source := some i } } := by
      rw [changeTray_eq (fun _ => by simp [Tray.blank]), set_eq_modify_of_get hx, Tray.changed, if_pos hxe']
    have harm : { l with state := .reserved k a b : Line }.arm k s.tracker.speed =
        { l with
          state := .reserved k a b
          mon := some { tray := k, lead := leadAt s.tracker.speed c.delay }
          clamped := clampedAt s.tracker.speed c.delay l.clamped } := by
      obtain ⟨cfg, state, bar, mon, clamped⟩ := l
      obtain rfl : cfg = some c := hc
      rfl
    rw [hch, modifyLine, set_eq_modify_of_get hl, harm]
    rfl
  unfold reserveTray
  rw [hplaced]
  have hget : (s.reserved i k a b l c).lines[i]? = some
      { l with
        state := .reserved k a b
        mon := some { tray := k, lead := leadAt s.tracker.speed c.delay }
        clamped := clampedAt s.tracker.speed c.delay l.clamped } := by
    have hi : i < s.lines.length := (List.getElem?_eq_some_iff.1 hl).1
    simp [State.reserved, hi]
  have hg' : (s.reserved i k a b l c).tracker.geo = some g := hg
  have hstay : (s.reserved i k a b l c).launchDecision 0 i = .stay := by
    rw [launchDecision_armed 0 hg' hget hc rfl, evalApproach_zero, decideMonitor_stay]
    exact lt_of_lt_of_le (Nat.lt_add_of_pos_right hpitch) hfar
  unfold evalLaunch
  rw [hstay]

section
variable {s : State} {g : Geometry} {i a b : Nat} {l : Line} {c : LineCfg}

theorem attempt_none (hg : s.tracker.geo = some g) (hl : s.lines[i]? = some l) (hc : l.cfg = some c)
    (hs : l.state = .held a b) (hk : s.searchTray g l c = none) : attempt i s = s := by
  simp [attempt, hg, hl, hc, hs, hk]

theorem attempt_some {k : Nat} (hm : s.mayAllocate = true) (hg : s.tracker.geo = some g) (hl : s.lines[i]? = some l)
    (hc : l.cfg = some c) (hs : l.state = .held a b) (hk : s.searchTray g l c = some k) :
    attempt i s = reserveTray i k a b s := by
  simp [attempt, hm, hg, hl, hc, hs, hk]

end

/-- The passings of a HELD line at none of which the search finds a tray. -/
theorem passLines_none {g : Geometry} {i a b : Nat} {c : LineCfg} : ∀ (ks : List Nat) {s : State} {l : Line},
    s.tracker.geo = some g → s.lines[i]? = some l → l.cfg = some c → l.state = .held a b →
    (∀ n, n < ks.length → s.searchTray g (l.left (ks.take (n + 1))) c = none) →
    ks.foldl (fun s k => passLine i k s) s = s.putLine i (l.left ks)
  | [], s, l, _, h, _, _, _ => by rw [Line.left_nil, putLine_self h]; rfl
  | k :: ks, s, l, hg, h, hc, hs, hno => by
    have hget := putLine_get (m := l.left [k]) h
    have hstep : attempt i (s.putLine i (l.left [k])) = s.putLine i (l.left [k]) :=
      attempt_none (s := s.putLine i (l.left [k])) hg hget hc hs (hno 0 (by simp))
    rw [List.foldl_cons, passLine_eq h, hstep]
    refine (passLines_none ks (s := s.putLine i (l.left [k])) hg hget hc hs fun n hn => ?_).trans ?_
    · rw [Line.left_left]
      exact hno (n + 1) (Nat.succ_lt_succ hn)
    · rw [putLine_putLine, Line.left_left]

/-- A line with its reservation keeps it while further trays pass. -/
theorem reserved_left {s : State} {i k a b : Nat} {l : Line} {c : LineCfg} (h : s.lines[i]? = some l) (ks : List Nat) :
    ks.foldl (fun s k => passLine i k s) (s.reserved i k a b l c) =
      (s.putLine i (l.left ks)).reserved i k a b (l.left ks) c := by
  have hi : i < s.lines.length := (List.getElem?_eq_some_iff.1 h).1
  have hget : (s.reserved i k a b l c).lines[i]? = some
      { l with
        state := .reserved k a b
        mon := some { tray := k, lead := leadAt s.tracker.speed c.delay }
        clamped := clampedAt s.tracker.speed c.delay l.clamped } := by
    simp [State.reserved, hi]
  rw [passLines_idle ks hget (.inr nofun)]
  simp [State.reserved, State.putLine, Line.left, List.set_set]

/-- The passings of a HELD line, the first of which to find a tray reserves it. -/
theorem passLines_some {g : Geometry} {i a b k : Nat} {c : LineCfg} (hL : 0 < g.loop) :
    ∀ (n : Nat) (ks : List Nat) {s : State} {l : Line}, s.mayAllocate = true → s.tracker.geo = some g →
      s.lines[i]? = some l → l.cfg = some c → l.state = .held a b → n < ks.length →
      (∀ h, h < n → s.searchTray g (l.left (ks.take (h + 1))) c = none) →
      s.searchTray g (l.left (ks.take (n + 1))) c = some k →
      ks.foldl (fun s k => passLine i k s) s = (s.putLine i (l.left ks)).reserved i k a b (l.left ks) c
  | _, [], s, l, _, _, _, _, _, hn, _, _ => absurd hn (Nat.not_lt_zero _)
  | 0, x :: ks, s, l, hm, hg, h, hc, hs, _, _, hk => by
    have hget := putLine_get (m := l.left [x]) h
    have hk' : (s.putLine i (l.left [x])).searchTray g (l.left [x]) c = some k := hk
    rw [List.foldl_cons, passLine_eq h, attempt_some (s := s.putLine i (l.left [x])) hm hg hget hc hs hk',
      reserveTray_eq (s := s.putLine i (l.left [x])) hL hg hget hc hk', reserved_left hget, putLine_putLine, Line.left_left]
  | n + 1, x :: ks, s, l, hm, hg, h, hc, hs, hn, hno, hk => by
    have hget := putLine_get (m := l.left [x]) h
    have hstep : attempt i (s.putLine i (l.left [x])) = s.putLine i (l.left [x]) :=
      attempt_none (s := s.putLine i (l.left [x])) hg hget hc hs (hno 0 (Nat.succ_pos n))
    rw [List.foldl_cons, passLine_eq h, hstep]
    refine (passLines_some hL n ks (s := s.putLine i (l.left [x])) (k := k) hm hg hget hc hs (Nat.lt_of_succ_lt_succ hn)
      (fun m hlt => ?_) ?_).trans ?_
    · rw [Line.left_left]
      exact hno (m + 1) (Nat.succ_lt_succ hlt)
    · rw [Line.left_left]
      exact hk
    · rw [putLine_putLine, Line.left_left]

/-! ## The passings of one line and of every line (R13; the order, log 6) -/

theorem announceLine_unconfigured {s : State} {adv i : Nat} (h : (s.lines[i]?).bind Line.cfg = none) : announceLine adv i s = s := by
  unfold announceLine
  rw [h]
  split
  · rename_i hc
    cases hc
  · rfl

theorem announceLine_eq {s : State} {g : Geometry} {adv i : Nat} {l : Line} {c : LineCfg} (hg : s.tracker.geo = some g)
    (hl : s.lines[i]? = some l) (hc : l.cfg = some c) :
    announceLine adv i s = (g.passings s.tracker.disp adv c.loc).foldl (fun s k => passLine i k s) s := by
  simp [announceLine, hg, hl, hc]

section
variable {s : State} {g : Geometry} {d adv i : Nat} {l : Line}

/-- An idle line, or one that nothing passes, makes no attempt. -/
theorem announceLine_quiet (hL : 0 < g.loop) (hd : g.MovedTo d adv s.tracker.disp) (hg : s.tracker.geo = some g)
    (hl : s.lines[i]? = some l) (hq : l.Idle ∨ ∀ c ∈ l.cfg, ∀ k, ¬ g.Passes d adv c.loc k) :
    announceLine adv i s = s.putLine i (l.passed g d adv) := by
  cases hc : l.cfg with
  | none => rw [announceLine_unconfigured (by simp [hl, hc]), Line.passed_unconfigured hc, putLine_self hl]
  | some c =>
    rw [announceLine_eq hg hl hc, Line.passed_eq hL hd hc]
    rcases hq with hq | hq
    · exact passLines_idle _ hl hq
    · have hnil : g.passings s.tracker.disp adv c.loc = [] :=
        List.eq_nil_iff_forall_not_mem.2 fun k hk => hq c hc k ((mem_passings hL hd).1 hk)
      rw [hnil, Line.left_nil, putLine_self hl]
      rfl

theorem announceLine_linePassings (hL : 0 < g.loop) (hd : g.MovedTo d adv s.tracker.disp) (hg : s.tracker.geo = some g) :
    LinePassings g d adv i s (announceLine adv i s) := by
  intro l hl
  refine ⟨fun hidle => announceLine_quiet hL hd hg hl (.inl hidle), fun a b c ks hc hs hmem hsorted => ?_⟩
  obtain rfl := eq_passings hL hd hmem hsorted
  rw [announceLine_eq hg hl hc, Line.passed_eq hL hd hc]
  refine ⟨fun hm => passLines_barred _ hl hm, fun hm => ⟨fun hno => passLines_none _ hg hl hc hs hno, fun n k hn hno hk => ?_⟩⟩
  exact passLines_some hL n _ hm hg hl hc hs hn hno hk

end

/-- A list whose elements before place n are changed by f, the others by h. -/
def changedUpTo {α β : Type} (f h : α → β) (n : Nat) (l : List α) : List β := l.mapIdx (fun i a => if i < n then f a else h a)

theorem changedUpTo_zero {α β : Type} (f h : α → β) (l : List α) : changedUpTo f h 0 l = l.map h :=
  List.ext_getElem? fun i => by simp [changedUpTo]

theorem changedUpTo_length {α β : Type} (f h : α → β) (l : List α) : changedUpTo f h l.length l = l.map f := by
  refine List.ext_getElem? fun i => ?_
  rw [changedUpTo, List.getElem?_mapIdx, List.getElem?_map]
  cases hi : l[i]? with
  | none => rfl
  | some a => simp [(List.getElem?_eq_some_iff.1 hi).1]

theorem changedUpTo_get {α β : Type} (f h : α → β) {n : Nat} {l : List α} {a : α} (ha : l[n]? = some a) :
    (changedUpTo f h n l)[n]? = some (h a) := by
  simp [changedUpTo, ha]

theorem changedUpTo_succ {α β : Type} (f h : α → β) {n : Nat} {l : List α} {a : α} (ha : l[n]? = some a) :
    (changedUpTo f h n l).set n (f a) = changedUpTo f h (n + 1) l := by
  refine List.ext_getElem? fun i => ?_
  have hn : n < l.length := (List.getElem?_eq_some_iff.1 ha).1
  rw [List.getElem?_set, changedUpTo, changedUpTo, List.getElem?_mapIdx, List.getElem?_mapIdx, List.length_mapIdx, if_pos hn]
  by_cases hi : n = i
  · subst hi
    simp [ha]
  · have hlt : i < n + 1 ↔ i < n := by omega
    simp only [hlt, if_neg hi]

/-- The passings of the lines before line n. -/
def announced (adv n : Nat) (s : State) : State := (List.range n).foldl (fun s i => announceLine adv i s) s

theorem announced_succ (adv n : Nat) (s : State) : announced adv (n + 1) s = announceLine adv n (announced adv n s) := by
  simp [announced, List.range_succ]

theorem announced_frame (adv n : Nat) (s : State) : Kept s (announced adv n s) :=
  .foldl (fun s i => announceLine_frame adv i s) _ s

theorem Kept.geo {s t : State} (h : Kept s t) : t.tracker.geo = s.tracker.geo := (congrArg Tracker.geo h.tracker :)

theorem Kept.disp {s t : State} (h : Kept s t) : t.tracker.disp = s.tracker.disp := (congrArg Tracker.disp h.tracker :)

/-- What the passings of R13 ask of a line: its configuration and its yield bar. -/
def Line.shape (l : Line) : Option LineCfg × List Nat := (l.cfg, l.bar)

def State.shapes (s : State) : List (Option LineCfg × List Nat) := s.lines.map Line.shape

theorem Rearmed.shapes {s t : State} (h : Rearmed True s t) : t.shapes = s.shapes := by
  unfold State.shapes
  refine List.ext_getElem? fun i => ?_
  have hlen := h.lines.length_eq
  rw [List.getElem?_map, List.getElem?_map]
  cases ht : t.lines[i]? with
  | none => rw [List.getElem?_eq_none (hlen.trans_le (List.getElem?_eq_none_iff.1 ht))]
  | some l' =>
    obtain ⟨l, hl, hcfg, hbar, -⟩ := forall₂_getElem? h.lines ht
    rw [hl, Option.map_some, Option.map_some, Line.shape, Line.shape, hcfg, hbar trivial]

theorem shapes_bars (s : State) : s.shapes.map Prod.snd = s.lines.map Line.bar := List.map_map

theorem putLine_shapes (s : State) (i : Nat) (l : Line) : (s.putLine i l).shapes = s.shapes.set i l.shape := by
  simp [State.shapes, State.putLine, List.map_set]

theorem shapes_get {s : State} {i : Nat} {x : Option LineCfg × List Nat} (h : s.shapes[i]? = some x) :
    ∃ l, s.lines[i]? = some l ∧ l.shape = x := by
  rw [State.shapes, List.getElem?_map] at h
  exact Option.map_eq_some_iff.1 h

/-- Passings change the shape of no line but the one passed, and of that one the yield bar, whatever attempts are made. -/
theorem passLines_shapes : ∀ (ks : List Nat) {s : State} {i : Nat} {l : Line}, s.lines[i]? = some l →
    (ks.foldl (fun s k => passLine i k s) s).shapes = s.shapes.set i (l.left ks).shape
  | [], s, i, l, h => by rw [Line.left_nil, ← putLine_shapes, putLine_self h]; rfl
  | k :: ks, s, i, l, h => by
    have hstep : (passLine i k s).shapes = s.shapes.set i (l.left [k]).shape := by
      rw [passLine_eq h, (attempt_rearmed (b := True) i _).shapes, putLine_shapes]
    have hi : i < s.shapes.length := by simpa [State.shapes] using (List.getElem?_eq_some_iff.1 h).1
    obtain ⟨m, hm, hshape⟩ := shapes_get (s := passLine i k s) (i := i) (x := (l.left [k]).shape) (by simp [hstep, hi])
    obtain ⟨hcfg, hbar⟩ := Prod.mk.inj hshape
    have hleft : (m.left ks).shape = (l.left (k :: ks)).shape := by
      rw [← Line.left_left]
      simp only [Line.shape, Line.left, hcfg, hbar]
    rw [List.foldl_cons, passLines_shapes ks hm, hstep, List.set_set, hleft]

section
variable {g : Geometry} {d adv : Nat} {s : State}

theorem announceLine_shapes {i : Nat} {l : Line} (hL : 0 < g.loop) (hd : g.MovedTo d adv s.tracker.disp)
    (hg : s.tracker.geo = some g) (hl : s.lines[i]? = some l) :
    (announceLine adv i s).shapes = s.shapes.set i (l.passed g d adv).shape := by
  cases hc : l.cfg with
  | none => rw [announceLine_quiet hL hd hg hl (.inl (.inl hc)), putLine_shapes]
  | some c => rw [announceLine_eq hg hl hc, passLines_shapes _ hl, Line.passed_eq hL hd hc]

theorem Line.passed_shape {l m : Line} (h : l.shape = m.shape) : (l.passed g d adv).shape = (m.passed g d adv).shape := by
  obtain ⟨hcfg, hbar⟩ := Prod.mk.inj h
  unfold Line.passed
  rw [hcfg]
  cases m.cfg <;> simp only [Line.shape, hcfg, hbar]

theorem announced_shapes (hL : 0 < g.loop) (hd : g.MovedTo d adv s.tracker.disp) (hg : s.tracker.geo = some g) :
    ∀ n, n ≤ s.lines.length →
      (announced adv n s).shapes = changedUpTo (fun l => (l.passed g d adv).shape) Line.shape n s.lines
  | 0, _ => (changedUpTo_zero _ _ _).symm
  | n + 1, hn => by
    have ih := announced_shapes hL hd hg n (Nat.le_of_succ_le hn)
    have hl : s.lines[n]? = some s.lines[n] := List.getElem?_eq_getElem hn
    obtain ⟨m, hm, hshape⟩ := shapes_get (ih ▸ changedUpTo_get (fun l : Line => (l.passed g d adv).shape) Line.shape hl)
    have hkept := announced_frame adv n s
    rw [announced_succ, announceLine_shapes hL (hkept.disp.symm ▸ hd) (hkept.geo.trans hg) hm, ih, Line.passed_shape hshape]
    exact changedUpTo_succ _ _ hl

theorem announced_linesPassed (hL : 0 < g.loop) (hd : g.MovedTo d adv s.tracker.disp) (hg : s.tracker.geo = some g) :
    ∀ n, LinesPassed g d adv n s (announced adv n s)
  | 0 => rfl
  | n + 1 => by
    have hkept := announced_frame adv n s
    rw [announced_succ]
    exact ⟨_, announced_linesPassed hL hd hg n,
      announceLine_linePassings hL (hkept.disp.symm ▸ hd) (hkept.geo.trans hg)⟩

theorem announced_quiet (hL : 0 < g.loop) (hd : g.MovedTo d adv s.tracker.disp) (hg : s.tracker.geo = some g)
    (hq : ∀ l ∈ s.lines, l.Idle ∨ ∀ c ∈ l.cfg, ∀ k, ¬ g.Passes d adv c.loc k) :
    ∀ n, n ≤ s.lines.length →
      announced adv n s = { s with lines := changedUpTo (Line.passed g d adv) id n s.lines }
  | 0, _ => by rw [changedUpTo_zero, List.map_id]; rfl
  | n + 1, hn => by
    have hl : s.lines[n]? = some s.lines[n] := List.getElem?_eq_getElem hn
    rw [announced_succ, announced_quiet hL hd hg hq n (Nat.le_of_succ_le hn), ← changedUpTo_succ _ _ hl]
    exact announceLine_quiet (s := { s with lines := changedUpTo (Line.passed g d adv) id n s.lines }) hL hd hg
      (changedUpTo_get _ _ hl) (hq _ (List.getElem_mem _))

theorem announce_passingsMade (hL : 0 < g.loop) (hd : g.MovedTo d adv s.tracker.disp) (hg : s.tracker.geo = some g) :
    PassingsMade g d adv s (announce adv s) := by
  refine ⟨?_, fun hno => ?_, announced_linesPassed hL hd hg _⟩
  · have h := congrArg (List.map Prod.snd) (announced_shapes hL hd hg s.lines.length le_rfl)
    rw [changedUpTo_length, shapes_bars, List.map_map] at h
    rw [List.map_map]
    exact h
  · have hq : ∀ l ∈ s.lines, l.Idle ∨ ∀ c ∈ l.cfg, ∀ k, ¬ g.Passes d adv c.loc k := fun l hl => by
      refine or_iff_not_imp_left.2 fun hidle c hc => ?_
      simp only [Line.Idle, not_or, not_forall, not_not] at hidle
      obtain ⟨-, a, b, hs⟩ := hidle
      exact hno l hl c a b hc hs
    have h := announced_quiet hL hd hg hq s.lines.length le_rfl
    rwa [changedUpTo_length] at h

theorem evalAll_monitorsEvaluated (adv : Nat) (before s : State) : MonitorsEvaluated adv before s (evalAll adv before s) := by
  refine ⟨_, evalScanIf before.arch.mon.isSome adv (evalLaunches adv before.armedLines s), rfl, ?_, rfl⟩
  unfold evalScanIf
  cases before.arch.mon <;> rfl

/-- A movement forward makes the passings and evaluates the monitors that were armed (R3, R6). -/
theorem movedForward_chainMoved (hL : 0 < g.loop) (hd : g.MovedTo d adv s.tracker.disp) (hg : s.tracker.geo = some g) :
    ChainMoved g d adv s (movedForward adv s) := by
  have hmade := announce_passingsMade hL hd hg
  refine ⟨?_, announce adv s, hmade, evalAll_monitorsEvaluated adv s _⟩
  have h := congrArg (List.map Prod.snd) (evalAll_rearmed (b := True) adv s (announce adv s)).shapes
  obtain ⟨hbars, -⟩ := hmade
  rw [shapes_bars, shapes_bars] at h
  exact h.trans hbars

end

end Sys2Proof.Machine
end

section
/-! # Encoder steps (sections 1.2 and 1.5) -/

namespace Sys2Proof.Machine

open Sys2Proof

/-- A change of one phase moves the pair forward where it is one of the four forward steps (R3). -/
theorem forward_iff (p : Pins) (ph : EncPhase) : p.forward ph = true ↔ (p.encA, p.encB, ph) ∈ forwardSteps := by
  obtain ⟨a, b, hold⟩ := p
  revert a b hold
  cases ph <;> decide

theorem forward_eq_ite {α : Type} (p : Pins) (ph : EncPhase) (x y : α) :
    (if p.forward ph then x else y) = if (p.encA, p.encB, ph) ∈ forwardSteps then x else y := by
  simp only [forward_iff]

/-- D after a step of a configured loop on which it stood (R3). -/
theorem stepDisp_eq {t : Tracker} {g : Geometry} (fwd : Bool) (hs : t.state ≠ .unconfigured) (hg : t.geo = some g)
    (hd : t.disp < g.trays * g.pitch) :
    t.stepDisp fwd =
      if fwd then (if t.disp + 1 = g.trays * g.pitch then 0 else t.disp + 1)
      else if t.disp = 0 then g.trays * g.pitch - 1 else t.disp - 1 := by
  have hstep : t.stepDisp fwd = if fwd then (t.disp + 1) % g.loop else (t.disp + g.loop - 1) % g.loop := by
    unfold Tracker.stepDisp
    rw [hg]
    cases hs' : t.state with
    | unconfigured => exact absurd hs' hs
    | _ => rfl
  have hloop : g.loop = g.trays * g.pitch := rfl
  rw [hstep, hloop]
  generalize g.trays * g.pitch = n at hd
  cases fwd
  · by_cases h0 : t.disp = 0
    · simp [h0, Nat.mod_eq_of_lt (show n - 1 < n by omega)]
    · have hback : t.disp + n - 1 = t.disp - 1 + n := by omega
      simp [h0, hback, Nat.mod_eq_of_lt (show t.disp - 1 < n by omega)]
  · by_cases h1 : t.disp + 1 = n
    · simp [h1]
    · simp [h1, Nat.mod_eq_of_lt (show t.disp + 1 < n by omega)]

/-! ## A movement with no monitor armed and no line HELD -/

/-- A line without its yield bar. -/
def Line.barless (l : Line) : Line := { l with bar := [] }

/-- t differs from s in yield bars alone. -/
def OnlyBars (s t : State) : Prop := t = { s with lines := t.lines } ∧ t.lines.map Line.barless = s.lines.map Line.barless

theorem OnlyBars.refl (s : State) : OnlyBars s s := ⟨rfl, rfl⟩

theorem OnlyBars.trans {s t u : State} (h : OnlyBars s t) (k : OnlyBars t u) : OnlyBars s u := by
  obtain ⟨ht, hb⟩ := h
  obtain ⟨hu, hb'⟩ := k
  refine ⟨?_, hb'.trans hb⟩
  rw [ht] at hu
  exact hu

theorem OnlyBars.noneHeld {s t : State} (h : OnlyBars s t) (hs : ∀ l ∈ s.lines, ∀ a b, l.state ≠ .held a b) :
    ∀ l ∈ t.lines, ∀ a b, l.state ≠ .held a b := by
  intro l hl
  have hmem : l.barless ∈ s.lines.map Line.barless := h.2 ▸ List.mem_map_of_mem hl
  obtain ⟨m, hm, hml⟩ := List.mem_map.1 hmem
  have hstate : m.state = l.state := (congrArg Line.state hml :)
  exact hstate ▸ hs m hm

theorem putLine_left_onlyBars {s : State} {i : Nat} {l : Line} (h : s.lines[i]? = some l) (ks : List Nat) :
    OnlyBars s (s.putLine i (l.left ks)) := by
  refine ⟨rfl, ?_⟩
  obtain ⟨hi, rfl⟩ := List.getElem?_eq_some_iff.1 h
  change (s.lines.set i _).map Line.barless = _
  rw [List.map_set]
  exact List.ext_getElem (by simp) fun n _ _ => by
    by_cases hn : i = n
    · subst hn
      simp [Line.barless, Line.left]
    · simp [hn]

theorem announceLine_onlyBars {s : State} (hs : ∀ l ∈ s.lines, ∀ a b, l.state ≠ .held a b) (adv i : Nat) :
    OnlyBars s (announceLine adv i s) := by
  unfold announceLine
  split
  · rename_i g c _ hc
    obtain ⟨l, hl, -⟩ := Option.bind_eq_some_iff.1 hc
    rw [passLines_idle _ hl (.inr (hs l (List.mem_of_getElem? hl)))]
    exact putLine_left_onlyBars hl _
  · exact .refl s

theorem announced_onlyBars {s : State} (hs : ∀ l ∈ s.lines, ∀ a b, l.state ≠ .held a b) (adv : Nat) :
    ∀ n, OnlyBars s (announced adv n s)
  | 0 => .refl s
  | n + 1 => by
    have ih := announced_onlyBars hs adv n
    rw [announced_succ]
    exact ih.trans (announceLine_onlyBars (ih.noneHeld hs) adv n)

/-- With no monitor armed before it, a movement makes the passings alone. -/
theorem evalAll_of_noneArmed {s : State} (h : s.NoneArmed) (adv : Nat) (w : State) : evalAll adv s w = w := by
  obtain ⟨ha, hl, hc⟩ := h
  unfold evalAll evalScanIf
  rw [armedLines_nil hl, armedChutes_nil hc, ha]
  rfl

theorem movedForward_onlyBars {s : State} (h : s.NoneArmed) (hs : ∀ l ∈ s.lines, ∀ a b, l.state ≠ .held a b) (adv : Nat) :
    OnlyBars s (movedForward adv s) := by
  rw [movedForward, evalAll_of_noneArmed h]
  exact announced_onlyBars hs adv s.lines.length

theorem OnlyBars.stepped {s t : State} {p : Pins} {x : Tracker} (h : OnlyBars { s with pins := p, tracker := x } t) :
    t = { s with pins := p, tracker := t.tracker, lines := t.lines } := by
  obtain ⟨ht, -⟩ := h
  have hx : t.tracker = x := by rw [ht]
  rw [hx]
  exact ht

theorem movedForward_stepped {s : State} (h : s.NoneArmed) (hs : ∀ l ∈ s.lines, ∀ a b, l.state ≠ .held a b) (p : Pins)
    (x : Tracker) : OnlyBars { s with pins := p, tracker := x } (movedForward 1 { s with pins := p, tracker := x }) :=
  movedForward_onlyBars (s := { s with pins := p, tracker := x }) h hs 1

/-! ## The step (R3) -/

theorem toggle_eq (p : Pins) (ph : EncPhase) :
    p.toggle ph = match ph with | .a => { p with encA := !p.encA } | .b => { p with encB := !p.encB } := by
  cases ph <;> rfl

/-- A forward step in TRACKING moves the chain by one step. -/
theorem encoderStep_tracking {s : State} {ph : EncPhase} {g : Geometry} (ht : s.isTracking = true)
    (hf : s.pins.forward ph = true) (hg : s.tracker.geo = some g) :
    encoderStep ph s =
      movedForward 1
        { s with
          pins := s.pins.toggle ph
          tracker := { s.tracker with net := s.tracker.net + 1, disp := (s.tracker.disp + 1) % (g.trays * g.pitch) } } := by
  have hstate : s.tracker.state = .tracking := by simpa [State.isTracking] using ht
  have hcount : s.tracker.count true =
      { s.tracker with net := s.tracker.net + 1, disp := (s.tracker.disp + 1) % (g.trays * g.pitch) } := by
    simp only [Tracker.count, Tracker.stepDisp, hstate, hg]
    rfl
  unfold encoderStep countStep
  rw [hf, if_pos (show ((withPins (s.pins.toggle ph) s).isTracking && true) = true from (Bool.and_true _).trans ht)]
  exact congrArg (fun x => movedForward 1 { s with pins := s.pins.toggle ph, tracker := x }) hcount

/-- A step outside TRACKING, or a reverse step, is counted and nothing else. -/
theorem encoderStep_counted {s : State} {ph : EncPhase}
    (h : s.isTracking = true → (s.pins.encA, s.pins.encB, ph) ∉ forwardSteps) :
    encoderStep ph s = { s with pins := s.pins.toggle ph, tracker := s.tracker.count (s.pins.forward ph) } := by
  refine if_neg fun hb => ?_
  obtain ⟨ht, hf⟩ := Bool.and_eq_true_iff.1 hb
  exact h ht ((forward_iff _ _).1 hf)

/-- Settles O6. -/
theorem stepIsCounted : Obligations.StepIsCounted := by
  unfold Obligations.StepIsCounted
  rintro ph s pins hpins hgeo
  obtain rfl : pins = s.pins.toggle ph := hpins.trans (toggle_eq _ _).symm
  refine ⟨encoderStep ph s, rfl, fun h => ?_, fun ht hf g hg => ?_⟩
  · rw [encoderStep_counted h]
    refine ⟨rfl, ?_, fun hu => ?_, fun hc g hg hd => ?_⟩
    · rw [← forward_eq_ite]
      change (if _ then _ else _) = _
      split <;> rfl
    · change s.tracker.stepDisp _ = _
      unfold Tracker.stepDisp
      rw [hu]
    · rw [← forward_eq_ite]
      exact stepDisp_eq _ hc hg hd
  · rw [encoderStep_tracking ht ((forward_iff _ _).2 hf) hg]
    refine ⟨movedForward_frame _ _, fun hL => ?_, fun hn hheld => ?_⟩
    · refine movedForward_chainMoved (g := g) (d := s.tracker.disp) hL (fun _ => ?_) hg
      exact Nat.mod_mod _ _
    · exact ⟨(movedForward_stepped hn hheld _ _).stepped, (movedForward_stepped hn hheld _ _).2⟩

end Sys2Proof.Machine
end

section
/-! # What leaving TRACKING takes away (R8, R41, R111, R114)

The parts of entry to LOST one after another: every order cancelled, every waiting DROP withdrawn, every reservation released. -/

namespace Sys2Proof.Machine

open Sys2Proof

/-! ## Every order of every chute is cancelled (R114) -/

/-- The trays of the orders of these chutes. -/
def orderTrays (cs : List Chute) : List Nat := cs.flatMap (fun c => c.queue.map Order.tray)

/-- The number of orders of these chutes. -/
def orderCount (cs : List Chute) : Nat := (cs.map (fun c => c.queue.length)).sum

theorem orderTrays_append (cs ds : List Chute) : orderTrays (cs ++ ds) = orderTrays cs ++ orderTrays ds :=
  List.flatMap_append

theorem orderCount_append (cs ds : List Chute) : orderCount (cs ++ ds) = orderCount cs + orderCount ds := by
  simp [orderCount]

theorem traysAfter_append (f : Tray → Tray) (ks ks' : List Nat) (trays : List Tray) :
    traysAfter f (ks ++ ks') trays = traysAfter f ks' (traysAfter f ks trays) :=
  List.foldl_append

theorem take_succ_of_get {α : Type} {l : List α} {n : Nat} {a : α} (h : l[n]? = some a) : l.take (n + 1) = l.take n ++ [a] := by
  rw [List.take_add_one, h]
  rfl

theorem cancelledUpTo_eq (s : State) : ∀ n, n ≤ s.carts.chutes.length →
    (List.range n).foldl (fun s j => cancelQueue j s) s =
      { s with
        trays := traysAfter Tray.recirculated (orderTrays (s.carts.chutes.take n)) s.trays
        sched :=
          { s.sched with
            cancelled := Nat.repeat (satInc 65535) (orderCount (s.carts.chutes.take n)) s.sched.cancelled }
        carts := { s.carts with chutes := changedUpTo Chute.unordered id n s.carts.chutes } }
  | 0, _ => by
    rw [changedUpTo_zero, List.map_id]
    rfl
  | n + 1, hn => by
    have hc : s.carts.chutes[n]? = some s.carts.chutes[n] := List.getElem?_eq_getElem hn
    rw [List.range_succ, List.foldl_append, cancelledUpTo_eq s n (Nat.le_of_succ_le hn), List.foldl_cons, List.foldl_nil,
      take_succ_of_get hc, orderTrays_append, orderCount_append, traysAfter_append, repeat_add, ← changedUpTo_succ _ _ hc]
    refine (cancelQueue_eq (changedUpTo_get _ _ hc)).trans ?_
    simp [orderTrays, orderCount]

theorem cancelAll_eq (s : State) :
    cancelAll s =
      { s with
        trays := traysAfter Tray.recirculated (orderTrays s.carts.chutes) s.trays
        sched :=
          { s.sched with cancelled := Nat.repeat (satInc 65535) (orderCount s.carts.chutes) s.sched.cancelled }
        carts := { s.carts with chutes := s.carts.chutes.map Chute.unordered } } := by
  have h := cancelledUpTo_eq s s.carts.chutes.length le_rfl
  rwa [changedUpTo_length, List.take_length] at h

/-! ## A chute whose waiting drops are withdrawn (R111) -/

/-- The waiting drop of chute j that a frame is. -/
def TimedBody.dropFor (j : Nat) : TimedBody → Option WaitingDrop
  | .drop i k _ seq serial tag => if i = j then some { tray := k, seq := seq, serial := serial, tag := tag } else none
  | .lnch .. => none
  | .scan .. => none

/-- The drops for chute j among these frames. -/
def dropsIn (fs : List TimedFrame) (j : Nat) : List WaitingDrop := fs.filterMap (fun f => f.body.dropFor j)

theorem dropsFor_eq (s : State) (j : Nat) : s.dropsFor j = dropsIn s.link.timing j := by
  unfold State.dropsFor dropsIn
  congr 1
  funext f
  obtain ⟨dst, body, begun⟩ := f
  cases body <;> rfl

theorem dropsIn_append (fs : List TimedFrame) (f : TimedFrame) (j : Nat) :
    dropsIn (fs ++ [f]) j = dropsIn fs j ++ (f.body.dropFor j).toList := by
  unfold dropsIn
  rw [List.filterMap_append]
  cases h : f.body.dropFor j <;> simp [h]

section
variable (c : Chute) (ds : List WaitingDrop) (x : WaitingDrop)

theorem Chute.undone_append :
    c.undone (ds ++ [x]) =
      if c.hasCart = true ∧ c.serial = some x.serial then (c.undone ds).eraseP (CartEntry.names x.tray x.seq)
      else c.undone ds := by
  unfold Chute.undone
  rw [List.foldl_append]
  rfl

theorem Chute.unawaited_append :
    c.unawaited (ds ++ [x]) = (c.unawaited ds).eraseP (fun a => a.tray == x.tray && a.seq == x.seq) := by
  unfold Chute.unawaited
  rw [List.foldl_append]
  rfl

theorem Chute.emptied_nil : c.emptied [] = c.unordered := by
  unfold Chute.emptied Chute.unordered Chute.fullTest Chute.inUse
  by_cases h : c.state = .opened ∨ c.state = .full
  · simp [h, Chute.undone, Chute.unawaited, Chute.count, Chute.queued]
  · simp [h, Chute.undone, Chute.unawaited]

theorem Chute.inUse_iff (c : Chute) : c.inUse = true ↔ c.state = .opened ∨ c.state = .full := by
  simp [Chute.inUse]

theorem Chute.emptied_state_unused (h : ¬ (c.state = .opened ∨ c.state = .full)) : (c.emptied ds).state = c.state := if_neg h

theorem Chute.emptied_inUse : (c.emptied ds).inUse = c.inUse := by
  rw [Bool.eq_iff_iff, Chute.inUse_iff, Chute.inUse_iff]
  by_cases h : c.state = .opened ∨ c.state = .full
  · refine iff_of_true ?_ h
    unfold Chute.emptied
    simp only [if_pos h]
    exact ite_eq_or_eq _ _ _
  · rw [c.emptied_state_unused ds h]

theorem Chute.emptied_hasCart : (c.emptied ds).hasCart = c.hasCart := by
  unfold Chute.hasCart
  rw [c.emptied_inUse ds]
  cases hu : c.inUse with
  | true => rfl
  | false =>
    rw [← Bool.not_eq_true, Chute.inUse_iff] at hu
    rw [c.emptied_state_unused ds hu]
    rfl

/-- The FULL test of an emptied chute whose cart list changes (R124). -/
theorem Chute.emptied_fullTest (l : List CartEntry) :
    ({ c.emptied ds with cart := l } : Chute).fullTest =
      { c.emptied ds with
        cart := l
        state := if c.state = .opened ∨ c.state = .full then (if l.length < c.cfg.capacity then .opened else .full) else c.state } := by
  have huse : ({ c.emptied ds with cart := l } : Chute).inUse = c.inUse := c.emptied_inUse ds
  unfold Chute.fullTest
  rw [huse]
  by_cases h : c.state = .opened ∨ c.state = .full
  · simp only [(Chute.inUse_iff c).2 h, if_true, if_pos h]
    rfl
  · have hno : c.inUse = false := by rwa [← Bool.not_eq_true, Chute.inUse_iff]
    simp only [hno, if_neg h, Bool.false_eq_true, if_false]
    rw [← c.emptied_state_unused ds h]

/-- The entry of a withdrawn drop in the current cart of an eyeless chute, after these drops (R131). -/
def Chute.undoneEntry : Option CartEntry :=
  if c.hasCart = true ∧ c.serial = some x.serial then (c.undone ds).find? (CartEntry.names x.tray x.seq) else none

/-- What a withdrawn drop of an eyeless chute leaves: no change where its entry is not found. -/
theorem Chute.emptied_append_none (h0 : c.cfg.confirm = 0) (hnone : c.undoneEntry ds x = none) :
    c.emptied (ds ++ [x]) = c.emptied ds := by
  have hsame : c.undone (ds ++ [x]) = c.undone ds := by
    rw [Chute.undone_append]
    split
    · rename_i hcur
      rw [Chute.undoneEntry, if_pos hcur] at hnone
      exact List.eraseP_of_forall_not (List.find?_eq_none.1 hnone)
    · rfl
  simp only [Chute.emptied, if_pos h0, hsame]

theorem Chute.emptied_append_some {e : CartEntry} (h0 : c.cfg.confirm = 0) (hsome : c.undoneEntry ds x = some e) :
    c.emptied (ds ++ [x]) =
      ({ c.emptied ds with cart := (c.emptied ds).cart.eraseP (CartEntry.names x.tray x.seq) } : Chute).fullTest := by
  have hcur : c.hasCart = true ∧ c.serial = some x.serial := by
    by_contra hno
    rw [Chute.undoneEntry, if_neg hno] at hsome
    cases hsome
  have hcart : (c.emptied ds).cart = c.undone ds := if_pos h0
  rw [Chute.emptied_fullTest, hcart]
  simp only [Chute.emptied, if_pos h0, Chute.undone_append, if_pos hcur]

/-- A withdrawn drop of a chute with an eye ends its confirmation. -/
theorem Chute.emptied_append_eye (h0 : c.cfg.confirm ≠ 0) :
    c.emptied (ds ++ [x]) =
      { c.emptied ds with
        awaiting := (c.emptied ds).awaiting.eraseP (fun a => a.tray == x.tray && a.seq == x.seq) } := by
  simp only [Chute.emptied, if_neg h0, Chute.unawaited_append]

end

/-! ## The withdrawal of one drop (R111, R131) -/

/-- The notice of a withdrawn drop of an eyeless chute: DROP_FAILED with the tag of its entry, or CORRECTION with its own (R131; the tag, log 17). -/
def Chute.undoneNotice (c : Chute) (j : Nat) (ds : List WaitingDrop) (x : WaitingDrop) : Notice :=
  match c.undoneEntry ds x with
  | some e => dropNotice .dropFailed j x.serial x.tray e.tag
  | none => dropNotice .correction j x.serial x.tray x.tag

section
variable {u : State} {j : Nat} {c : Chute} {ds : List WaitingDrop} (x : WaitingDrop)

theorem dropEntry_emptied (h : u.carts.chutes[j]? = some (c.emptied ds)) (h0 : c.cfg.confirm = 0) :
    u.dropEntry j x.serial x.tray x.seq = c.undoneEntry ds x := by
  have hc : u.chute? j = some (c.emptied ds) := h
  have hcur : (c.emptied ds).isCurrent x.serial = true ↔ c.hasCart = true ∧ c.serial = some x.serial := by
    rw [Chute.isCurrent, Chute.emptied_hasCart, Bool.and_eq_true, beq_iff_eq]
    rfl
  have hcart : (c.emptied ds).cart = c.undone ds := if_pos h0
  unfold State.dropEntry Chute.undoneEntry
  rw [hc]
  simp only [hcur, hcart]

/-- A drop of an eyeless chute is undone (R131). -/
theorem dropNotSent_eyeless (h : u.carts.chutes[j]? = some (c.emptied ds)) (h0 : c.cfg.confirm = 0) :
    dropNotSent j x.tray x.seq x.serial x.tag u =
      notify (c.undoneNotice j ds x)
        { u with carts := { u.carts with chutes := u.carts.chutes.set j (c.emptied (ds ++ [x])) } } := by
  have hc : u.chute? j = some (c.emptied ds) := h
  have h0' : (c.emptied ds).cfg.confirm = 0 := h0
  have hundo : dropNotSent j x.tray x.seq x.serial x.tag u = undoDrop j x.serial x.tray x.seq x.tag u := by
    unfold dropNotSent
    rw [hc]
    exact if_pos h0'
  rw [hundo]
  unfold undoDrop Chute.undoneNotice
  rw [dropEntry_emptied x h h0]
  cases hentry : c.undoneEntry ds x with
  | none =>
    obtain ⟨hj, hget⟩ := List.getElem?_eq_some_iff.1 h
    rw [c.emptied_append_none ds x h0 hentry, ← hget, List.set_getElem_self]
  | some e =>
    rw [c.emptied_append_some ds x h0 hentry]
    simp only [modifyChute, set_eq_modify_of_get h]

/-- DROPPING to DOUBT (R129). -/
def Tray.doubted : Tray → Tray := Tray.changed .dropping (fun t => { t with state := .doubt })

theorem doubtTray_eq (k : Nat) (s : State) : doubtTray k s = { s with trays := s.trays.modify k Tray.doubted } :=
  changeTray_eq (by simp) _ _

/-- The confirmation that a withdrawn drop ends stands in the list. -/
def Chute.awaits (c : Chute) (ds : List WaitingDrop) (x : WaitingDrop) : Bool :=
  (c.unawaited ds).any (fun a => a.tray == x.tray && a.seq == x.seq)

/-- The confirmation of a drop of a chute with an eye ends (R111). -/
theorem dropNotSent_eye (h : u.carts.chutes[j]? = some (c.emptied ds)) (h0 : c.cfg.confirm ≠ 0) :
    dropNotSent j x.tray x.seq x.serial x.tag u =
      { u with
        trays := traysAfter Tray.doubted (if c.awaits ds x then [x.tray] else []) u.trays
        carts := { u.carts with chutes := u.carts.chutes.set j (c.emptied (ds ++ [x])) } } := by
  have hc : u.chute? j = some (c.emptied ds) := h
  have h0' : (c.emptied ds).cfg.confirm ≠ 0 := h0
  have hend : dropNotSent j x.tray x.seq x.serial x.tag u = endConfirmation j x.tray x.seq u := by
    unfold dropNotSent
    rw [hc]
    exact if_neg h0'
  have hawait : (c.emptied ds).awaiting = c.unawaited ds := if_neg h0
  have hif : endConfirmation j x.tray x.seq u =
      if c.awaits ds x then
        doubtTray x.tray
          (modifyChute j
            (fun c => { c with awaiting := c.awaiting.eraseP (fun a => a.tray == x.tray && a.seq == x.seq) }) u)
      else u := by
    unfold endConfirmation Chute.awaits
    rw [hc, ← hawait]
  rw [hend, hif, c.emptied_append_eye ds x h0]
  cases haw : c.awaits ds x with
  | true =>
    rw [doubtTray_eq, modifyChute, set_eq_modify_of_get h]
    rfl
  | false =>
    have hsame : (c.emptied ds).awaiting.eraseP (fun a => a.tray == x.tray && a.seq == x.seq) = (c.emptied ds).awaiting := by
      rw [hawait]
      exact List.eraseP_of_forall_not (List.any_eq_false.1 haw)
    obtain ⟨hj, hget⟩ := List.getElem?_eq_some_iff.1 h
    rw [hsame, ← hget, List.set_getElem_self]
    rfl

end

/-! ## The withdrawal of every waiting drop (R111) -/

/-- An ARMED drain watch may end the session's DRAINING; SORTING stands, with the watch DISARMED (R161, R169). -/
structure SortingKept (s u : State) : Prop where
  clock : u.session.clock = s.session.clock
  sorting : s.mode = .sorting → u.mode = .sorting ∧ u.session.watch = false
  other : s.mode ≠ .sorting → u.mode ≠ .sorting

theorem SortingKept.refl {s : State} (h : s.SessionLaw) : SortingKept s s := by
  obtain ⟨-, -, hwatch⟩ := h
  refine ⟨rfl, fun hs => ⟨hs, ?_⟩, id⟩
  rw [← Bool.not_eq_true, hwatch]
  intro hd
  cases hs.symm.trans hd

theorem SortingKept.same {s u v : State} (h : SortingKept s u) (hv : v.session = u.session) : SortingKept s v := by
  obtain ⟨hclock, hsort, hother⟩ := h
  refine ⟨(congrArg Session.clock hv).trans hclock, fun hs => ?_, fun hs => ?_⟩
  · rw [State.mode, hv]
    exact hsort hs
  · rw [State.mode, hv]
    exact hother hs

theorem SortingKept.drain {s u : State} (h : SortingKept s u) : SortingKept s (drainWatch u) := by
  have hsession : (drainWatch u).session =
      if u.drainDone then { u.session with mode := .drained, watch := false } else u.session := rfl
  obtain ⟨hclock, hsort, hother⟩ := h
  refine ⟨?_, fun hs => ?_, fun hs => ?_⟩
  · rw [hsession, ← hclock]
    split <;> rfl
  · obtain ⟨hmode, hwatch⟩ := hsort hs
    have hno : u.drainDone = false := by simp [State.drainDone, hwatch]
    rw [State.mode, hsession, hno]
    exact ⟨hmode, hwatch⟩
  · rw [State.mode, hsession]
    split
    · simp
    · exact hother hs

/-- A split of a list with one more element at its end. -/
theorem append_singleton_eq_split {α : Type} {l before after : List α} {x y : α} (h : l ++ [x] = before ++ y :: after) :
    (before = l ∧ y = x ∧ after = []) ∨ ∃ after', after = after' ++ [x] ∧ l = before ++ y :: after' := by
  rcases List.eq_nil_or_concat after with rfl | ⟨after', z, rfl⟩
  · obtain ⟨rfl, hxy⟩ := List.append_inj' h rfl
    exact .inl ⟨rfl, (List.singleton_inj.1 hxy).symm, rfl⟩
  · right
    have h' : l ++ [x] = (before ++ y :: after') ++ [z] := by simpa using h
    obtain ⟨rfl, hz⟩ := List.append_inj' h' rfl
    exact ⟨after', by rw [List.concat_eq_append, List.singleton_inj.1 hz], rfl⟩

/-- A drop among these frames ends a confirmation that stands when its turn comes. -/
def DoubtedIn (s : State) (fs : List TimedFrame) (k : Nat) : Prop :=
  ∃ (j : Nat) (c : Chute) (before after : List WaitingDrop) (x : WaitingDrop),
    s.carts.chutes[j]? = some c ∧ c.cfg.confirm ≠ 0 ∧ dropsIn fs j = before ++ x :: after ∧ x.tray = k ∧
      c.awaits before x = true

/-- The withdrawal of the waiting drops of s has dealt with the frames `pre`, and the frames `rest` wait. -/
structure Withdrawing (s : State) (pre rest : List TimedFrame) (u : State) : Prop where
  session : SortingKept s u
  lines : u.lines = s.lines.map (fun l => { l with mon := none })
  strays : u.strays = s.strays
  timing : u.link.timing = pre.filter (fun f => !f.body.isDrop) ++ rest
  carts : u.carts = { s.carts with chutes := s.carts.chutes.mapIdx (fun j c => c.emptied (dropsIn pre j)) }
  sched :
    u.sched =
      { s.sched with
        cancelled := Nat.repeat (satInc 65535) (orderCount s.carts.chutes) s.sched.cancelled
        withdrawn := Nat.repeat (satInc 65535) (pre.filter (fun f => f.body.isDrop)).length s.sched.withdrawn }
  trays :
    ∃ ks, (∀ k, k ∈ ks ↔ DoubtedIn s pre k) ∧
      u.trays = traysAfter Tray.doubted ks (traysAfter Tray.recirculated (orderTrays s.carts.chutes) s.trays)
  notices :
    u.mgmt.notices.length < 64 →
      ∀ (j : Nat) (c : Chute) (before after : List WaitingDrop) (x : WaitingDrop), s.carts.chutes[j]? = some c →
        c.cfg.confirm = 0 → dropsIn pre j = before ++ x :: after → s.stamp (c.undoneNotice j before x) ∈ u.mgmt.notices

/-- A notice that joined the queue stays while the queue has room. -/
theorem notices_length_le {s t : State} (h : Kept s t) : s.mgmt.notices.length ≤ t.mgmt.notices.length :=
  h.notices.length_le

/-- An evaluation of the drain watch between two withdrawals. -/
theorem Withdrawing.drain {s u : State} {pre rest : List TimedFrame} (h : Withdrawing s pre rest u) :
    Withdrawing s pre rest (drainWatch u) where
  session := h.session.drain
  lines := h.lines
  strays := h.strays
  timing := h.timing
  carts := h.carts
  sched := h.sched
  trays := h.trays
  notices hroom j c before after x hc h0 hds :=
    (drainWatch_frame u).notices.subset
      (h.notices ((notices_length_le (drainWatch_frame u)).trans_lt hroom) j c before after x hc h0 hds)

/-- The state in which the withdrawal of a drop begins: the frame has left the queue and is counted. -/
def dropTaken (u : State) : State := countWithdrawn (dropFirst u)

/-- A frame that is no drop stays in the queue. -/
theorem Withdrawing.skip {s u : State} {pre rest : List TimedFrame} {f : TimedFrame} (h : Withdrawing s pre (f :: rest) u)
    (hf : f.body.isDrop = false) : Withdrawing s (pre ++ [f]) rest u := by
  have hnone : ∀ j, f.body.dropFor j = none := fun j => by
    obtain ⟨dst, body, begun⟩ := f
    cases body with
    | drop => cases hf
    | _ => rfl
  have hsame : dropsIn (pre ++ [f]) = dropsIn pre := funext fun j => by simp [dropsIn_append, hnone]
  have hdoubt : DoubtedIn s (pre ++ [f]) = DoubtedIn s pre := by
    unfold DoubtedIn
    rw [hsame]
  obtain ⟨hsession, hlines, hstrays, htiming, hcarts, hsched, htrays, hnotices⟩ := h
  refine ⟨hsession, hlines, hstrays, ?_, ?_, ?_, ?_, ?_⟩
  · simp [htiming, hf]
  · rw [hsame]; exact hcarts
  · simpa [hf] using hsched
  · rw [hdoubt]; exact htrays
  · rw [hsame]; exact hnotices

/-- A frame that carries drop x of chute j. -/
structure IsDropOf (f : TimedFrame) (j : Nat) (x : WaitingDrop) : Prop where
  drop : f.body.isDrop = true
  own : f.body.dropFor j = some x
  other : ∀ i, i ≠ j → f.body.dropFor i = none

section
variable {s u v : State} {pre rest : List TimedFrame} {f : TimedFrame} {j : Nat} {x : WaitingDrop}

theorem IsDropOf.dropsIn_own (hf : IsDropOf f j x) : dropsIn (pre ++ [f]) j = dropsIn pre j ++ [x] := by
  rw [dropsIn_append, hf.own]
  rfl

theorem IsDropOf.dropsIn_other (hf : IsDropOf f j x) {i : Nat} (hi : i ≠ j) : dropsIn (pre ++ [f]) i = dropsIn pre i := by
  rw [dropsIn_append, hf.other i hi]
  exact List.append_nil _

/-- The chutes after one more withdrawal: chute j alone has changed. -/
theorem IsDropOf.emptied_set (hf : IsDropOf f j x) {cs : List Chute} {c : Chute} (hc : cs[j]? = some c) :
    (cs.mapIdx (fun i c => c.emptied (dropsIn pre i))).set j (c.emptied (dropsIn pre j ++ [x])) =
      cs.mapIdx (fun i c => c.emptied (dropsIn (pre ++ [f]) i)) := by
  refine List.ext_getElem? fun i => ?_
  have hj : j < cs.length := (List.getElem?_eq_some_iff.1 hc).1
  rw [List.getElem?_set, List.getElem?_mapIdx, List.getElem?_mapIdx, List.length_mapIdx, if_pos hj]
  by_cases hi : j = i
  · subst hi
    rw [if_pos rfl, hc, hf.dropsIn_own]
    rfl
  · rw [if_neg hi, hf.dropsIn_other (Ne.symm hi)]

theorem IsDropOf.emptied_absent (hf : IsDropOf f j x) {cs : List Chute} (hc : cs[j]? = none) :
    cs.mapIdx (fun i c => c.emptied (dropsIn pre i)) = cs.mapIdx (fun i c => c.emptied (dropsIn (pre ++ [f]) i)) := by
  refine List.ext_getElem? fun i => ?_
  rw [List.getElem?_mapIdx, List.getElem?_mapIdx]
  by_cases hi : i = j
  · rw [hi, hc]
    rfl
  · rw [hf.dropsIn_other hi]

/-- One more drop doubts its own tray, where a confirmation awaits it. -/
theorem IsDropOf.doubtedIn (hf : IsDropOf f j x) (k : Nat) :
    DoubtedIn s (pre ++ [f]) k ↔
      DoubtedIn s pre k ∨
        ∃ c, s.carts.chutes[j]? = some c ∧ c.cfg.confirm ≠ 0 ∧ x.tray = k ∧ c.awaits (dropsIn pre j) x = true := by
  constructor
  · rintro ⟨i, c, before, after, y, hc, h0, hds, hy, haw⟩
    by_cases hi : i = j
    · subst hi
      rw [hf.dropsIn_own] at hds
      rcases append_singleton_eq_split hds with ⟨rfl, rfl, -⟩ | ⟨after', -, hds'⟩
      · exact .inr ⟨c, hc, h0, hy, haw⟩
      · exact .inl ⟨i, c, before, after', y, hc, h0, hds', hy, haw⟩
    · rw [hf.dropsIn_other hi] at hds
      exact .inl ⟨i, c, before, after, y, hc, h0, hds, hy, haw⟩
  · rintro (⟨i, c, before, after, y, hc, h0, hds, hy, haw⟩ | ⟨c, hc, h0, hx, haw⟩)
    · by_cases hi : i = j
      · subst hi
        exact ⟨i, c, before, after ++ [x], y, hc, h0, by rw [hf.dropsIn_own, hds]; simp, hy, haw⟩
      · exact ⟨i, c, before, after, y, hc, h0, by rw [hf.dropsIn_other hi, hds], hy, haw⟩
    · exact ⟨j, c, dropsIn pre j, [], x, hc, h0, hf.dropsIn_own, hx, haw⟩

/-- What the withdrawal of one more drop has changed so far: the frame is gone and counted. -/
theorem Withdrawing.taken_timing (h : Withdrawing s pre (f :: rest) u) (hf : IsDropOf f j x) :
    (dropTaken u).link.timing = (pre ++ [f]).filter (fun f => !f.body.isDrop) ++ rest := by
  change u.link.timing.eraseP _ = _
  rw [h.timing, List.eraseP_append_right _ (by simp), List.eraseP_cons_of_pos (p := fun f : TimedFrame => f.body.isDrop) hf.drop]
  simp [hf.drop]

theorem Withdrawing.taken_sched (h : Withdrawing s pre (f :: rest) u) (hf : IsDropOf f j x) :
    (dropTaken u).sched =
      { s.sched with
        cancelled := Nat.repeat (satInc 65535) (orderCount s.carts.chutes) s.sched.cancelled
        withdrawn := Nat.repeat (satInc 65535) ((pre ++ [f]).filter (fun f => f.body.isDrop)).length s.sched.withdrawn } := by
  have hlen : ((pre ++ [f]).filter (fun f => f.body.isDrop)).length = (pre.filter (fun f => f.body.isDrop)).length + 1 := by
    simp [hf.drop]
  change { u.sched with withdrawn := satInc Config.tallyMax u.sched.withdrawn } = _
  rw [h.sched, hlen]
  rfl

/-- The withdrawal of a drop, given what it does to trays, chutes and notices. -/
theorem Withdrawing.next (h : Withdrawing s pre (f :: rest) u) (hf : IsDropOf f j x)
    (hv : v = { dropTaken u with trays := v.trays, carts := v.carts, mgmt := v.mgmt })
    (hcarts : v.carts = { s.carts with chutes := s.carts.chutes.mapIdx (fun i c => c.emptied (dropsIn (pre ++ [f]) i)) })
    (htrays : ∃ ks, (∀ k, k ∈ ks ↔ DoubtedIn s (pre ++ [f]) k) ∧
      v.trays = traysAfter Tray.doubted ks (traysAfter Tray.recirculated (orderTrays s.carts.chutes) s.trays))
    (hmgmt : u.mgmt.notices <+: v.mgmt.notices)
    (hown : v.mgmt.notices.length < 64 → ∀ c, s.carts.chutes[j]? = some c → c.cfg.confirm = 0 →
      s.stamp (c.undoneNotice j (dropsIn pre j) x) ∈ v.mgmt.notices) :
    Withdrawing s (pre ++ [f]) rest v where
  session := h.session.same (by rw [hv]; rfl)
  lines := by rw [hv]; exact h.lines
  strays := by rw [hv]; exact h.strays
  timing := by rw [hv]; exact h.taken_timing hf
  carts := hcarts
  sched := by rw [hv]; exact h.taken_sched hf
  trays := htrays
  notices := by
    intro hroom i c before after y hc h0 hds
    have hroom' : u.mgmt.notices.length < 64 := hmgmt.length_le.trans_lt hroom
    by_cases hi : i = j
    · subst hi
      rw [hf.dropsIn_own] at hds
      rcases append_singleton_eq_split hds with ⟨rfl, rfl, -⟩ | ⟨after', -, hds'⟩
      · exact hown hroom c hc h0
      · exact hmgmt.subset (h.notices hroom' i c before after' y hc h0 hds')
    · rw [hf.dropsIn_other hi] at hds
      exact hmgmt.subset (h.notices hroom' i c before after y hc h0 hds)

/-- A notice that joins a queue with room after it stands in the queue. -/
theorem Mgmt.mem_push {m : Mgmt} {n : Notice} (h : (m.push n).notices.length < 64) : n ∈ (m.push n).notices := by
  have hroom : m.notices.length < 64 := (m.push_prefix n).length_le.trans_lt h
  unfold Mgmt.push
  rw [if_pos (show m.notices.length < Config.noticesMax from hroom)]
  exact List.mem_append_right _ (List.mem_singleton_self _)

theorem Withdrawing.take (h : Withdrawing s pre (f :: rest) u) (hf : IsDropOf f j x) :
    Withdrawing s (pre ++ [f]) rest (dropNotSent j x.tray x.seq x.serial x.tag (dropTaken u)) := by
  obtain ⟨ks, hks, htrays⟩ := h.trays
  have hcarts : (dropTaken u).carts = _ := h.carts
  cases hc : s.carts.chutes[j]? with
  | none =>
    have hget : (dropTaken u).chute? j = none := by simp [State.chute?, hcarts, hc]
    have hsame : dropNotSent j x.tray x.seq x.serial x.tag (dropTaken u) = dropTaken u := by
      unfold dropNotSent
      rw [hget]
    rw [hsame]
    refine h.next hf rfl (hf.emptied_absent (pre := pre) hc ▸ hcarts) ⟨ks, fun k => ?_, htrays⟩ (List.prefix_refl _)
      fun _ c hc' => ?_
    · rw [hks, hf.doubtedIn]
      simp [hc]
    · cases hc.symm.trans hc'
  | some c =>
    have hget : (dropTaken u).carts.chutes[j]? = some (c.emptied (dropsIn pre j)) := by simp [hcarts, hc]
    have hset : { (dropTaken u).carts with
          chutes := (dropTaken u).carts.chutes.set j (c.emptied (dropsIn pre j ++ [x])) } =
        { s.carts with chutes := s.carts.chutes.mapIdx (fun i c => c.emptied (dropsIn (pre ++ [f]) i)) } := by
      rw [hcarts, ← hf.emptied_set hc]
    by_cases h0 : c.cfg.confirm = 0
    · rw [dropNotSent_eyeless x hget h0]
      have hclock : (dropTaken u).session.clock = s.session.clock := h.session.clock
      refine h.next hf rfl hset ⟨ks, fun k => ?_, htrays⟩ (Mgmt.push_prefix _ _) fun hroom c' hc' h0' => ?_
      · rw [hks, hf.doubtedIn]
        simp [hc, h0]
      · obtain rfl : c = c' := Option.some.inj (hc.symm.trans hc')
        rw [State.stamp, ← hclock]
        exact Mgmt.mem_push hroom
    · rw [dropNotSent_eye x hget h0]
      refine h.next hf rfl hset ⟨ks ++ if c.awaits (dropsIn pre j) x then [x.tray] else [], fun k => ?_, ?_⟩
        (List.prefix_refl _) fun _ c' hc' h0' => ?_
      · rw [List.mem_append, hks, hf.doubtedIn]
        cases haw : c.awaits (dropsIn pre j) x <;> simp [hc, h0, haw, eq_comm (a := k) (b := x.tray)]
      · rw [traysAfter_append, ← htrays]
        rfl
      · obtain rfl : c = c' := Option.some.inj (hc.symm.trans hc')
        exact absurd h0' h0

end

/-- The frames of the timing queue are dealt with one after another. -/
theorem Withdrawing.run {s : State} : ∀ (rest : List TimedFrame) {pre : List TimedFrame} {u : State},
    Withdrawing s pre rest u → Withdrawing s (pre ++ rest) [] (withdrawEach rest u)
  | [], pre, u, h => by rwa [List.append_nil]
  | ⟨dst, .drop j k side seq serial tag, begun⟩ :: rest, pre, u, h => by
    have hf : IsDropOf ⟨dst, .drop j k side seq serial tag, begun⟩ j { tray := k, seq := seq, serial := serial, tag := tag } :=
      ⟨rfl, if_pos rfl, fun i hi => if_neg (Ne.symm hi)⟩
    have := Withdrawing.run rest (h.take hf).drain
    rwa [List.append_assoc] at this
  | ⟨dst, .lnch i k, begun⟩ :: rest, pre, u, h => by
    have := Withdrawing.run rest (h.skip rfl)
    rwa [List.append_assoc] at this
  | ⟨dst, .scan k, begun⟩ :: rest, pre, u, h => by
    have := Withdrawing.run rest (h.skip rfl)
    rwa [List.append_assoc] at this

/-- Every order is cancelled, and the withdrawal begins. -/
theorem withdrawing_cancelAll {s : State} (h : s.SessionLaw) (x : Tracker) :
    Withdrawing s [] s.link.timing (cancelAll (disarmAll (withTracker x s))) := by
  rw [cancelAll_eq]
  have hcount : orderCount (disarmAll (withTracker x s)).carts.chutes = orderCount s.carts.chutes := by
    simp [orderCount, disarmAll, Function.comp_def]
  have htrays : orderTrays (disarmAll (withTracker x s)).carts.chutes = orderTrays s.carts.chutes := by
    simp [orderTrays, disarmAll, List.flatMap_map]
  refine ⟨(SortingKept.refl h).same rfl, rfl, rfl, rfl, ?_, ?_, ⟨[], fun k => ?_, ?_⟩, fun _ j c before after y _ _ hds => ?_⟩
  · have hchutes : (disarmAll (withTracker x s)).carts.chutes.map Chute.unordered =
        s.carts.chutes.mapIdx (fun j c => c.emptied (dropsIn [] j)) := by
      refine List.ext_getElem? fun i => ?_
      simp only [disarmAll, withTracker_carts, List.map_map, List.getElem?_map, List.getElem?_mapIdx, dropsIn, List.filterMap_nil,
        Chute.emptied_nil]
      rfl
    exact congrArg (fun cs => { s.carts with chutes := cs }) hchutes
  · rw [hcount]
    rfl
  · refine iff_of_false (List.not_mem_nil) ?_
    rintro ⟨j, c, before, after, y, -, -, hds, -⟩
    simp [dropsIn] at hds
  · rw [htrays]
    rfl
  · simp [dropsIn] at hds

end Sys2Proof.Machine
end

section
/-! # Entry to LOST: the encoder fault and the HOME pulse (sections 1.2 to 1.4) -/

namespace Sys2Proof.Machine

open Sys2Proof

/-! ## Every reservation is released (R36, R41) -/

/-- RESERVED to EMPTY (R36). -/
def Tray.vacated : Tray → Tray := Tray.changed .reserved (fun _ => Tray.blank .empty)

/-- A line whose reservation, if it has one, is released in this mode, its monitor disarmed (R36, R41). -/
def Line.released (m : Mode) (l : Line) : Line :=
  { l with
    state :=
      match l.state with
      | .reserved _ a b => if m = .sorting then .held a b else .free
      | x => x
    mon := none }

theorem Line.released_reserved {m : Mode} {l : Line} {k a b : Nat} (h : l.state = .reserved k a b) :
    l.released m = { l with state := if m = .sorting then .held a b else .free, mon := none } := by
  unfold Line.released
  rw [h]

theorem Line.released_other {m : Mode} {l : Line} (h : ∀ k a b, l.state ≠ .reserved k a b) :
    l.released m = { l with mon := none } := by
  obtain ⟨cfg, state, bar, mon, clamped⟩ := l
  cases state with
  | reserved k a b => exact absurd rfl (h k a b)
  | _ => rfl

/-- A RESERVED tray returns to EMPTY, and the drain watch is evaluated where it does (R169). -/
theorem changeTray_vacated (k : Nat) (s : State) :
    changeTray k .reserved (fun _ => Tray.blank .empty) s = drainWatch { s with trays := s.trays.modify k Tray.vacated } ∨
      changeTray k .reserved (fun _ => Tray.blank .empty) s = { s with trays := s.trays.modify k Tray.vacated } := by
  unfold changeTray
  cases hx : s.trays[k]? with
  | none =>
    right
    rw [modify_eq_self (by simp [hx])]
  | some x =>
    by_cases hr : x.state = .reserved
    · left
      change (if x.state = .reserved then settleTray k (Tray.blank .empty) s else s) = _
      rw [if_pos hr, set_eq_modify_of_get hx, Tray.vacated, Tray.changed, if_pos hr, settleTray, if_pos (.inl rfl)]
      rfl
    · right
      change (if x.state = .reserved then settleTray k (Tray.blank .empty) s else s) = _
      rw [if_neg hr, modify_eq_self (by simp [hx, Tray.vacated, Tray.changed, hr])]

/-- A line before line n is RESERVED with tray k. -/
def ReservedBelow (s : State) (n k : Nat) : Prop :=
  ∃ (i : Nat) (l : Line) (a b : Nat), i < n ∧ s.lines[i]? = some l ∧ l.state = .reserved k a b

theorem reservedBelow_succ {s : State} {n : Nat} {l : Line} (hl : s.lines[n]? = some l) (k : Nat) :
    ReservedBelow s (n + 1) k ↔ ReservedBelow s n k ∨ ∃ a b, l.state = .reserved k a b := by
  constructor
  · rintro ⟨i, m, a, b, hi, hm, hs⟩
    rcases Nat.lt_succ_iff_lt_or_eq.1 hi with hi | rfl
    · exact .inl ⟨i, m, a, b, hi, hm, hs⟩
    · obtain rfl : l = m := Option.some.inj (hl.symm.trans hm)
      exact .inr ⟨a, b, hs⟩
  · rintro (⟨i, m, a, b, hi, hm, hs⟩ | ⟨a, b, hs⟩)
    · exact ⟨i, m, a, b, Nat.lt_succ_of_lt hi, hm, hs⟩
    · exact ⟨n, l, a, b, Nat.lt_succ_self n, hl, hs⟩

/-- The release of the reservations of s has dealt with the lines before line n, from u to w. -/
structure Releasing (s u : State) (n : Nat) (w : State) : Prop where
  session : SortingKept s w
  lines : w.lines = changedUpTo (Line.released s.mode) (fun l => { l with mon := none }) n s.lines
  strays : w.strays = u.strays
  timing : w.link.timing = u.link.timing
  carts : w.carts = u.carts
  sched : w.sched = u.sched
  trays : ∃ ks, (∀ k, k ∈ ks ↔ ReservedBelow s n k) ∧ w.trays = traysAfter Tray.vacated ks u.trays
  irefs :
    s.mode ≠ .sorting → ∀ (i : Nat) (l : Line) (k a b : Nat), i < n → s.lines[i]? = some l → l.state = .reserved k a b →
      { line := i, tag1 := a, tag2 := b, reason := .mode, begun := false } ∈ w.link.irefs
  notices : u.mgmt.notices <+: w.mgmt.notices

theorem Releasing.drain {s u w : State} {n : Nat} (h : Releasing s u n w) : Releasing s u n (drainWatch w) :=
  ⟨h.session.drain, h.lines, h.strays, h.timing, h.carts, h.sched, h.trays, h.irefs,
    h.notices.trans (drainWatch_frame w).notices⟩

section
variable {s u w : State} {n : Nat} {l : Line}

theorem Releasing.skip (h : Releasing s u n w) (hl : s.lines[n]? = some l) (hno : ∀ k a b, l.state ≠ .reserved k a b) :
    Releasing s u (n + 1) w := by
  obtain ⟨hsession, hlines, hstrays, htiming, hcarts, hsched, ⟨ks, hks, htrays⟩, hirefs, hnotices⟩ := h
  refine ⟨hsession, ?_, hstrays, htiming, hcarts, hsched, ⟨ks, fun k => ?_, htrays⟩, fun hm i m k a b hi hi' hs => ?_, hnotices⟩
  · have hget := changedUpTo_get (Line.released s.mode) (fun l => { l with mon := none }) hl
    obtain ⟨hn, hx⟩ := List.getElem?_eq_some_iff.1 hget
    rw [hlines, ← changedUpTo_succ _ _ hl, Line.released_other hno, ← hx, List.set_getElem_self]
  · rw [hks, reservedBelow_succ hl]
    exact (or_iff_left fun ⟨a, b, hs⟩ => hno k a b hs).symm
  · rcases Nat.lt_succ_iff_lt_or_eq.1 hi with hi | rfl
    · exact hirefs hm i m k a b hi hi' hs
    · obtain rfl : l = m := Option.some.inj (hl.symm.trans hi')
      exact absurd hs (hno k a b)

/-- The tray of line n's reservation is EMPTY, and its line is about to be released. -/
theorem Releasing.vacate (h : Releasing s u n w) {k : Nat} :
    ∃ v, changeTray k .reserved (fun _ => Tray.blank .empty) w = v ∧ SortingKept s v ∧ v.lines = w.lines ∧
      v.strays = w.strays ∧ v.link = w.link ∧ v.carts = w.carts ∧ v.sched = w.sched ∧
      v.trays = w.trays.modify k Tray.vacated ∧ w.mgmt.notices <+: v.mgmt.notices := by
  rcases changeTray_vacated k w with hv | hv
  · exact ⟨_, hv, (h.session.same (v := { w with trays := w.trays.modify k Tray.vacated }) rfl).drain, rfl, rfl, rfl, rfl, rfl, rfl,
      (drainWatch_frame { w with trays := w.trays.modify k Tray.vacated }).notices⟩
  · exact ⟨_, hv, h.session.same rfl, rfl, rfl, rfl, rfl, rfl, rfl, List.prefix_refl _⟩

theorem Releasing.release (h : Releasing s u n w) (hl : s.lines[n]? = some l) {k a b : Nat} (hs : l.state = .reserved k a b) :
    Releasing s u (n + 1) (releaseLine n w) := by
  have hget : w.lines[n]? = some { l with mon := none } := by rw [h.lines]; exact changedUpTo_get _ _ hl
  have hmon : modifyLine n (fun l => { l with mon := none }) w = w := by
    unfold modifyLine
    rw [modify_eq_self (by simp [hget])]
  obtain ⟨v, hv, hsession, hlines, hstrays, hlink, hcarts, hsched, htrays, hnotices⟩ := h.vacate (k := k)
  have hrel : releaseLine n w = holdAgain n a b v := by
    unfold releaseLine
    rw [hget, hmon, ← hv]
    simp only [Option.map_some, hs]
  obtain ⟨-, hwlines, hwstrays, hwtiming, hwcarts, hwsched, ⟨ks, hks, hwtrays⟩, hwirefs, hwnotices⟩ := h
  have hlines' : ∀ st, st = (if s.mode = .sorting then LineState.held a b else .free) →
      v.lines.modify n (fun l => { l with state := st }) =
        changedUpTo (Line.released s.mode) (fun l => { l with mon := none }) (n + 1) s.lines := by
    rintro st rfl
    rw [hlines, set_eq_modify_of_get hget, hwlines, ← changedUpTo_succ _ _ hl, Line.released_reserved hs]
  have htrays' : ∃ ks, (∀ k, k ∈ ks ↔ ReservedBelow s (n + 1) k) ∧ v.trays = traysAfter Tray.vacated ks u.trays := by
    refine ⟨ks ++ [k], fun x => ?_, by rw [traysAfter_append, ← hwtrays, htrays]; rfl⟩
    rw [List.mem_append, hks, reservedBelow_succ hl, List.mem_singleton, hs]
    simp [eq_comm (a := x)]
  rw [hrel]
  unfold holdAgain
  by_cases hm : s.mode = .sorting
  · rw [if_pos (hsession.sorting hm).1]
    exact ⟨hsession.same rfl, hlines' _ (if_pos hm).symm, hstrays.trans hwstrays, (congrArg Link.timing hlink).trans hwtiming,
      hcarts.trans hwcarts, hsched.trans hwsched, htrays', fun hno => absurd hm hno, hwnotices.trans hnotices⟩
  · rw [if_neg (hsession.other hm)]
    refine ⟨hsession.same rfl, hlines' _ (if_neg hm).symm, hstrays.trans hwstrays, (congrArg Link.timing hlink).trans hwtiming,
      hcarts.trans hwcarts, hsched.trans hwsched, htrays', fun _ i m k' a' b' hi hi' hs' => ?_, hwnotices.trans hnotices⟩
    rcases Nat.lt_succ_iff_lt_or_eq.1 hi with hi | rfl
    · have hmem := hwirefs hm i m k' a' b' hi hi' hs'
      rw [← hlink] at hmem
      exact mem_placeIref_of_ne hmem (Nat.ne_of_lt hi)
    · obtain rfl : l = m := Option.some.inj (hl.symm.trans hi')
      cases hs.symm.trans hs'
      exact mem_placeIref _ _

theorem Releasing.step (h : Releasing s u n w) (hn : n < s.lines.length) : Releasing s u (n + 1) (releaseLine n w) := by
  have hl : s.lines[n]? = some s.lines[n] := List.getElem?_eq_getElem hn
  by_cases hres : ∃ k a b, s.lines[n].state = .reserved k a b
  · obtain ⟨k, a, b, hs⟩ := hres
    exact h.release hl hs
  · simp only [not_exists] at hres
    have hget : w.lines[n]? = some { s.lines[n] with mon := none } := by rw [h.lines]; exact changedUpTo_get _ _ hl
    have hsame : releaseLine n w = w := by
      unfold releaseLine
      rw [hget]
      simp only [Option.map_some]
      split
      · rename_i k a b hs
        exact absurd (Option.some.inj hs) (hres k a b)
      · rfl
    rw [hsame]
    exact h.skip hl hres

theorem releasing_all (h : Releasing s u 0 w) : ∀ n, n ≤ s.lines.length →
    Releasing s u n ((List.range n).foldl (fun s i => releaseLine i s) w)
  | 0, _ => h
  | n + 1, hn => by
    rw [List.range_succ, List.foldl_append]
    exact (releasing_all h n (Nat.le_of_succ_le hn)).step hn

/-- Every reservation of s is released after the withdrawals. -/
theorem Withdrawing.released {fs : List TimedFrame} (h : Withdrawing s fs [] u) :
    Releasing s u s.lines.length (releaseReservations u) := by
  have hlen : u.lines.length = s.lines.length := by rw [h.lines, List.length_map]
  unfold releaseReservations
  rw [hlen]
  refine releasing_all ⟨h.session, ?_, rfl, rfl, rfl, rfl, ⟨[], fun k => ?_, rfl⟩, fun _ i l k a b hi => ?_,
    List.prefix_refl _⟩ _ le_rfl
  · rw [changedUpTo_zero]
    exact h.lines
  · simp [ReservedBelow]
  · exact absurd hi (Nat.not_lt_zero i)

end

end Sys2Proof.Machine
end

section
/-! # Entry to LOST put together (R8), and the obligations of the encoder fault and the HOME pulse -/

namespace Sys2Proof.Machine

open Sys2Proof

/-! ## Which confirmations the withdrawals end (R111) -/

theorem unawaited_subset (c : Chute) (ds : List WaitingDrop) : c.unawaited ds ⊆ c.awaiting := by
  induction ds using List.reverseRecOn with
  | nil => exact List.Subset.refl _
  | append_singleton ds x ih =>
    rw [c.unawaited_append]
    exact fun a ha => ih (List.mem_of_mem_eraseP ha)

/-- A confirmation that no drop of these names still stands. -/
theorem mem_unawaited {c : Chute} {a : Confirmation} (ha : a ∈ c.awaiting) : ∀ {ds : List WaitingDrop},
    (∀ x ∈ ds, ¬ (x.tray = a.tray ∧ x.seq = a.seq)) → a ∈ c.unawaited ds := by
  intro ds
  induction ds using List.reverseRecOn with
  | nil => exact fun _ => ha
  | append_singleton ds x ih =>
    intro h
    rw [c.unawaited_append]
    refine (List.mem_eraseP_of_neg ?_).2 (ih fun y hy => h y (List.mem_append_left _ hy))
    intro hb
    obtain ⟨htray, hseq⟩ : a.tray = x.tray ∧ a.seq = x.seq := by simpa using hb
    exact h x (by simp) ⟨htray.symm, hseq.symm⟩

/-- Of the drops that name a confirmation, the first in the queue ends it. -/
theorem doubtedIn_iff (s : State) (k : Nat) : DoubtedIn s s.link.timing k ↔ s.Doubted k := by
  constructor
  · rintro ⟨j, c, before, after, x, hc, h0, hds, rfl, haw⟩
    obtain ⟨a, ha, hax⟩ := List.any_eq_true.1 haw
    obtain ⟨htray, hseq⟩ : a.tray = x.tray ∧ a.seq = x.seq := by simpa using hax
    exact ⟨j, c, hc, h0, x, by rw [dropsFor_eq, hds]; simp, rfl, a, unawaited_subset c before ha, htray, hseq⟩
  · rintro ⟨j, c, hc, h0, x, hx, rfl, a, ha, htray, hseq⟩
    rw [dropsFor_eq] at hx
    have hex : ((dropsIn s.link.timing j).find? (fun y => y.tray == a.tray && y.seq == a.seq)).isSome = true :=
      List.find?_isSome.2 ⟨x, hx, by simp [htray, hseq]⟩
    obtain ⟨y, hy⟩ := Option.isSome_iff_exists.1 hex
    obtain ⟨hp, before, after, hds, hbefore⟩ := List.find?_eq_some_iff_append.1 hy
    obtain ⟨hytray, hyseq⟩ : y.tray = a.tray ∧ y.seq = a.seq := by simpa using hp
    have hstill : a ∈ c.unawaited before := mem_unawaited ha fun z hz hza => by simpa [hza] using hbefore z hz
    exact ⟨j, c, before, after, y, hc, h0, hds, hytray.trans htray,
      List.any_eq_true.2 ⟨a, hstill, by simp [hytray, hyseq]⟩⟩

/-! ## What becomes of a tray -/

theorem Tray.doubted_idem (x : Tray) : x.doubted.doubted = x.doubted := by
  unfold Tray.doubted Tray.changed
  by_cases h : x.state = .dropping
  · rw [if_pos h]
    rfl
  · rw [if_neg h, if_neg h]

theorem Tray.vacated_idem (x : Tray) : x.vacated.vacated = x.vacated := by
  unfold Tray.vacated Tray.changed
  by_cases h : x.state = .reserved
  · rw [if_pos h]
    rfl
  · rw [if_neg h, if_neg h]

section
variable (x : Tray)

theorem Tray.recirculated_of_ne (h : x.state ≠ .routed) : x.recirculated = x := if_neg h
theorem Tray.doubted_of_ne (h : x.state ≠ .dropping) : x.doubted = x := if_neg h
theorem Tray.vacated_of_ne (h : x.state ≠ .reserved) : x.vacated = x := if_neg h
theorem Tray.recirculated_of_eq (h : x.state = .routed) :
    x.recirculated = { x with state := .recirculate, target := none, seq := none } := if_pos h
theorem Tray.doubted_of_eq (h : x.state = .dropping) : x.doubted = { x with state := .doubt } := if_pos h
theorem Tray.vacated_of_eq (h : x.state = .reserved) : x.vacated = Tray.blank .empty := if_pos h

end

/-- The trays after cancellation, withdrawal and release. -/
structure TraysEmptied (s t : State) (os ds rs : List Nat) : Prop where
  orders : os = orderTrays s.carts.chutes
  doubts : ∀ k, k ∈ ds ↔ s.Doubted k
  reserves : ∀ k, k ∈ rs ↔ ReservedBelow s s.lines.length k
  trays : t.trays =
    traysAfter Tray.vacated rs (traysAfter Tray.doubted ds (traysAfter Tray.recirculated os s.trays))

section
variable {s t : State} {os ds rs : List Nat} {k : Nat} {x : Tray}

theorem TraysEmptied.get (h : TraysEmptied s t os ds rs) (hx : s.trays[k]? = some x) :
    t.trays[k]? = some
      (let y := if k ∈ os then x.recirculated else x
       let z := if k ∈ ds then y.doubted else y
       if k ∈ rs then z.vacated else z) := by
  rw [h.trays, traysAfter_getElem? Tray.vacated_idem, traysAfter_getElem? Tray.doubted_idem,
    traysAfter_getElem? Tray.recirculated_idem, hx]
  rfl

theorem TraysEmptied.get_of_routed (h : TraysEmptied s t os ds rs) (hx : s.trays[k]? = some x) (hs : x.state = .routed) :
    t.trays[k]? = some (if k ∈ os then { x with state := .recirculate, target := none, seq := none } else x) := by
  rw [h.get hx]
  by_cases hk : k ∈ os
  · simp [hk, x.recirculated_of_eq hs, Tray.doubted, Tray.vacated, Tray.changed]
  · simp [hk, x.doubted_of_ne (by simp [hs]), x.vacated_of_ne (by simp [hs])]

theorem TraysEmptied.get_of_dropping (h : TraysEmptied s t os ds rs) (hx : s.trays[k]? = some x) (hs : x.state = .dropping) :
    t.trays[k]? = some (if k ∈ ds then { x with state := .doubt } else x) := by
  rw [h.get hx]
  by_cases hk : k ∈ ds
  · simp [hk, x.recirculated_of_ne (by simp [hs]), x.doubted_of_eq hs, Tray.vacated, Tray.changed]
  · simp [hk, x.recirculated_of_ne (by simp [hs]), x.vacated_of_ne (by simp [hs])]

theorem TraysEmptied.get_of_reserved (h : TraysEmptied s t os ds rs) (hx : s.trays[k]? = some x) (hs : x.state = .reserved) :
    t.trays[k]? = some (if k ∈ rs then Tray.blank .empty else x) := by
  rw [h.get hx]
  simp [x.recirculated_of_ne (by simp [hs]), x.doubted_of_ne (by simp [hs]), x.vacated_of_eq hs]

theorem TraysEmptied.get_of_other (h : TraysEmptied s t os ds rs) (hx : s.trays[k]? = some x) (h1 : x.state ≠ .routed)
    (h2 : x.state ≠ .reserved) (h3 : x.state ≠ .dropping) : t.trays[k]? = some x := by
  rw [h.get hx]
  simp [x.recirculated_of_ne h1, x.doubted_of_ne h3, x.vacated_of_ne h2]

end

theorem mem_orderTrays {cs : List Chute} {k : Nat} : k ∈ orderTrays cs ↔ ∃ c ∈ cs, ∃ o ∈ c.queue, o.tray = k := by
  simp [orderTrays, List.mem_flatMap]

/-! ## The notices of withdrawn drops (R131) -/

section
variable {c : Chute} {j : Nat} {ds : List WaitingDrop} {x : WaitingDrop}

/-- The entry stands in the current cart. -/
theorem undoneNotice_failed {e : CartEntry} (hcart : c.hasCart = true) (hserial : c.serial = some x.serial)
    (he : (c.undone ds).find? (CartEntry.names x.tray x.seq) = some e) :
    c.undoneNotice j ds x = dropNotice .dropFailed j x.serial x.tray e.tag := by
  have hentry : c.undoneEntry ds x = some e := (if_pos ⟨hcart, hserial⟩).trans he
  rw [Chute.undoneNotice, hentry]

/-- The cart is no longer the current one, or holds no such entry. -/
theorem undoneNotice_correction
    (hno : c.hasCart = false ∨ c.serial ≠ some x.serial ∨ ∀ e ∈ c.undone ds, e.tray = x.tray → e.seq ≠ x.seq) :
    c.undoneNotice j ds x = dropNotice .correction j x.serial x.tray x.tag := by
  have hentry : c.undoneEntry ds x = none := by
    unfold Chute.undoneEntry
    split
    · rename_i hcur
      obtain ⟨hcart, hserial⟩ := hcur
      refine List.find?_eq_none.2 fun e he hnames => ?_
      obtain ⟨htray, hseq⟩ : e.tray = x.tray ∧ e.seq = x.seq := by simpa [CartEntry.names] using hnames
      rcases hno with hno | hno | hno
      · cases hcart.symm.trans hno
      · exact hno hserial
      · exact hno e he htray hseq
    · rfl
  rw [Chute.undoneNotice, hentry]

end

/-! ## Everything that LOST takes away (R8) -/

/-- The blocks after cancellation, withdrawal and release, whatever notices and latch follow. -/
theorem emptied_of_released {s u w t : State} (hu : Withdrawing s s.link.timing [] u)
    (hw : Releasing s u s.lines.length w) (hn : t.NoneArmed) (ht : t = { w with tracker := t.tracker, mgmt := t.mgmt })
    (hm : w.mgmt.notices <+: t.mgmt.notices) : Emptied s t := by
  obtain ⟨ds, hds, hutrays⟩ := hu.trays
  obtain ⟨rs, hrs, hwtrays⟩ := hw.trays
  have htrays : TraysEmptied s t (orderTrays s.carts.chutes) ds rs :=
    ⟨rfl, fun k => (hds k).trans (doubtedIn_iff s k), hrs, by rw [ht, ← hutrays]; exact hwtrays⟩
  have hcarts : t.carts = { s.carts with chutes := s.carts.chutes.mapIdx (fun j c => c.emptied (s.dropsFor j)) } := by
    have hdrops : s.dropsFor = dropsIn s.link.timing := funext (dropsFor_eq s)
    rw [ht, hdrops]
    exact hw.carts.trans hu.carts
  have hlines : t.lines = s.lines.map (Line.released s.mode) := by
    rw [ht]
    exact hw.lines.trans (changedUpTo_length _ _ _)
  have hlink : t.link = w.link := by rw [ht]
  constructor
  case monitors => exact hn
  case orders =>
    intro c hc
    rw [hcarts] at hc
    obtain ⟨j, hj, rfl⟩ := List.mem_mapIdx.1 hc
    rfl
  case drops =>
    intro f hf
    rw [hlink, hw.timing, hu.timing, List.append_nil] at hf
    simpa using (List.mem_filter.1 hf).2
  case carts => exact hcarts
  case sched =>
    rw [ht]
    exact hw.sched.trans hu.sched
  case routed =>
    intro c hc o ho x hx hs
    rw [htrays.get_of_routed hx hs, if_pos (mem_orderTrays.2 ⟨c, hc, o, ho, rfl⟩)]
  case unordered =>
    intro k x hx hs hno
    rw [htrays.get_of_routed hx hs, if_neg]
    rintro hk
    obtain ⟨c, hc, o, ho, rfl⟩ := mem_orderTrays.1 hk
    exact hno c hc o ho rfl
  case dropping =>
    intro k x hx hs
    rw [htrays.get_of_dropping hx hs, ← htrays.doubts]
    exact ⟨fun hd => by rw [if_pos hd], fun hd => by rw [if_neg hd]⟩
  case lines =>
    intro i l hl
    have hget : t.lines[i]? = some (l.released s.mode) := by rw [hlines, List.getElem?_map, hl, Option.map_some]
    have hi : i < s.lines.length := (List.getElem?_eq_some_iff.1 hl).1
    split
    · rename_i k a b hs
      refine ⟨hget.trans (congrArg some (Line.released_reserved hs)), fun hmode => ?_, fun x hx hxs => ?_⟩
      · rw [hlink]
        exact hw.irefs hmode i l k a b hi hl hs
      · rw [htrays.get_of_reserved hx hxs, if_pos ((htrays.reserves k).2 ⟨i, l, a, b, hi, hl, hs⟩)]
    · rename_i hno
      exact hget.trans (congrArg some (Line.released_other hno))
  case unreserved =>
    intro k x hx hs hno
    rw [htrays.get_of_reserved hx hs, if_neg]
    rw [htrays.reserves]
    rintro ⟨i, l, a, b, -, hl, hls⟩
    exact hno l (List.mem_of_getElem? hl) a b hls
  case others =>
    intro k x hx h1 h2 h3
    exact htrays.get_of_other hx h1 h2 h3
  case strays =>
    rw [ht]
    exact hw.strays.trans hu.strays
  case undoneNotices =>
    intro hroom j c before after x hc h0 hdrops
    have hpre : u.mgmt.notices <+: t.mgmt.notices := hw.notices.trans hm
    have hmem := hpre.subset (hu.notices (hpre.length_le.trans_lt hroom) j c before after x hc h0 (dropsFor_eq s j ▸ hdrops))
    refine ⟨fun e hcart hserial he => ?_, fun hno => ?_⟩
    · rw [undoneNotice_failed hcart hserial he] at hmem
      exact hmem
    · rw [undoneNotice_correction hno] at hmem
      exact hmem

/-! ## The notices and the latch (R8, R16, R17) -/

theorem Mgmt.push_of_room {m : Mgmt} {n : Notice} (h : (m.push n).notices.length < 64) :
    (m.push n).notices = m.notices ++ [n] := by
  have hroom : m.notices.length < Config.noticesMax := (m.push_prefix n).length_le.trans_lt h
  unfold Mgmt.push
  rw [if_pos hroom]

/-- The notices of the STOP latch: STOP_ASSERTED where it was not set, then STOP_SEEN where the level changes. -/
def State.latchNotices (s : State) (c : StopCause) : List Notice :=
  if s.tracker.latch = none then
    [s.stamp c.notice] ++
      (if s.tracker.stopIn = true ∧ s.tracker.stopOut = true ∧ s.pins.stopHeld = false then
        [s.stamp (Notice.of (.stopSeen true))]
      else [])
  else []

theorem setLatch_notices {c : StopCause} {s : State} (h : (setLatch c s).mgmt.notices.length < 64) :
    (setLatch c s).mgmt.notices = s.mgmt.notices ++ s.latchNotices c := by
  rw [setLatch_eq] at h ⊢
  unfold State.latchNotices
  by_cases hlatch : s.tracker.latch = none
  · simp only [if_pos hlatch, State.latchSet] at h ⊢
    split at h
    · rename_i hseen
      rw [if_pos hseen, if_pos hseen, Mgmt.push_of_room h, Mgmt.push_of_room ((Mgmt.push_prefix _ _).length_le.trans_lt h)]
      simp
    · rename_i hseen
      rw [if_neg hseen, if_neg hseen, Mgmt.push_of_room h, List.append_nil]
  · simp [hlatch]

/-- A state kept but for what the latch takes. -/
theorem Kept.setLatch {s w : State} (h : Kept s w) (c : StopCause) :
    Kept { s with tracker := { s.tracker with latch := some (s.tracker.latch.getD c) } } (Machine.setLatch c w) := by
  have hlatch : w.tracker.latch = s.tracker.latch := (congrArg Tracker.latch h.tracker :)
  have hm : Kept w { w with mgmt := if w.tracker.latch = none then w.latchSet c else w.mgmt } := by
    unfold State.latchSet
    split_ifs
    · exact (notify_frame c.notice w).trans (notify_frame (Notice.of (.stopSeen true)) _)
    · exact notify_frame c.notice w
    · exact .refl w
  obtain ⟨h1, h2, h3, h4, h5, h6, h7, h8, h9, h10, h11⟩ := h.trans hm
  rw [setLatch_eq]
  refine ⟨h1, h2, h3, h4, ?_, h6, h7, h8, h9, h10, h11⟩
  rw [hlatch]
  exact congrArg (fun x : Tracker => { x with latch := some (s.tracker.latch.getD c) }) h5

/-! ## Entry to LOST (R8) -/

/-- Cancellation, withdrawal and release at the entry to LOST. -/
def lostReleased (s : State) : State :=
  releaseReservations (withdrawDrops (cancelAll (disarmAll (withTracker { s.tracker with state := .lost } s))))

theorem enterLost_eq (cause : StopCause) (s : State) :
    enterLost cause s = setLatch cause (notify (lostNotice cause) (lostReleased s)) := rfl

theorem disarmAll_frame (s : State) : Kept s (disarmAll s) := .of rfl rfl rfl rfl rfl rfl rfl rfl

theorem lostReleased_frame (s : State) :
    Kept { s with tracker := { s.tracker with state := .lost } } (lostReleased s) :=
  (((disarmAll_frame (withTracker { s.tracker with state := .lost } s)).trans (cancelAll_frame _)).trans
    (withdrawDrops_frame _)).trans (releaseReservations_frame _)

theorem enterLost_noneArmed (cause : StopCause) (s : State) : (enterLost cause s).NoneArmed := by
  have h := ((((cancelAll_rearmed (b := False) (disarmAll (withTracker { s.tracker with state := .lost } s))).trans
    (withdrawDrops_rearmed _)).trans (releaseReservations_rearmed _)).trans
    (notify_rearmed (lostNotice cause) _)).trans (setLatch_rearmed cause _)
  exact h.quiet rfl (disarmAll_noneArmed _)

section
variable {s : State} (hs : s.SessionLaw)
include hs

theorem lostReleased_parts : ∃ u, Withdrawing s s.link.timing [] u ∧ Releasing s u s.lines.length (lostReleased s) := by
  have hu := (withdrawing_cancelAll hs { s.tracker with state := .lost }).run s.link.timing
  have htiming : (cancelAll (disarmAll (withTracker { s.tracker with state := .lost } s))).link.timing = s.link.timing := by
    rw [cancelAll_eq]
    rfl
  have hdrops : withdrawEach s.link.timing (cancelAll (disarmAll (withTracker { s.tracker with state := .lost } s))) =
      withdrawDrops (cancelAll (disarmAll (withTracker { s.tracker with state := .lost } s))) := by
    rw [withdrawDrops, htiming]
  rw [List.nil_append, hdrops] at hu
  exact ⟨_, hu, hu.released⟩

theorem enterLost_emptied (cause : StopCause) : Emptied s (enterLost cause s) := by
  obtain ⟨u, hu, hw⟩ := lostReleased_parts hs
  refine emptied_of_released hu hw (enterLost_noneArmed cause s) ?_ ?_
  · rw [enterLost_eq, setLatch_eq]
    rfl
  · rw [enterLost_eq]
    exact (notify_frame (lostNotice cause) (lostReleased s)).notices.trans
      ((Kept.refl (notify (lostNotice cause) (lostReleased s))).setLatch cause).notices

theorem enterLost_timing (cause : StopCause) :
    (enterLost cause s).link.timing = s.link.timing.filter (fun f => !f.body.isDrop) := by
  obtain ⟨u, hu, hw⟩ := lostReleased_parts hs
  rw [enterLost_eq, setLatch_eq]
  refine hw.timing.trans (hu.timing.trans (List.append_nil _))

omit hs in
theorem enterLost_frame (cause : StopCause) :
    Kept { s with tracker := { s.tracker with state := .lost, latch := some (s.tracker.latch.getD cause) } }
      (enterLost cause s) :=
  ((lostReleased_frame s).trans (notify_frame (lostNotice cause) _)).setLatch cause

theorem enterLost_notices (cause : StopCause) (hroom : (enterLost cause s).mgmt.notices.length < 64) :
    ∃ withdrawn, (enterLost cause s).mgmt.notices =
      s.mgmt.notices ++ withdrawn ++ [s.stamp (lostNotice cause)] ++ s.latchNotices cause := by
  obtain ⟨u, hu, hw⟩ := lostReleased_parts hs
  have hkept := lostReleased_frame s
  obtain ⟨withdrawn, hpre⟩ := hkept.notices
  have hclock : (lostReleased s).session.clock = s.session.clock := hw.session.clock
  have hlatch : (notify (lostNotice cause) (lostReleased s)).latchNotices cause = s.latchNotices cause := by
    have htracker := hkept.tracker
    have h1 : (lostReleased s).tracker.latch = s.tracker.latch := (congrArg Tracker.latch htracker :)
    have h2 : (lostReleased s).tracker.stopIn = s.tracker.stopIn := (congrArg Tracker.stopIn htracker :)
    have h3 : (lostReleased s).tracker.stopOut = s.tracker.stopOut := (congrArg Tracker.stopOut htracker :)
    have h4 : (lostReleased s).pins = s.pins := hkept.pins
    simp only [State.latchNotices, State.stamp, notify_tracker, notify_pins, notify_session, h1, h2, h3, h4, hclock]
  rw [enterLost_eq] at hroom ⊢
  have hnotify := setLatch_notices hroom
  have hroom' : (notify (lostNotice cause) (lostReleased s)).mgmt.notices.length < 64 :=
    ((Kept.refl (notify (lostNotice cause) (lostReleased s))).setLatch cause).notices.length_le.trans_lt hroom
  refine ⟨withdrawn, ?_⟩
  rw [hnotify, hlatch, notify_mgmt] at *
  rw [Mgmt.push_of_room hroom', ← hpre, hclock]
  rfl

end

end Sys2Proof.Machine
end

section
/-! # Encoder faults and HOME pulses (sections 1.2 and 1.3) -/

namespace Sys2Proof.Machine

open Sys2Proof

/-! ## An encoder fault (R4) -/

/-- Both phases of the pair have changed. -/
def State.bothToggled (s : State) : State := withPins { s.pins with encA := !s.pins.encA, encB := !s.pins.encB } s

section
variable {s : State}

theorem bothChange_unconfigured (h : s.tracker.state = .unconfigured) : bothChange s = s.bothToggled := by
  have hs : s.bothToggled.tracker.state = .unconfigured := h
  change encoderFault s.bothToggled = _
  rw [encoderFault, hs]

theorem bothChange_latched (h : s.tracker.state = .unsynced ∨ s.tracker.state = .lost) :
    bothChange s = setLatch .encoder s.bothToggled := by
  have hs : s.bothToggled.tracker.state = .unsynced ∨ s.bothToggled.tracker.state = .lost := h
  change encoderFault s.bothToggled = _
  rcases hs with hs | hs <;> rw [encoderFault, hs]

theorem bothChange_tracking (h : s.isTracking = true) : bothChange s = enterLost .encoder s.bothToggled := by
  have htrack : s.tracker.state = .tracking := by simpa [State.isTracking] using h
  have hs : s.bothToggled.tracker.state = .tracking := htrack
  change encoderFault s.bothToggled = _
  rw [encoderFault, hs]

theorem bothChange_pins (s : State) : (bothChange s).pins = { s.pins with encA := !s.pins.encA, encB := !s.pins.encB } := by
  cases hs : s.tracker.state with
  | unconfigured => rw [bothChange_unconfigured hs]; rfl
  | unsynced => rw [bothChange_latched (.inl hs), setLatch_eq]; rfl
  | lost => rw [bothChange_latched (.inr hs), setLatch_eq]; rfl
  | tracking =>
    rw [bothChange_tracking (by simp [State.isTracking, hs])]
    exact (enterLost_frame (s := s.bothToggled) .encoder).pins

/-- What LOST takes away is the same whatever the encoder pins. -/
theorem Emptied.of_bothToggled {t : State} (h : Emptied s.bothToggled t) : Emptied s t :=
  ⟨h.monitors, h.orders, h.drops, h.carts, h.sched, h.routed, h.unordered, h.dropping, h.lines, h.unreserved, h.others, h.strays,
    h.undoneNotices⟩

end

/-- Settles O7. -/
theorem encoderFault_holds : Obligations.EncoderFault := by
  unfold Obligations.EncoderFault
  intro s
  refine ⟨bothChange s, rfl, bothChange_pins s, fun h => ?_, fun h => ⟨?_, fun hl => ?_, fun hl => ?_⟩, fun h hs => ?_⟩
  · rw [bothChange_unconfigured h]
    rfl
  · rw [bothChange_latched h, setLatch_eq]
    rfl
  · rw [bothChange_latched h, setLatch_eq]
    exact if_neg hl
  · rw [bothChange_latched h, setLatch_eq]
    exact if_pos hl
  · have hs' : s.bothToggled.SessionLaw := hs
    rw [bothChange_pins s, bothChange_tracking h]
    exact ⟨enterLost_frame (s := s.bothToggled) .encoder, enterLost_timing hs' .encoder,
      (enterLost_emptied hs' .encoder).of_bothToggled, enterLost_notices hs' .encoder⟩

/-! ## A HOME pulse (R5, R6) -/

section
variable {s : State} {g : Geometry}

theorem homePulse_tracking (ht : s.isTracking = true) (hg : s.tracker.geo = some g) : homePulse s = driftCheck g s := by
  have hs : s.tracker.state = .tracking := by simpa [State.isTracking] using ht
  simp only [homePulse, hs, hg]

theorem homePulse_resync (h : s.tracker.state = .unsynced ∨ s.tracker.state = .lost) :
    homePulse s = resync s.tracker.state s := by
  rcases h with h | h <;> simp only [homePulse, h]

/-- The error is within the drift tolerance. -/
theorem natAbs_le_iff (e : Int) (n : Nat) : e.natAbs ≤ n ↔ -(n : Int) ≤ e ∧ e ≤ n := by
  omega

/-- A home correction takes the chain as moved to displacement 0 (R6). -/
theorem movedTo_zero (g : Geometry) (d : Nat) : g.MovedTo d (-(g.error d)).toNat 0 := by
  intro hne
  have herr : g.error d = (d : Int) - g.loop ∧ d < g.loop := by
    unfold Geometry.error at hne ⊢
    split at hne
    · omega
    · rename_i hd
      rw [if_neg hd]
      exact ⟨rfl, by omega⟩
  obtain ⟨herr, hlt⟩ := herr
  have hsum : d + (-(g.error d)).toNat = g.loop := by omega
  rw [hsum, Nat.mod_self, Nat.zero_mod]

theorem driftCheck_within (h : -(g.driftTol : Int) ≤ g.error s.tracker.disp ∧ g.error s.tracker.disp ≤ g.driftTol) :
    driftCheck g s = correctHome (g.error s.tracker.disp) s := if_pos ((natAbs_le_iff _ _).2 h)

theorem driftCheck_beyond (h : g.error s.tracker.disp < -(g.driftTol : Int) ∨ (g.driftTol : Int) < g.error s.tracker.disp) :
    driftCheck g s = enterLost (.drift (g.error s.tracker.disp)) s := by
  refine if_neg ?_
  rw [natAbs_le_iff]
  omega

/-- Settles O8. -/
theorem homePulse_holds : Obligations.HomePulse := by
  unfold Obligations.HomePulse
  intro s
  refine ⟨homePulse s, rfl, fun h => ?_, fun h u hu => ?_, fun ht g hg e he => ?_⟩
  · simp only [homePulse, h]
  · rw [homePulse_resync h]
    obtain rfl : u = notify (Notice.of (.trackSync s.tracker.state))
        (withTracker { s.tracker with disp := 0, state := .tracking } s) := hu
    exact ⟨freshArm_frame _, freshArm_freshlyArmed _⟩
  · obtain rfl : e = g.error s.tracker.disp := he
    rw [homePulse_tracking ht hg]
    refine ⟨fun hin u hu => ?_, fun hout hs => ?_⟩
    · obtain rfl : u = withTracker { s.tracker with disp := 0, homeCorrection := g.error s.tracker.disp } s := hu
      rw [driftCheck_within hin]
      exact ⟨movedForward_frame _ _, fun hL => movedForward_chainMoved hL (movedTo_zero g s.tracker.disp) hg⟩
    · rw [driftCheck_beyond hout]
      exact ⟨enterLost_frame _, enterLost_timing hs _, enterLost_emptied hs _, enterLost_notices hs _⟩

end

end Sys2Proof.Machine
end

section
/-! # The induction lines: BRDY, the launch monitor, LDON and the search (sections 2.2 to 2.5) -/

namespace Sys2Proof.Machine

open Sys2Proof

/-! ## Unsent IREF frames (R31, R181) -/

theorem placeIref_irefPlaced (r : Iref) (l : List Iref) : IrefPlaced r l (placeIref r l) := by
  refine ⟨fun h => ?_, fun before x after hl hx hothers => ?_⟩
  · have hno : l.any (fun x => x.line == r.line) = false := by simpa using h
    simp [placeIref, hno]
  · have hother : ∀ m : List Iref, (∀ y ∈ m, y.line ≠ r.line) → m.map (fun x => if x.line = r.line then r else x) = m :=
      fun m h => (List.map_congr_left fun y hy => if_neg (h y hy)).trans m.map_id
    have hany : l.any (fun x => x.line == r.line) = true := by simp [hl, hx]
    rw [placeIref, if_pos hany, hl, List.map_append, List.map_cons, if_pos hx,
      hother before fun y hy => hothers y (List.mem_append_left _ hy),
      hother after fun y hy => hothers y (List.mem_append_right _ hy)]

/-! ## Fields of a payload too short (R179; log 12) -/

theorem shortByte_lt (bytes : List Byte) (n free : Nat) : shortByte bytes n free < 256 := by
  unfold shortByte
  split
  · exact BitVec.isLt _
  · exact Nat.mod_lt _ (by decide)

theorem shortByte_head {bytes : List Byte} {b : Byte} (h : b ∈ bytes.head?) (free : Nat) : shortByte bytes 0 free = b.toNat := by
  obtain ⟨rest, rfl⟩ := List.head?_eq_some_iff.1 h
  rfl

theorem normTag_le (tag : Nat) : normTag tag ≤ Config.tagMax := by
  unfold normTag
  split
  · assumption
  · exact Nat.zero_le _

theorem shortTag_le (bytes : List Byte) (free : Nat) : shortTag bytes free ≤ Config.tagMax := by
  unfold shortTag
  split
  · exact normTag_le _
  · exact Nat.lt_succ_iff.1 (Nat.mod_lt _ (Nat.succ_pos _))

/-! ## BRDY (R30) -/

/-- The branches of a BRDY that is not taken, by the record of its line. -/
theorem takeBrdy_wrongNode {src line t1 t2 : Nat} {s : State}
    (h : ∀ (l : Line) (c : LineCfg), s.lines[line]? = some l → l.cfg = some c → c.station ≠ src) :
    takeBrdy src line t1 t2 s = notify (inductNotice .wrongNode line none t1) s := by
  unfold takeBrdy
  split
  · rfl
  · rename_i l hl
    split
    · rfl
    · rename_i c hc
      exact if_pos (h l c hl hc)

section
variable {src line t1 t2 : Nat} {s : State} {l : Line} {c : LineCfg}

theorem takeBrdy_owned (hl : s.lines[line]? = some l) (hc : l.cfg = some c) (hsrc : c.station = src) :
    takeBrdy src line t1 t2 s =
      if s.mode ≠ .sorting then raiseIref line t1 t2 .mode s
      else if c.enable = false then raiseIref line t1 t2 .lineOff s
      else if l.state ≠ .free then notify (inductNotice .brdyBusy line none t1) (raiseIref line t1 t2 .busy s)
      else attempt line (s.putLine line { l with state := .held t1 t2 }) := by
  obtain ⟨cfg, state, bar, mon, clamped⟩ := l
  obtain rfl : cfg = some c := hc
  unfold takeBrdy
  simp only [hl]
  rw [if_neg (by simp [hsrc]), modifyLine, set_eq_modify_of_get hl]
  rfl

end

/-- Settles O14. -/
theorem brdyRefused : Obligations.BrdyRefused := by
  unfold Obligations.BrdyRefused
  refine ⟨fun src bytes s => ⟨shortBrdy bytes s, _, _, rfl, shortByte_lt _ _ _, shortTag_le _ _,
    fun b hb => shortByte_head hb _, ?_, rfl⟩, ?_⟩
  · rintro b0 b1 b2 b3 b4 rest rfl n rfl
    rfl
  · rintro src line tag1 tag2 _ _ s rfl rfl
    refine ⟨takeBrdy src line (normTag tag1) (normTag tag2) s, rfl, fun h => takeBrdy_wrongNode h, fun l c hl hc hsrc => ?_⟩
    rw [takeBrdy_owned hl hc hsrc]
    refine ⟨fun hm => ?mode, fun hm he => ?lineOff, fun hm he hf => ?busy⟩
    case mode =>
      rw [if_pos hm]
      exact ⟨rfl, placeIref_irefPlaced _ _⟩
    case lineOff =>
      rw [if_neg (by simp [hm]), if_pos he]
      exact ⟨rfl, placeIref_irefPlaced _ _⟩
    case busy =>
      rw [if_neg (by simp [hm]), if_neg (by simp [he]), if_pos hf]
      exact ⟨rfl, placeIref_irefPlaced _ _⟩

/-! ## The search of a line (R33) -/

/-- The trays at least a margin away, in increasing order of their approach distance. -/
def Geometry.beyond (g : Geometry) (d loc margin : Nat) : List (Nat × Nat) :=
  (g.byApproach d loc).filter (fun x => decide (margin ≤ x.1))

theorem mem_beyond {g : Geometry} {d loc margin : Nat} {x : Nat × Nat} :
    x ∈ g.beyond d loc margin ↔ (x.2 < g.trays ∧ x.1 = g.approach d x.2 loc) ∧ margin ≤ x.1 := by
  rw [Geometry.beyond, List.mem_filter, mem_byApproach, decide_eq_true_eq]

/-- The trays at least a margin away stand at increasing distances, no two at one. -/
theorem beyond_sorted (g : Geometry) (d loc margin : Nat) (hL : 0 < g.loop) :
    (g.beyond d loc margin).Pairwise (fun a b => a.1 < b.1) := by
  have hnodup : (g.byApproach d loc).Nodup :=
    (byApproach_perm g d loc).nodup_iff.2 (List.nodup_range.map fun _ _ h => congrArg Prod.snd h)
  refine List.Pairwise.filter _ (((byApproach_sorted g d loc).and hnodup).imp_of_mem fun {a b} ha hb h => ?_)
  obtain ⟨ha, ha'⟩ := mem_byApproach.1 ha
  obtain ⟨hb, hb'⟩ := mem_byApproach.1 hb
  refine lt_of_le_of_ne h.1 fun heq => h.2 ?_
  have : a.2 = b.2 := approach_inj g hL ha hb (by rw [← ha', ← hb', heq])
  exact Prod.ext heq this

/-- How many trays at least a margin away stand nearer than tray k: as many as stand before it in the order. -/
theorem nearer_length (g : Geometry) (d loc margin n : Nat) :
    ((List.range g.trays).filter (fun x => decide (margin ≤ g.approach d x loc ∧ g.approach d x loc < n))).length =
      ((g.beyond d loc margin).filter (fun x => decide (x.1 < n))).length := by
  have h := ((byApproach_perm g d loc).filter (fun x => decide (margin ≤ x.1 ∧ x.1 < n))).length_eq
  rw [List.filter_map, List.length_map] at h
  rw [Geometry.beyond, List.filter_filter]
  simp only [← Bool.decide_and, and_comm (b := margin ≤ _)]
  exact h.symm

/-- In a list of rising keys, those smaller than an element's stand before it. -/
theorem filter_lt_of_split {l before after : List (Nat × Nat)} {x : Nat × Nat} (h : l.Pairwise (fun a b => a.1 < b.1))
    (hl : l = before ++ x :: after) : l.filter (fun y => decide (y.1 < x.1)) = before := by
  subst hl
  obtain ⟨-, hafter, hbefore⟩ := List.pairwise_append.1 h
  have hself : before.filter (fun y => decide (y.1 < x.1)) = before :=
    List.filter_eq_self.2 fun y hy => decide_eq_true (hbefore y hy x List.mem_cons_self)
  have hnone : (x :: after).filter (fun y => decide (y.1 < x.1)) = [] := by
    refine List.filter_eq_nil_iff.2 fun y hy => ?_
    rcases List.mem_cons.1 hy with rfl | hy
    · simp
    · simpa using ((List.pairwise_cons.1 hafter).1 y hy).le
  rw [List.filter_append, hself, hnone, List.append_nil]

theorem trayEmpty_iff {s : State} {k : Nat} : s.trayEmpty k = true ↔ ∃ x, s.trays[k]? = some x ∧ x.state = .empty := by
  unfold State.trayEmpty
  cases s.trays[k]? <;> simp

/-- Tray k is one that a search of the line may choose: EMPTY and not in its yield bar (R33). -/
def State.Allocable (s : State) (l : Line) (k : Nat) : Prop := (∃ x, s.trays[k]? = some x ∧ x.state = .empty) ∧ k ∉ l.bar

theorem allocable_iff {s : State} {l : Line} {k : Nat} : (s.trayEmpty k && !l.bar.contains k) = true ↔ s.Allocable l k := by
  rw [Bool.and_eq_true, trayEmpty_iff]
  simp [State.Allocable]

section
variable {s : State} {g : Geometry} {l : Line} {c : LineCfg} {m : Nat}

theorem searchTray_eq (hm : m = leadOf s.tracker.speed c.delay + g.pitch) :
    s.searchTray g l c = (((g.beyond s.tracker.disp c.loc m).take 16).map Prod.snd).find?
      (fun k => s.trayEmpty k && !l.bar.contains k) := by
  subst hm
  rfl

/-- The tray that a search chooses stands among the 16 nearest beyond the margin, behind none that may be chosen. -/
theorem searchTray_found {k : Nat} (hm : m = leadOf s.tracker.speed c.delay + g.pitch) (h : s.searchTray g l c = some k) :
    s.Allocable l k ∧ ∃ before x after, g.beyond s.tracker.disp c.loc m = before ++ x :: after ∧ x.2 = k ∧ before.length < 16 ∧
      ∀ y ∈ before, ¬ s.Allocable l y.2 := by
  rw [searchTray_eq hm] at h
  obtain ⟨hp, as, bs, hsplit, has⟩ := List.find?_eq_some_iff_append.1 h
  obtain ⟨before, rest, htake, rfl, hrest⟩ := List.map_eq_append_iff.1 hsplit
  obtain ⟨x, after, rfl, hx, rfl⟩ := List.map_eq_cons_iff.1 hrest
  have hle := List.length_take_le 16 (g.beyond s.tracker.disp c.loc m)
  rw [htake, List.length_append, List.length_cons] at hle
  refine ⟨allocable_iff.1 hp, before, x, after ++ (g.beyond s.tracker.disp c.loc m).drop 16, ?_, hx, by omega, fun y hy => ?_⟩
  · rw [← List.cons_append, ← List.append_assoc, ← htake, List.take_append_drop]
  · rw [← allocable_iff]
    have hno := has y.2 (List.mem_map_of_mem hy)
    rw [Bool.not_eq_true'] at hno
    exact Bool.eq_false_iff.1 hno

theorem searchTray_lt {k : Nat} (h : s.searchTray g l c = some k) : k < g.trays := by
  obtain ⟨-, before, x, after, hsplit, rfl, -⟩ := searchTray_found rfl h
  exact (mem_beyond.1 (hsplit ▸ List.mem_append_right _ List.mem_cons_self)).1.1

/-- A search that chooses none finds none to choose among the 16 nearest beyond the margin. -/
theorem searchTray_missed (hm : m = leadOf s.tracker.speed c.delay + g.pitch) (h : s.searchTray g l c = none) :
    ∀ x ∈ (g.beyond s.tracker.disp c.loc m).take 16, ¬ s.Allocable l x.2 := by
  rw [searchTray_eq hm] at h
  intro x hx
  rw [← allocable_iff]
  exact List.find?_eq_none.1 h x.2 (List.mem_map_of_mem hx)

end

/-- Settles O16: the trays beyond the margin stand in strictly increasing order of their distance, so those nearer than a
tray are those before it. -/
theorem allocationSearch : Obligations.AllocationSearch := by
  unfold Obligations.AllocationSearch
  intro s g l c m hpitch hm
  have hsorted : 0 < g.trays → (g.beyond s.tracker.disp c.loc m).Pairwise (fun a b => a.1 < b.1) :=
    fun ht => beyond_sorted g s.tracker.disp c.loc m (Nat.mul_pos ht hpitch)
  refine ⟨fun k hk => ?_, fun hk k x hlt hfar hx hempty hbar => ?_⟩
  · obtain ⟨⟨hempty, hbar⟩, before, x, after, hsplit, rfl, hlen, hbefore⟩ := searchTray_found hm hk
    have hmem : x ∈ g.beyond s.tracker.disp c.loc m := hsplit ▸ List.mem_append_right _ List.mem_cons_self
    obtain ⟨⟨hlt, hx⟩, hfar⟩ := mem_beyond.1 hmem
    have hnear := filter_lt_of_split (hsorted (Nat.zero_lt_of_lt hlt)) hsplit
    rw [hx] at hfar hnear
    refine ⟨hlt, hempty, hbar, hfar, ?_, fun k' y hk' hfar' hcloser hy hys => ?_⟩
    · rw [nearer_length, hnear]
      exact hlen
    · have hin : (g.approach s.tracker.disp k' c.loc, k') ∈ before := by
        rw [← hnear, List.mem_filter, mem_beyond]
        exact ⟨⟨⟨hk', rfl⟩, hfar'⟩, decide_eq_true hcloser⟩
      by_contra hb
      exact hbefore _ hin ⟨⟨y, hy, hys⟩, hb⟩
  · have hmem : (g.approach s.tracker.disp k c.loc, k) ∈ g.beyond s.tracker.disp c.loc m := mem_beyond.2 ⟨⟨hlt, rfl⟩, hfar⟩
    obtain ⟨before, after, hsplit⟩ := List.append_of_mem hmem
    rw [nearer_length, filter_lt_of_split (hsorted (Nat.zero_lt_of_lt hlt)) hsplit]
    by_contra hlen
    refine searchTray_missed hm hk (g.approach s.tracker.disp k c.loc, k) ?_ ⟨⟨x, hx, hempty⟩, hbar⟩
    rw [hsplit, List.take_append, List.mem_append]
    refine .inr ?_
    rw [List.take_cons (by omega)]
    exact List.mem_cons_self

/-- Settles O15: the HELD line makes an attempt at once, and the monitor of a reservation stays armed, its tray being
farther away than the lead. -/
theorem brdyTaken : Obligations.BrdyTaken := by
  unfold Obligations.BrdyTaken
  intro src line t1 t2 s l c h1 h2 hl hc hsrc hm he hf
  have hn1 : normTag t1 = t1 := if_pos h1
  have hn2 : normTag t2 = t2 := if_pos h2
  have htake : brdyOp src (.full { line := line, tag1 := t1, tag2 := t2 }) s =
      attempt line (s.putLine line { l with state := .held t1 t2 }) := by
    simp only [brdyOp, hn1, hn2]
    rw [takeBrdy_owned hl hc hsrc, if_neg (by simp [hm]), if_neg (by simp [he]), if_neg (by simp [hf])]
  have hget := putLine_get (m := { l with state := .held t1 t2 }) hl
  refine ⟨attempt line (s.putLine line { l with state := .held t1 t2 }), congrArg done htake, fun hno => ?_,
    fun g hg hpitch hmay => ⟨fun hk => ?_, fun k hk => ?_⟩⟩
  · exact if_neg (Bool.eq_false_iff.1 hno)
  · exact attempt_none (s := s.putLine line { l with state := .held t1 t2 }) hg hget hc rfl hk
  · have hk' : (s.putLine line { l with state := .held t1 t2 }).searchTray g { l with state := .held t1 t2 } c = some k := hk
    have hL : 0 < g.loop := Nat.mul_pos (Nat.zero_lt_of_lt (searchTray_lt hk')) hpitch
    rw [attempt_some (s := s.putLine line { l with state := .held t1 t2 }) hmay hg hget hc rfl hk',
      reserveTray_eq (s := s.putLine line { l with state := .held t1 t2 }) hL hg hget hc hk']
    simp only [State.reserved, State.putLine, List.set_set]
    rfl

/-! ## The launch monitor (R35, R36) -/

section
variable {s : State} {i k t1 t2 : Nat} {l : Line} {c : LineCfg} {x : Tray}

/-- The state with tray k and line i replaced. -/
def State.putPair (s : State) (k : Nat) (x : Tray) (i : Nat) (l : Line) : State :=
  { s with trays := s.trays.set k x, lines := s.lines.set i l }

theorem drainWatch_mode_ne_sorting {s : State} (h : s.mode ≠ .sorting) : (drainWatch s).mode ≠ .sorting := by
  unfold State.mode drainWatch
  split_ifs
  · exact nofun
  · exact h

/-- The reservation of a line released: the tray EMPTY, and the request held again or dropped (R36, R41). -/
theorem releaseLine_reserved (hl : s.lines[i]? = some l) (hs : l.state = .reserved k t1 t2) (hx : s.trays[k]? = some x)
    (hxs : x.state = .reserved) :
    releaseLine i s =
      holdAgain i t1 t2 (drainWatch (s.putPair k (Tray.blank .empty) i { l with mon := none })) := by
  unfold releaseLine
  rw [hl, Option.map_some, hs]
  change holdAgain i t1 t2 (changeTray k .reserved (fun _ => Tray.blank .empty) (modifyLine i (fun l => { l with mon := none }) s)) = _
  rw [changeTray_made (s := modifyLine i (fun l => { l with mon := none }) s) hx hxs, settleTray_away _ (.inl rfl), modifyLine,
    set_eq_modify_of_get hl, hs]
  rfl

theorem putPair_get (hl : s.lines[i]? = some l) (k : Nat) (x : Tray) (m : Line) : (s.putPair k x i m).lines[i]? = some m :=
  putLine_get (s := s) hl

/-- In SORTING, with the drain watch disarmed, the request is held again. -/
theorem releaseLine_held (hl : s.lines[i]? = some l) (hs : l.state = .reserved k t1 t2) (hx : s.trays[k]? = some x)
    (hxs : x.state = .reserved) (hm : s.mode = .sorting) (hw : s.session.watch = false) :
    releaseLine i s = s.putPair k (Tray.blank .empty) i { l with state := .held t1 t2, mon := none } := by
  have hoff : (s.putPair k (Tray.blank .empty) i { l with mon := none }).drainDone = false := drainDone_unwatched hw
  rw [releaseLine_reserved hl hs hx hxs, drainWatch_off hoff]
  refine (if_pos hm).trans ?_
  rw [modifyLine, set_eq_modify_of_get (putPair_get hl _ _ _)]
  simp [State.putPair]

/-- In any other mode the request is dropped with IREF, reason MODE. -/
theorem releaseLine_refused (hl : s.lines[i]? = some l) (hs : l.state = .reserved k t1 t2) (hx : s.trays[k]? = some x)
    (hxs : x.state = .reserved) (hm : s.mode ≠ .sorting) :
    releaseLine i s =
      drainWatch (raiseIref i t1 t2 .mode (s.putPair k (Tray.blank .empty) i { l with state := .free, mon := none })) := by
  have hm' : (drainWatch (s.putPair k (Tray.blank .empty) i { l with mon := none })).mode ≠ .sorting :=
    drainWatch_mode_ne_sorting hm
  have hmodify : modifyLine i (fun l => { l with state := .free }) (s.putPair k (Tray.blank .empty) i { l with mon := none }) =
      s.putPair k (Tray.blank .empty) i { l with state := .free, mon := none } := by
    rw [modifyLine, set_eq_modify_of_get (putPair_get hl _ _ _)]
    simp [State.putPair]
  rw [releaseLine_reserved hl hs hx hxs, ← hmodify]
  exact if_neg hm'

/-- LNCH sent: the tray LAUNCHING, the line LAUNCHED with its tags (R35). -/
theorem sendLaunch_eq (hl : s.lines[i]? = some l) (hc : l.cfg = some c) (hx : s.trays[k]? = some x) (hxs : x.state = .reserved) :
    sendLaunch i k t1 t2 s =
      queueTimed c.station (.lnch i k)
        (s.putPair k { x with state := .launching } i { l with state := .launched k t1 t2, mon := none }) := by
  have hst : s.lineStation i = c.station := by simp [State.lineStation, hl, hc]
  unfold sendLaunch
  rw [hst, changeTray_made (s := queueTimed c.station (.lnch i k) s) hx hxs, settleTray_aboard _ (by simp) (by simp), modifyLine]
  have hl' : (putTray k { x with state := .launching } (queueTimed c.station (.lnch i k) s)).lines[i]? = some l := hl
  rw [set_eq_modify_of_get hl']
  rfl

/-- What an evaluation does by its decision, of a RESERVED line: LNCH, or the reservation released. -/
theorem evalLaunch_reserved (adv : Nat) (hl : s.lines[i]? = some l) (hs : l.state = .reserved k t1 t2) :
    (s.launchDecision adv i = .fire → s.link.timing.length < 16 → evalLaunch adv i s = sendLaunch i k t1 t2 s) ∧
    ((s.launchDecision adv i = .miss ∨ (s.launchDecision adv i = .fire ∧ 16 ≤ s.link.timing.length)) →
      evalLaunch adv i s = releaseLine i s) := by
  have hstate : (s.lines[i]?).map Line.state = some (.reserved k t1 t2) := by rw [hl, Option.map_some, hs]
  have hfire : s.launchDecision adv i = .fire →
      evalLaunch adv i s = if s.timingRoom then sendLaunch i k t1 t2 s else releaseLine i s := by
    intro h
    simp only [evalLaunch, h, launchFire, hstate]
  refine ⟨fun h hroom => ?_, fun h => ?_⟩
  · rw [hfire h]
    exact if_pos (decide_eq_true hroom)
  · rcases h with h | ⟨h, hfull⟩
    · simp only [evalLaunch, h]
    · rw [hfire h]
      exact if_neg fun hroom => absurd (of_decide_eq_true hroom) (Nat.not_lt.2 hfull)

end

/-- Settles O17. -/
theorem launchDecided : Obligations.LaunchDecided := by
  unfold Obligations.LaunchDecided
  intro adv i k t1 t2 s l c x hl hc hs hx hxs
  obtain ⟨hfire, hback⟩ := evalLaunch_reserved adv hl hs
  refine ⟨fun hstay => ?_, fun h hroom => ?_, fun h hm hw => ?_, fun h hm => ⟨_, placeIref_irefPlaced _ _, ?_⟩⟩
  · simp only [evalLaunch, hstay]
  · rw [hfire h hroom, sendLaunch_eq hl hc hx hxs]
    rfl
  · rw [hback h, releaseLine_held hl hs hx hxs hm hw]
    rfl
  · rw [hback h, releaseLine_refused hl hs hx hxs hm]
    rfl

/-! ## LDON (R37, R39) -/

theorem launchingFrom_iff {s : State} {k i : Nat} :
    s.launchingFrom k i = true ↔ ∃ x, s.trays[k]? = some x ∧ x.state = .launching ∧ x.source = some i := by
  unfold State.launchingFrom
  cases s.trays[k]? <;> simp

/-- An LDON whose line's record is not LAUNCHED with a tray that answers to it, or whose outcome is none of the two. -/
theorem takeLdon_unmatched {src : Nat} {b : LdonBody} {s : State}
    (h : ∀ (l : Line) (c : LineCfg) (t1 t2 : Nat) (x : Tray), s.lines[b.line]? = some l → l.cfg = some c → c.station = src →
      l.state = .launched b.tray t1 t2 → s.trays[b.tray]? = some x → x.state = .launching → x.source = some b.line →
      b.outcome ≠ 1 ∧ b.outcome ≠ 2) : takeLdon src b s = ldonUnmatched b.line b.tray s := by
  unfold takeLdon
  split
  · rfl
  · rename_i l hl
    split
    · rename_i c k t1 t2 hc hs
      refine if_neg ?_
      rintro ⟨hsrc, rfl, hfrom, hout⟩
      obtain ⟨x, hx, hxs, hxi⟩ := launchingFrom_iff.1 hfrom
      obtain ⟨h1, h2⟩ := h l c t1 t2 x hl hc hsrc hs hx hxs hxi
      exact hout.elim h1 h2
    · rfl

/-- Settles O19. -/
theorem ldonUnmatched_only_notice : Obligations.LdonUnmatched := by
  unfold Obligations.LdonUnmatched
  refine ⟨fun src b s h => ⟨_, congrArg done (takeLdon_unmatched h), rfl⟩, fun src bytes s =>
    ⟨shortLdon bytes s, _, _, rfl, shortByte_lt _ _ _, ?_, fun b hb => shortByte_head hb _, rfl⟩⟩
  split
  · rename_i h l _
    have hh := h.isLt
    have hl := l.isLt
    omega
  · exact Nat.mod_lt _ (by decide)

/-- Settles O18. -/
theorem ldonMatched : Obligations.LdonMatched := by
  unfold Obligations.LdonMatched
  intro src line k t1 t2 s l c x hl hc hsrc hs hx hxs hxi
  have hfrom : s.launchingFrom k line = true := launchingFrom_iff.2 ⟨x, hx, hxs, hxi⟩
  have htake : ∀ outcome, outcome = 1 ∨ outcome = 2 →
      takeLdon src { line := line, tray := k, outcome := outcome } s = launchDone line k t1 t2 c.gap outcome s := by
    intro outcome ho
    simp only [takeLdon, hl, hc, hs]
    exact if_pos ⟨hsrc, trivial, hfrom, ho⟩
  have hfree : ∀ u : State, u.lines = s.lines → u.trays.length = s.trays.length →
      freeWithBar line k c.gap u = u.putLine line { l with state := .free, bar := yieldBar s.trays.length c.gap k } := by
    intro u hul hut
    rw [freeWithBar, modifyLine, set_eq_modify_of_get (hul ▸ hl), hut]
    rfl
  refine ⟨⟨launchDone line k t1 t2 c.gap 1 s, congrArg done (htake 1 (.inl rfl)), ?_⟩,
    ⟨launchDone line k t1 t2 c.gap 2 s, congrArg done (htake 2 (.inr rfl)), ?_⟩⟩
  · exact hfree (putTray k (s.loadedTray k line t1 t2) s) rfl (by simp [putTray])
  · unfold launchDone
    rw [if_neg (by decide), settleTray_away _ (.inl rfl)]
    exact hfree (drainWatch (putTray k (Tray.blank .empty) s)) rfl (by simp [putTray])

end Sys2Proof.Machine
end

section
/-! # Trays at rest, and TCMD (sections 2.1 and 3.1) -/

namespace Sys2Proof.Machine

open Sys2Proof

/-! ## Runs of the chute monitors and of the scan monitor (R45, R46, R103) -/

/-- A relation that every part of an evaluation of a chute monitor keeps: the head's miss and its fire, and the arming of the
next head. -/
structure HeadParts (R : State → State → Prop) : Prop where
  refl : ∀ s, R s s
  trans : ∀ {s t u}, R s t → R t u → R s u
  disarm : ∀ j s, R s (modifyChute j (fun c => { c with mon := none }) s)
  arm : ∀ j s, R s (armHead j s)
  miss : ∀ {j s c o}, s.chute? j = some c → c.watched = some o → R s (missOrder j o.tray s)
  fire : ∀ {j s c o}, s.chute? j = some c → c.watched = some o →
    R s (fireOrder j c o (modifyChute j (fun c => { c with mon := none }) s))

section
variable {R : State → State → Prop}

theorem HeadParts.decideHead (h : HeadParts R) (j : Nat) (fires : Bool) (s : State) : R s (decideHead j fires s) := by
  unfold Machine.decideHead
  split
  · exact h.refl _
  · rename_i c hc
    split
    · exact h.disarm _ _
    · rename_i o ho
      split
      · exact h.fire hc ho
      · exact h.miss hc ho

theorem HeadParts.runHead (h : HeadParts R) : ∀ (fuel adv j : Nat) (s : State), R s (runHead fuel adv j s)
  | 0, _, _, _ => h.refl _
  | fuel + 1, adv, j, s => by
    have hrun : ∀ x, R s (Machine.runHead fuel 0 j (armHead j (Machine.decideHead j x s))) := fun x =>
      h.trans (h.trans (h.decideHead _ _ _) (h.arm _ _)) (HeadParts.runHead h _ _ _ _)
    unfold Machine.runHead
    split
    · exact h.refl _
    · exact hrun true
    · exact hrun false

theorem HeadParts.evalHead (h : HeadParts R) (adv j : Nat) (s : State) : R s (evalHead adv j s) := h.runHead _ _ _ _

end

/-- A relation that every part of an evaluation of the scan monitor keeps: passes with UNKNOWN, and what the arch holds. -/
structure ScanParts (R : State → State → Prop) : Prop where
  refl : ∀ s, R s s
  trans : ∀ {s t u}, R s t → R t u → R s u
  arch : ∀ a s, R s (withArch a s)
  arm : ∀ k s, R s (armScan k s)
  send : ∀ {dst k s}, s.timingRoom = true → R s (queueTimed dst (.scan k) s)
  pass : ∀ k s, R s (passTray k .unknown 0 0 s)

section
variable {R : State → State → Prop}

theorem ScanParts.missScan (h : ScanParts R) (k : Nat) (s : State) : R s (missScan k s) := h.trans (h.arch _ _) (h.pass _ _)

theorem ScanParts.replaceScan (h : ScanParts R) (s : State) : R s (replaceScan s) := by
  unfold Machine.replaceScan
  split
  · exact h.refl _
  · exact h.trans (h.arch _ _) (h.pass _ _)

theorem ScanParts.fireScan (h : ScanParts R) (k : Nat) (s : State) : R s (fireScan k s) := by
  unfold Machine.fireScan
  split
  · rename_i hroom
    exact h.trans (h.trans (h.send hroom) (h.replaceScan _)) (h.arch _ _)
  · exact h.missScan _ _

theorem ScanParts.armFollowing (h : ScanParts R) (start k : Nat) (s : State) : R s (armFollowing start k s) := by
  unfold Machine.armFollowing
  split
  · split
    · exact h.arch _ _
    · exact h.arm _ _
  · exact h.arch _ _

theorem ScanParts.runScan (h : ScanParts R) : ∀ (fuel adv start : Nat) (s : State), R s (runScan fuel adv start s)
  | 0, _, _, _ => h.refl _
  | fuel + 1, adv, start, s => by
    unfold Machine.runScan
    split
    · exact h.refl _
    · split
      · exact h.refl _
      · exact h.trans (h.trans (h.fireScan _ _) (h.armFollowing _ _ _)) (ScanParts.runScan h _ _ _ _)
      · exact h.trans (h.trans (h.missScan _ _) (h.armFollowing _ _ _)) (ScanParts.runScan h _ _ _ _)

theorem ScanParts.evalScan (h : ScanParts R) (adv : Nat) (s : State) : R s (evalScan adv s) := by
  unfold Machine.evalScan
  split
  · exact h.refl _
  · exact h.runScan _ _ _ _

theorem ScanParts.freshArm (h : ScanParts R) (s : State) : R s (freshArm s) := by
  unfold Machine.freshArm
  split
  · split
    · split
      · exact h.trans (h.arm _ _) (h.evalScan _ _)
      · exact h.refl _
    · exact h.refl _
  · exact h.refl _

end

/-! ## Trays at rest (R161, R169) -/

/-- Every EMPTY and every DISABLED tray stands. -/
def RestStands (s t : State) : Prop := ∀ (k : Nat) (x : Tray), s.trays[k]? = some x → x.inFlight = false → t.trays[k]? = some x

section
variable {s t u : State} {k : Nat} {x y : Tray}

theorem RestStands.of_eq (h : t.trays = s.trays) : RestStands s t := fun _ _ hx _ => h ▸ hx

theorem RestStands.trans (h : RestStands s t) (h' : RestStands t u) : RestStands s u :=
  fun k x hx hr => h' k x (h k x hx hr) hr

/-- A tray in flight changes. -/
theorem putTray_restStands (hx : s.trays[k]? = some x) (hf : x.inFlight = true) : RestStands s (putTray k y s) := by
  intro n z hz hr
  have hne : k ≠ n := by
    rintro rfl
    rw [hx] at hz
    cases hz
    rw [hf] at hr
    cases hr
  exact (List.getElem?_set_ne hne).trans hz

theorem settleTray_restStands (hx : s.trays[k]? = some x) (hf : x.inFlight = true) : RestStands s (settleTray k y s) := by
  unfold settleTray
  split
  · exact putTray_restStands hx hf
  · exact putTray_restStands hx hf

theorem changeTray_restStands {e : TrayState} (he : e ≠ .empty ∧ e ≠ .disabled) (f : Tray → Tray) (k : Nat) (s : State) :
    RestStands s (changeTray k e f s) := by
  unfold changeTray
  split
  · rename_i x hx
    split
    · rename_i hs
      exact settleTray_restStands hx (by simp [Tray.inFlight, hs, he])
    · exact .of_eq rfl
  · exact .of_eq rfl

end

/-! ## What routing and the Stray List leave unchanged (R87 to R92, R148 to R153) -/

/-- A step that changes the Route Resolver and the notices alone. -/
def RouterOnly (s t : State) : Prop :=
  ∃ r m, (s.mgmt.notices.length ≤ Config.noticesMax → m.notices.length ≤ Config.noticesMax) ∧
    t = { s with router := r, mgmt := m }

/-- A step that changes the Stray List and the notices alone. -/
def StraysOnly (s t : State) : Prop := ∃ l m, t = { s with strays := l, mgmt := m }

section
variable {s t u : State}

theorem RouterOnly.refl (s : State) : RouterOnly s s := ⟨s.router, s.mgmt, id, rfl⟩

theorem RouterOnly.trans (h : RouterOnly s t) (h' : RouterOnly t u) : RouterOnly s u := by
  obtain ⟨r, m, hm, rfl⟩ := h
  obtain ⟨r', m', hm', rfl⟩ := h'
  exact ⟨r', m', hm' ∘ hm, rfl⟩

theorem Mgmt.push_bounded (m : Mgmt) (n : Notice) (h : m.notices.length ≤ Config.noticesMax) :
    (m.push n).notices.length ≤ Config.noticesMax := by
  unfold Mgmt.push
  split
  · simpa using ‹m.notices.length < Config.noticesMax›
  · exact h

theorem notify_routerOnly (n : Notice) (s : State) : RouterOnly s (notify n s) := ⟨s.router, _, Mgmt.push_bounded _ _, rfl⟩

theorem withRouter_routerOnly (r : Router) (s : State) : RouterOnly s (withRouter r s) := ⟨r, s.mgmt, id, rfl⟩

theorem tryStraySet_routerOnly (k tag : Nat) (r : StrayReason) (s : State) : RouterOnly s (tryStraySet k tag r s).1 := by
  unfold tryStraySet
  split
  · exact withRouter_routerOnly _ _
  · exact (withRouter_routerOnly _ _).trans (notify_routerOnly _ _)

theorem routeStray_routerOnly (k tag : Nat) (r : StrayReason) (s : State) : RouterOnly s (routeStray k tag r s).1 := by
  unfold routeStray
  dsimp only
  split
  · exact withRouter_routerOnly _ _
  · split
    · exact ((withRouter_routerOnly _ _).trans (withRouter_routerOnly _ _)).trans (tryStraySet_routerOnly _ _ _ _)
    · exact withRouter_routerOnly _ _
  · exact (withRouter_routerOnly _ _).trans (tryStraySet_routerOnly _ _ _ _)
  · exact (withRouter_routerOnly _ _).trans (tryStraySet_routerOnly _ _ _ _)

theorem recirculateIdentified_routerOnly (k tag cabin zone : Nat) (s : State) :
    RouterOnly s (recirculateIdentified k tag cabin zone s).1 := by
  unfold recirculateIdentified
  split
  · exact (withRouter_routerOnly _ _).trans (tryStraySet_routerOnly _ _ _ _)
  · exact .refl _

theorem defaultAction_routerOnly (k tag cabin zone : Nat) (s : State) : RouterOnly s (defaultAction k tag cabin zone s).1 := by
  unfold defaultAction
  dsimp only
  split
  · exact (withRouter_routerOnly _ _).trans (recirculateIdentified_routerOnly _ _ _ _ _)
  · exact (withRouter_routerOnly _ _).trans (routeStray_routerOnly _ _ _ _)

theorem routePlaced_routerOnly (k cabin : Nat) (p : Placed) (s : State) : RouterOnly s (routePlaced k cabin p s).1 := by
  unfold routePlaced
  dsimp only
  split
  · exact withRouter_routerOnly _ _
  · exact (withRouter_routerOnly _ _).trans (recirculateIdentified_routerOnly _ _ _ _ _)
  · exact (withRouter_routerOnly _ _).trans (routeStray_routerOnly _ _ _ _)
  · exact (withRouter_routerOnly _ _).trans (defaultAction_routerOnly _ _ _ _ _)

theorem resolveRoute_routerOnly (k tag : Nat) (v : Verdict) (s : State) : RouterOnly s (resolveRoute k tag v s).1 := by
  unfold resolveRoute
  split
  · exact routeStray_routerOnly _ _ _ _
  · split
    · exact routeStray_routerOnly _ _ _ _
    · exact routePlaced_routerOnly _ _ _ _

theorem recordStray_straysOnly (d : StrayDrop) (s : State) : StraysOnly s (recordStray d s) := by
  unfold recordStray
  split
  · exact ⟨_, _, rfl⟩
  · split
    · exact ⟨_, _, rfl⟩
    · split <;> exact ⟨_, _, rfl⟩

theorem handStray_straysOnly (d : Option StrayDrop) (s : State) : StraysOnly s (handStray d s) := by
  unfold handStray
  split
  · exact recordStray_straysOnly _ _
  · exact ⟨s.strays, s.mgmt, rfl⟩

theorem reinduct_straysOnly (k tag j : Nat) (s : State) : StraysOnly s (reinduct k tag j s) := by
  unfold reinduct
  split
  · split
    · exact ⟨_, _, rfl⟩
    · exact ⟨s.strays, s.mgmt, rfl⟩
  · exact ⟨s.strays, s.mgmt, rfl⟩

theorem tellDeck_straysOnly (k tag j : Nat) (kind : RouteKind) (s : State) : StraysOnly s (tellDeck k tag j kind s) := by
  unfold tellDeck
  split
  · exact reinduct_straysOnly _ _ _ _
  · exact ⟨s.strays, s.mgmt, rfl⟩

theorem RouterOnly.trays (h : RouterOnly s t) : t.trays = s.trays := by
  obtain ⟨r, m, -, rfl⟩ := h
  rfl

theorem StraysOnly.trays (h : StraysOnly s t) : t.trays = s.trays := by
  obtain ⟨l, m, rfl⟩ := h
  rfl

end

/-! ## Trays at rest through an evaluation of the monitors -/

section
variable {s : State} {k : Nat} {x y : Tray}

theorem expireOldest_restStands (j : Nat) (s : State) : RestStands s (expireOldest j s) := by
  unfold expireOldest
  split
  · exact .of_eq rfl
  · split
    · exact .of_eq rfl
    · refine RestStands.trans ?_ (changeTray_restStands (e := .dropping) (by decide) _ _ _)
      exact .of_eq rfl

theorem openConfirmation_restStands (j k seq : Nat) (s : State) : RestStands s (openConfirmation j k seq s) := by
  unfold openConfirmation
  split
  · exact .of_eq rfl
  · split
    · exact .of_eq rfl
    · exact (expireOldest_restStands _ _).trans (.of_eq rfl)

theorem warnNearFull_trays (j : Nat) (s : State) : (warnNearFull j s).trays = s.trays := by
  unfold warnNearFull
  split
  · rfl
  · split <;> rfl

theorem recordDrop_restStands (j k seq tag cabin : Nat) (s : State) : RestStands s (recordDrop j k seq tag cabin s) := by
  unfold recordDrop
  split
  · exact .of_eq rfl
  · dsimp only
    split
    · exact .of_eq (warnNearFull_trays _ _)
    · refine RestStands.trans ?_ (openConfirmation_restStands _ _ _ _)
      exact .of_eq (warnNearFull_trays _ _)

theorem missOrder_restStands (j k : Nat) (s : State) : RestStands s (missOrder j k s) := by
  refine RestStands.trans ?_ (changeTray_restStands (e := .routed) (by decide) _ _ _)
  exact .of_eq rfl

theorem fireWithEye_restStands (j : Nat) (c : Chute) (o : Order) (x : Tray) (s : State) : RestStands s (fireWithEye j c o x s) := by
  refine RestStands.trans ?_ (.of_eq (handStray_straysOnly _ _).trays)
  refine RestStands.trans ?_ (recordDrop_restStands _ _ _ _ _ _)
  refine RestStands.trans ?_ (changeTray_restStands (e := .routed) (by decide) _ _ _)
  exact .of_eq rfl

theorem fireWithoutEye_restStands (j : Nat) (c : Chute) (o : Order) (x : Tray) (s : State) :
    RestStands s (fireWithoutEye j c o x s) := by
  refine RestStands.trans ?_ (changeTray_restStands (e := .routed) (by decide) _ _ _)
  refine RestStands.trans ?_ (.of_eq (handStray_straysOnly _ _).trays)
  refine RestStands.trans ?_ (recordDrop_restStands _ _ _ _ _ _)
  exact .of_eq rfl

theorem dropFire_restStands (j : Nat) (c : Chute) (o : Order) (s : State) : RestStands s (dropFire j c o s) := by
  unfold dropFire
  split
  · split
    · exact fireWithoutEye_restStands _ _ _ _ _
    · exact fireWithEye_restStands _ _ _ _ _
  · exact .of_eq rfl

theorem fireRefused_restStands (j k : Nat) (s : State) : RestStands s (fireRefused j k s) := by
  refine RestStands.trans ?_ (missOrder_restStands _ _ _)
  exact .of_eq rfl

theorem fireOrder_restStands (j : Nat) (c : Chute) (o : Order) (s : State) : RestStands s (fireOrder j c o s) := by
  unfold fireOrder
  split
  · refine RestStands.trans ?_ (changeTray_restStands (e := .routed) (by decide) _ _ _)
    exact .of_eq rfl
  · split
    · exact dropFire_restStands _ _ _ _
    · exact fireRefused_restStands _ _ _
  · split
    · exact dropFire_restStands _ _ _ _
    · exact fireRefused_restStands _ _ _
  all_goals exact missOrder_restStands _ _ _

theorem armHead_trays (j : Nat) (s : State) : (armHead j s).trays = s.trays := by
  unfold armHead
  split <;> rfl

theorem restStands_headParts : HeadParts RestStands where
  refl _ := .of_eq rfl
  trans := RestStands.trans
  disarm _ _ := .of_eq rfl
  arm _ _ := .of_eq (armHead_trays _ _)
  miss _ _ := missOrder_restStands _ _ _
  fire _ _ := by
    refine RestStands.trans ?_ (fireOrder_restStands _ _ _ _)
    exact .of_eq rfl

/-- A write of a tray in flight after its order is placed. -/
theorem putTray_placed_restStands {j : Nat} {kind : RouteKind} {reason : Option StrayReason} {tag : Nat}
    (hx : s.trays[k]? = some x) (hf : x.inFlight = true) : RestStands s (putTray k y (placeOrder j k kind reason tag s)) := by
  have hx' : (placeOrder j k kind reason tag s).trays[k]? = some x := hx
  refine RestStands.trans ?_ (putTray_restStands hx' hf)
  exact .of_eq rfl

/-- A route of a tray in flight changes that tray, and those of the orders that fire. -/
theorem applyRoute_restStands (route : Route) (hx : s.trays[k]? = some x) (hf : x.inFlight = true) :
    RestStands s (applyRoute k y route s) := by
  unfold applyRoute
  split
  · exact putTray_restStands hx hf
  · rename_i j kind
    have htell := (tellDeck_straysOnly k y.tag j kind s).trays
    rw [← htell] at hx
    refine RestStands.trans (.of_eq htell) ?_
    unfold queueOrder
    split
    · exact .of_eq rfl
    · split
      · refine RestStands.trans ?_ (restStands_headParts.evalHead _ _ _)
        refine RestStands.trans ?_ (.of_eq (armHead_trays _ _))
        exact putTray_placed_restStands hx hf
      · exact putTray_placed_restStands hx hf

theorem countLookups_trays (lap : Nat) (set : List SetTag) (s : State) : (countLookups lap set s).trays = s.trays := by
  unfold countLookups
  split
  · rfl
  · split <;> rfl

theorem passBag_restStands (lap : Nat) (source : Option Nat) (set : List SetTag) (hx : s.trays[k]? = some x)
    (hf : x.inFlight = true) : RestStands s (passBag k lap source set s) := by
  have hcount := countLookups_trays lap set s
  rw [← hcount] at hx
  refine RestStands.trans (.of_eq hcount) ?_
  unfold passBag handOn
  split
  · have hres := (resolveRoute_routerOnly k (s.checkDoubled k (s.reading lap set)).tag
      (s.checkDoubled k (s.reading lap set)).verdict (countLookups lap set s)).trays
    rw [← hres] at hx
    exact RestStands.trans (.of_eq hres) (applyRoute_restStands _ hx hf)
  · exact putTray_restStands hx hf

theorem freeLaunch_trays (k : Nat) (i : Option Nat) (s : State) : (freeLaunch k i s).trays = s.trays := by
  unfold freeLaunch
  split <;> rfl

/-- A pass with UNKNOWN changes no tray at rest. -/
theorem passUnknown_restStands (k n1 n2 : Nat) (s : State) : RestStands s (passTray k .unknown n1 n2 s) := by
  unfold passTray
  split
  · exact .of_eq rfl
  · rename_i x hx
    split
    case h_2 hs =>
      have hf : x.inFlight = true := by simp [Tray.inFlight, hs]
      have hload : (loadAtArch k x.source s).trays = s.trays.set k { Tray.blank .loaded with
          tag := s.claimTag k none (s.launchTags k x.source).1
          tag2 := (s.launchTags k x.source).2
          source := x.source } := by
        unfold loadAtArch
        rw [notify_trays, freeLaunch_trays]
        rfl
      have hk : k < s.trays.length := (List.getElem?_eq_some_iff.1 hx).1
      have hget := congrArg (fun l => l[k]?) hload
      rw [List.getElem?_set_self hk] at hget
      refine RestStands.trans ?_ (passBag_restStands _ _ _ hget rfl)
      exact RestStands.trans (putTray_restStands hx hf) (.of_eq hload)
    case h_3 hs => exact passBag_restStands _ _ _ hx (by simp [Tray.inFlight, hs])
    case h_4 hs => exact passBag_restStands _ _ _ hx (by simp [Tray.inFlight, hs])
    all_goals exact .of_eq rfl

theorem armScan_trays (k : Nat) (s : State) : (armScan k s).trays = s.trays := by
  unfold armScan
  split <;> rfl

theorem restStands_scanParts : ScanParts RestStands where
  refl _ := .of_eq rfl
  trans := RestStands.trans
  arch _ _ := .of_eq rfl
  arm _ _ := .of_eq (armScan_trays _ _)
  send _ := .of_eq rfl
  pass _ _ := passUnknown_restStands _ _ _ _

end

/-! ## TCMD (R26, R27) -/

section
variable {s : State} {k n : Nat}

/-- The following tray is the first after tray k in number order that is not DISABLED. -/
theorem followingTray_of_Following (h : s.Following k n) : s.followingTray k = some n := by
  obtain ⟨i, hi, rfl, hin, hout⟩ := h
  unfold State.followingTray
  rw [List.find?_map, Option.map_eq_some_iff]
  refine ⟨i, List.find?_range_eq_some.2 ⟨?_, List.mem_range.2 hi, fun h hh => ?_⟩, rfl⟩
  · rw [Function.comp_apply, Bool.not_eq_true', ← Bool.not_eq_true, trayDisabled_iff]
    exact hin
  · rw [Function.comp_apply, Bool.not_not, trayDisabled_iff]
    exact hout h hh

theorem followingTray_none (h : ∀ x ∈ s.trays, x.state = .disabled) : s.followingTray k = none := by
  refine List.find?_eq_none.2 fun n hn => ?_
  obtain ⟨i, hi, rfl⟩ := List.mem_map.1 hn
  have hlen : (k + 1 + i) % s.trays.length < s.trays.length := Nat.mod_lt _ (Nat.zero_lt_of_lt (List.mem_range.1 hi))
  rw [Bool.not_eq_true, Bool.not_eq_false', trayDisabled_iff]
  exact ⟨_, List.getElem?_eq_getElem hlen, h _ (List.getElem_mem hlen)⟩

theorem moveScan_unwatched (h : ∀ m ∈ s.arch.mon, m.tray ≠ k) : moveScan k s = s := by
  refine if_neg fun hany => ?_
  obtain ⟨m, hm, hk⟩ := (Option.any_eq_true _ _).1 hany
  exact h m hm (by simpa using hk)

theorem moveScan_none {m : Monitor} (hm : s.arch.mon = some m) (hk : m.tray = k) (h : s.followingTray k = none) :
    moveScan k s = disarmScan s := by
  simp [moveScan, hm, hk, h]

theorem moveScan_some {m : Monitor} (hm : s.arch.mon = some m) (hk : m.tray = k) (h : s.followingTray k = some n) :
    moveScan k s = evalScan 0 (armScan n s) := by
  simp [moveScan, hm, hk, h]

theorem moveScan_restStands (k : Nat) (s : State) : RestStands s (moveScan k s) := by
  unfold moveScan
  split
  · split
    · exact RestStands.trans (.of_eq (armScan_trays _ _)) (restStands_scanParts.evalScan _ _)
    · exact .of_eq rfl
  · exact .of_eq rfl

end

/-- Settles O20. -/
theorem trayService : Obligations.TrayService := by
  unfold Obligations.TrayService
  intro hdr k s
  refine ⟨fun arg harg hmay => ?badAction, fun hmay => ⟨fun hx => ?noTray, fun x hx => ⟨fun hs => ?disable, fun hs => ?stays, fun h1 h2 => ?busy⟩⟩,
    fun hmay => ⟨fun hx => ?noTray', fun x hx => ⟨fun hs => ?enable, fun hs => ?stays'⟩⟩⟩
  case badAction =>
    refine answers_of_serve (owner := serveTcmdDisable arg) rfl hmay (x := refuse .range (dropRequest s)) ?_
    rcases List.mem_pair.1 harg with rfl | rfl
    · rfl
    · rfl
  case noTray =>
    refine answers_of_serve (owner := serveTcmdDisable (.of k)) rfl hmay (x := refuse .range (dropRequest s)) ?_
    simp [serveTcmdDisable, disableTray, hx]
  case stays =>
    refine answers_of_serve (owner := serveTcmdDisable (.of k)) rfl hmay (x := doneWith [] (dropRequest s)) ?_
    simp [serveTcmdDisable, disableTray, hx, hs]
  case busy =>
    refine answers_of_serve (owner := serveTcmdDisable (.of k)) rfl hmay (x := refuse .busy (dropRequest s)) ?_
    simp [serveTcmdDisable, disableTray, hx, h1, h2]
  case noTray' =>
    refine answers_of_serve (owner := enableTray k) rfl hmay (x := refuse .range (dropRequest s)) ?_
    simp [enableTray, hx]
  case stays' =>
    refine answers_of_serve (owner := enableTray k) rfl hmay (x := doneWith [] (dropRequest s)) ?_
    simp [enableTray, hx, hs]
  case disable =>
    have hset : settleTray k (Tray.blank .disabled) (dropRequest s) =
        drainWatch { dropRequest s with trays := s.trays.set k (Tray.blank .disabled) } := settleTray_away _ (.inr rfl)
    refine ⟨moveScan k (settleTray k (Tray.blank .disabled) (dropRequest s)), ?_,
      (settleTray_frame _ _ _).trans (moveScan_frame _ _), ?_, ?_⟩
    · refine answers_of_serve (owner := serveTcmdDisable (.of k)) rfl hmay
        (x := doneWith [] (moveScan k (settleTray k (Tray.blank .disabled) (dropRequest s)))) ?_
      simp [serveTcmdDisable, disableTray, hx, hs]
    · refine moveScan_restStands _ _ k _ ?_ rfl
      have hk : k < s.trays.length := (List.getElem?_eq_some_iff.1 hx).1
      rw [hset]
      exact List.getElem?_set_self hk
    · intro w hw
      have harch : w.arch = s.arch := by rw [hw]; rfl
      have hgeo : w.tracker.geo = s.tracker.geo := by rw [hw]; rfl
      rw [hset, ← hw, ← harch, ← hgeo]
      refine ⟨fun hno => moveScan_unwatched hno, fun m hm hmk => ⟨fun hall => ?_, fun g n hg hn => ?_⟩⟩
      · exact moveScan_none hm hmk (followingTray_none hall)
      · rw [moveScan_some hm hmk (followingTray_of_Following hn), armScan_eq hg]
        exact ⟨rfl, scanArmed_stays hg⟩
  case enable =>
    have hset : settleTray k (Tray.blank .empty) (dropRequest s) =
        drainWatch { dropRequest s with trays := s.trays.set k (Tray.blank .empty) } := settleTray_away _ (.inl rfl)
    refine ⟨freshArm (settleTray k (Tray.blank .empty) (dropRequest s)), ?_,
      (settleTray_frame _ _ _).trans (freshArm_frame _), ?_, ?_⟩
    · refine answers_of_serve (owner := enableTray k) rfl hmay
        (x := doneWith [] (freshArm (settleTray k (Tray.blank .empty) (dropRequest s)))) ?_
      simp [enableTray, hx, hs]
    · refine restStands_scanParts.freshArm _ k _ ?_ rfl
      have hk : k < s.trays.length := (List.getElem?_eq_some_iff.1 hx).1
      rw [hset]
      exact List.getElem?_set_self hk
    · rw [hset]
      exact freshArm_freshlyArmed _

end Sys2Proof.Machine
end

section
/-! # The verification pass by tray state (sections 2.4, 3.2 to 3.5 and 7.6) -/

namespace Sys2Proof.Machine

open Sys2Proof

/-! ## A TSCN that answers the outstanding scan (R48) -/

/-- The outstanding scan taken: none is outstanding any more. -/
def State.scanTaken (s : State) : State := { s with arch := { s.arch with outstanding := none } }

section
variable {s : State} {g : Geometry} {k : Nat} {x : Tray}

/-- A TSCN that names the outstanding scan leads to the pass of its tray. -/
theorem tscnOp_eq {occ tag1 tag2 : Nat} (hg : s.tracker.geo = some g) (ho : s.arch.outstanding = some k)
    (hx : s.trays[k]? = some x) (hocc : occ = 1 ∨ occ = 2) :
    tscnOp g.archStation (.full { tray := k, occupancy := occ, tag1 := tag1, tag2 := tag2 }) s =
      passTray k (if occ = 1 then .occupied else .empty) (normTag tag1) (normTag tag2) s.scanTaken := by
  have hk : k < s.trays.length := (List.getElem?_eq_some_iff.1 hx).1
  unfold tscnOp takeTscn
  rw [hg]
  dsimp only
  rw [if_neg (by omega), if_neg (by simp [ho])]
  rfl

theorem tscn_leads {occ tag1 tag2 : Nat} (hg : s.tracker.geo = some g) (ho : s.arch.outstanding = some k)
    (hx : s.trays[k]? = some x) (hocc : occ = 1 ∨ occ = 2) :
    Leads (.tscn g.archStation (.full { tray := k, occupancy := occ, tag1 := tag1, tag2 := tag2 })) s
      (passTray k (if occ = 1 then .occupied else .empty) (normTag tag1) (normTag tag2) s.scanTaken) :=
  congrArg done (tscnOp_eq hg ho hx hocc)

theorem passTray_of {occ : Occupancy} {n1 n2 : Nat} (hx : s.trays[k]? = some x) :
    passTray k occ n1 n2 s =
      match x.state with
      | .empty => passEmpty k occ n1 n2 s
      | .launching => passLaunching k x occ n1 n2 s
      | .loaded => passLoaded k x occ n1 n2 s
      | .recirculate => passRecirculate k x occ n1 n2 s
      | .doubt => passDoubt k x occ n1 n2 s
      | _ => passSkipped s := by
  unfold passTray
  simp only [hx]
  cases x.state <;> rfl

/-- A pass of a RESERVED, ROUTED, DROPPING or DISABLED tray is skipped (R50). -/
theorem passTray_skipped {occ : Occupancy} {n1 n2 : Nat} (hx : s.trays[k]? = some x)
    (hs : x.state ∈ [.reserved, .routed, .dropping, .disabled]) : passTray k occ n1 n2 s = passSkipped s := by
  rw [passTray_of hx]
  simp only [List.mem_cons, List.not_mem_nil, or_false] at hs
  rcases hs with hs | hs | hs | hs <;> rw [hs]

/-- A launch decided at the arch frees its line (R38). -/
theorem freeLaunch_eq {i t1 t2 : Nat} {l : Line} (hl : s.lines[i]? = some l) (hs : l.state = .launched k t1 t2) :
    freeLaunch k (some i) s = s.putLine i { l with state := .free } := by
  obtain ⟨cfg, state, bar, mon, clamped⟩ := l
  obtain rfl : state = .launched k t1 t2 := hs
  unfold freeLaunch modifyLine
  dsimp only
  rw [set_eq_modify_of_get hl]
  simp [State.putLine]

theorem Chute.isCurrent_iff {c : Chute} {serial : Nat} : c.isCurrent serial = true ↔ c.hasCart = true ∧ c.serial = some serial := by
  simp [Chute.isCurrent]

theorem CartEntry.names_iff {seq : Nat} {e : CartEntry} : e.names k seq = true ↔ e.tray = k ∧ e.seq = seq := by
  simp [CartEntry.names]

/-- A drop presumed: the PENDING entries that it names become PRESUMED in a current cart (R131). -/
theorem presumeDrop_eq {j serial seq : Nat} {c : Chute} (hc : s.carts.chutes[j]? = some c) :
    presumeDrop j serial k seq s =
      { s with
        carts :=
          { s.carts with
            chutes :=
              s.carts.chutes.set j
                { c with
                  cart :=
                    if c.hasCart = true ∧ c.serial = some serial then
                      c.cart.map (fun e =>
                        if e.tray = k ∧ e.seq = seq ∧ e.status = .pending then { e with status := .presumed } else e)
                    else c.cart } } } := by
  unfold presumeDrop modifyChute
  rw [set_eq_modify_of_get hc]
  simp only [Chute.isCurrent_iff, CartEntry.names_iff, and_assoc]
  split_ifs <;> rfl

end

/-- Settles O23. -/
theorem passWithoutBag : Obligations.PassWithoutBag := by
  unfold Obligations.PassWithoutBag
  rintro k tag1 tag2 s u g x hg ho hx rfl
  have hpass : passTray k (if 2 = 1 then .occupied else .empty) (normTag tag1) (normTag tag2) s.scanTaken = _ :=
    passTray_of (s := s.scanTaken) hx
  have haway : ∀ v : State, settleTray k (Tray.blank .empty) v = drainWatch (putTray k (Tray.blank .empty) v) :=
    fun v => settleTray_away v (.inl rfl)
  refine ⟨_, tscn_leads hg ho hx (.inr rfl), fun hs => ?empty, fun hs => ?loaded, fun hs => ?recirculate,
    fun i l t1 t2 hs hi hl hls => ?launching, fun j serial seq c hs hj hser hseq hc => ?doubt, fun hs => ?skipped⟩
  case skipped => exact passTray_skipped (s := s.scanTaken) hx hs
  all_goals rw [hpass, hs]
  case empty => rfl
  case loaded =>
    change notify _ (settleTray k (Tray.blank .empty) s.scanTaken) = _
    rw [haway]
    rfl
  case recirculate =>
    change notify _ (settleTray k (Tray.blank .empty) s.scanTaken) = _
    rw [haway]
    rfl
  case launching =>
    change notify (absentNotice k x.source) (freeLaunch k x.source (settleTray k (Tray.blank .empty) s.scanTaken)) = _
    rw [hi, haway, freeLaunch_eq (s := drainWatch (putTray k (Tray.blank .empty) s.scanTaken)) hl hls]
    rfl
  case doubt =>
    change settleTray k (Tray.blank .empty) (presumeDrop (x.target.getD 0) (x.serial.getD 0) k (x.seq.getD 0) s.scanTaken) = _
    rw [hj, hser, hseq, Option.getD_some, Option.getD_some, Option.getD_some, haway, presumeDrop_eq (s := s.scanTaken) hc]
    rfl

/-! ## Passes that find a bag aboard (R51 to R55) -/

theorem Chute.fullTest_eq (c : Chute) : c.fullTest =
    { c with
      state :=
        if c.state = .opened ∨ c.state = .full then
          (if c.cart.length + c.queue.length < c.cfg.capacity then .opened else .full)
        else c.state } := by
  unfold Chute.fullTest
  by_cases h : c.state = .opened ∨ c.state = .full
  · rw [if_pos (c.inUse_iff.2 h), if_pos h]
    rfl
  · rw [if_neg (mt c.inUse_iff.1 h), if_neg h]

section
variable {s : State} {j serial k seq : Nat} {c : Chute}

/-- A failed drop: its entry leaves the current cart with DROP_FAILED (R131). -/
theorem undoDrop_found {e : CartEntry} (tag : Nat) (hc : s.carts.chutes[j]? = some c) (hcart : c.hasCart = true)
    (hser : c.serial = some serial) (he : c.cart.find? (CartEntry.names k seq) = some e) :
    undoDrop j serial k seq tag s =
      notify (dropNotice .dropFailed j serial k e.tag)
        { s with
          carts :=
            { s.carts with
              chutes :=
                s.carts.chutes.set j
                  { c with
                    cart := c.cart.eraseP (CartEntry.names k seq)
                    state :=
                      if c.state = .opened ∨ c.state = .full then
                        (if c.cart.length - 1 + c.queue.length < c.cfg.capacity then .opened else .full)
                      else c.state } } } := by
  have hentry : s.dropEntry j serial k seq = some e := by
    unfold State.dropEntry State.chute?
    simp only [hc, if_pos (Chute.isCurrent_iff.2 ⟨hcart, hser⟩), he]
  have hlen : (c.cart.eraseP (CartEntry.names k seq)).length = c.cart.length - 1 :=
    List.length_eraseP_of_mem (List.mem_of_find?_eq_some he) (List.find?_some he)
  unfold undoDrop
  simp only [hentry]
  rw [modifyChute, set_eq_modify_of_get hc, Chute.fullTest_eq, hlen]

/-- A failed drop whose entry is not in the current cart gives CORRECTION (R131). -/
theorem undoDrop_missing (tag : Nat) (hc : s.carts.chutes[j]? = some c)
    (h : c.hasCart = false ∨ c.serial ≠ some serial ∨ ∀ e ∈ c.cart, e.tray = k → e.seq ≠ seq) :
    undoDrop j serial k seq tag s = notify (dropNotice .correction j serial k tag) s := by
  have hentry : s.dropEntry j serial k seq = none := by
    unfold State.dropEntry State.chute?
    simp only [hc]
    split
    · rename_i hcur
      obtain ⟨hcart, hser⟩ := Chute.isCurrent_iff.1 hcur
      refine List.find?_eq_none.2 fun e he hname => ?_
      obtain ⟨hk, hs⟩ := CartEntry.names_iff.1 hname
      rcases h with h | h | h
      · rw [hcart] at h
        cases h
      · exact h hser
      · exact h e he hk hs
    · rfl
  unfold undoDrop
  simp only [hentry]

end

theorem launchTags_eq {s : State} {k i t1 t2 : Nat} {l : Line} (hl : s.lines[i]? = some l) (hs : l.state = .launched k t1 t2) :
    s.launchTags k (some i) = (t1, t2) := by
  simp [State.launchTags, hl, hs]

/-- A launch decided LOADED at the arch: tag 1 unless it stands elsewhere, and the line FREE (R38). -/
theorem loadAtArch_eq {s : State} {k i t1 t2 : Nat} {l : Line} (hl : s.lines[i]? = some l) (hs : l.state = .launched k t1 t2) :
    loadAtArch k (some i) s =
      notify (absentNotice k (some i)) (s.putPair k (s.loadedTray k i t1 t2) i { l with state := .free }) := by
  unfold loadAtArch
  rw [launchTags_eq hl hs]
  exact congrArg (notify _) (freeLaunch_eq (s := putTray k (s.loadedTray k i t1 t2) s) hl hs)

section
variable {s b : State} {k n1 n2 lap : Nat} {x : Tray} {source : Option Nat} {set : List SetTag}

/-- The pass of a tray with a bag aboard goes on from what the tray's own decision leaves. -/
theorem BagAboard.passTray_eq (hx : s.trays[k]? = some x) (h : BagAboard s k n1 n2 x lap source set b) :
    passTray k .occupied n1 n2 s.scanTaken = passBag k lap source set b.scanTaken := by
  rw [passTray_of (s := s.scanTaken) hx]
  obtain ⟨hs, rfl, rfl, rfl, rfl⟩ | ⟨hs, rfl, rfl, rfl, rfl⟩ | ⟨hs, rfl, rfl, rfl, rfl⟩ |
    ⟨hs, rfl, rfl, i, l, t1, t2, own, hi, hl, hls, rfl, rfl, rfl⟩ |
    ⟨hs, rfl, rfl, rfl, j, serial, seq, c, hj, hser, hseq, hc, ⟨e, hcart, hcser, he, rfl⟩ | ⟨hno, rfl⟩⟩ := h
  all_goals rw [hs]
  · rfl
  · rfl
  · rfl
  · change passLoaded k ((loadAtArch k x.source s.scanTaken).trays.getD k (Tray.blank .loaded)) .occupied n1 n2
      (loadAtArch k x.source s.scanTaken) = _
    have hk : k < s.trays.length := (List.getElem?_eq_some_iff.1 hx).1
    have hget : (notify (absentNotice k (some i)) (s.scanTaken.putPair k (s.scanTaken.loadedTray k i t1 t2) i
        { l with state := .free })).trays.getD k (Tray.blank .loaded) = s.scanTaken.loadedTray k i t1 t2 := by
      simp [State.putPair, State.scanTaken, hk]
    rw [hi, loadAtArch_eq (s := s.scanTaken) hl hls, hget]
    rfl
  · change passBag k _ _ _ (undoDrop (x.target.getD 0) (x.serial.getD 0) k (x.seq.getD 0) x.tag s.scanTaken) = _
    rw [hj, hser, hseq, Option.getD_some, Option.getD_some, Option.getD_some,
      undoDrop_found (s := s.scanTaken) x.tag hc hcart hcser he]
    rfl
  · change passBag k _ _ _ (undoDrop (x.target.getD 0) (x.serial.getD 0) k (x.seq.getD 0) x.tag s.scanTaken) = _
    rw [hj, hser, hseq, Option.getD_some, Option.getD_some, Option.getD_some, undoDrop_missing (s := s.scanTaken) x.tag hc hno]
    rfl

/-- What a pass with a bag aboard leaves before its verdict. -/
theorem BagAboard.unchanged (h : BagAboard s k n1 n2 x lap source set b) :
    b.tracker = s.tracker ∧ b.arch = s.arch ∧ b.session = s.session ∧ b.link = s.link ∧ b.sched = s.sched ∧
      ∀ y, b.trays.set k y = s.trays.set k y := by
  obtain ⟨-, -, -, -, rfl⟩ | ⟨-, -, -, -, rfl⟩ | ⟨-, -, -, -, rfl⟩ | ⟨-, -, -, i, l, t1, t2, own, -, -, -, -, -, rfl⟩ |
    ⟨-, -, -, -, j, serial, seq, c, -, -, -, -, ⟨e, -, -, -, rfl⟩ | ⟨-, rfl⟩⟩ := h
  case inr.inr.inr.inl => exact ⟨rfl, rfl, rfl, rfl, rfl, fun y => List.set_set _⟩
  all_goals exact ⟨rfl, rfl, rfl, rfl, rfl, fun _ => rfl⟩

theorem countLookups_eq (lap : Nat) (set : List SetTag) (s : State) :
    countLookups lap set s = { s with manifest := (countLookups lap set s).manifest } := by
  unfold countLookups
  split
  · rfl
  · split <;> rfl

/-- The lookups of a verdict are those of the store and the lap limit. -/
theorem countLookups_manifest (lap : Nat) (set : List SetTag) {s t : State} (hm : t.manifest = s.manifest)
    (ha : t.arch.lapLimit = s.arch.lapLimit) : (countLookups lap set t).manifest = (countLookups lap set s).manifest := by
  have hover : t.overLimit lap = s.overLimit lap := by rw [State.overLimit, ha, State.overLimit]
  unfold countLookups
  rw [hover]
  split
  · exact hm
  · split <;> simp [countLookup, hm]

theorem BagAboard.routes (h : BagAboard s k n1 n2 x lap source set b) : b.routes = s.routes := by
  obtain ⟨htracker, -, hsession, hlink, -⟩ := h.unchanged
  simp only [State.routes, State.mode, State.isTracking, State.downUp, htracker, hsession, hlink]

theorem countLookups_scanTaken (lap : Nat) (set : List SetTag) (s : State) :
    countLookups lap set s.scanTaken = { s.scanTaken with manifest := (countLookups lap set s).manifest } := by
  rw [countLookups_eq, countLookups_manifest lap set (s := s) (t := s.scanTaken) rfl rfl]

/-- The state of an operation's routing does not depend on the lookups. -/
theorem countLookups_routes (lap : Nat) (set : List SetTag) (s : State) : (countLookups lap set s).routes = s.routes := by
  rw [countLookups_eq]
  rfl

/-- While routing is not made, a bag aboard recirculates with the fields of its verdict (R60). -/
theorem passBag_unrouted (h : s.routes = false) :
    passBag k lap source set s =
      putTray k
        (passedTray (s.checkDoubled k (s.reading lap set)) lap source (s.checkDoubled k (s.reading lap set)).verdict.cabin none
          (s.checkDoubled k (s.reading lap set)).verdict.reason) (countLookups lap set s) := by
  unfold passBag handOn
  rw [if_neg (by rw [countLookups_routes, h]; decide)]

theorem passBag_routed (h : s.routes = true) {r : Reading} (hr : r = s.checkDoubled k (s.reading lap set))
    {y : State × Resolved} (hy : y = resolveRoute k r.tag r.verdict (countLookups lap set s)) :
    passBag k lap source set s = applyRoute k (routedTray r lap source y.2) y.2.route y.1 := by
  subst hr hy
  unfold passBag handOn
  rw [if_pos (by rw [countLookups_routes, h])]

/-- A doubled tag makes an identified verdict a TAG_CONFLICT, and is not written (R59). -/
theorem checkDoubled_doubled {r : Reading} (h : s.tagDoubled k none r.tag = true) :
    s.checkDoubled k r =
      { verdict := .stray (r.verdict.reason.getD .tagConflict), tag := 0
        tag2 := if r.verdict.reason = none then r.tag else r.tag2 } := by
  unfold State.checkDoubled
  rw [if_pos h]
  cases r.verdict <;> rfl

theorem checkDoubled_single {r : Reading} (h : s.tagDoubled k none r.tag = false) : s.checkDoubled k r = r := by
  unfold State.checkDoubled
  rw [if_neg (by simp [h])]

end

/-- Settles O25. -/
theorem passNotRouted : Obligations.PassNotRouted := by
  unfold Obligations.PassNotRouted
  refine ⟨?_, ?_⟩
  · rintro k tag1 tag2 n1 n2 lap source set r s b u g x hg ho hx hroutes rfl rfl hb rfl rfl
    obtain ⟨-, harch, -, -, -, htrays⟩ := hb.unchanged
    have hpass : passTray k .occupied (normTag tag1) (normTag tag2) s.scanTaken = _ :=
      (hb.passTray_eq hx).trans (passBag_unrouted (hb.routes.trans hroutes))
    have hread : b.scanTaken.reading lap set = b.reading lap set := rfl
    rw [countLookups_scanTaken, hread] at hpass
    rw [← harch]
    refine ⟨_, tscn_leads hg ho hx (.inl rfl), ?_, fun hd => ?_, fun hd => ?_⟩
    all_goals rw [if_pos rfl, hpass]
    · rfl
    · rw [checkDoubled_single (s := b.scanTaken) hd]
      exact htrays _
    · rw [checkDoubled_doubled (s := b.scanTaken) hd]
      exact htrays _
  · rintro k s u g x hg ho hx rfl
    have hpass : ∀ occ, passTray k occ 0 0 s.scanTaken = _ := fun occ => passTray_of (s := s.scanTaken) hx
    refine ⟨fun hs => ?_, fun hs => ?_, fun hs => passTray_skipped (s := s.scanTaken) hx hs⟩
    · change passTray k .unknown 0 0 s.scanTaken = s.scanTaken
      rw [hpass]
      rcases List.mem_pair.1 hs with hs | hs <;> rw [hs] <;> rfl
    · have hlead := tscn_leads (tag1 := 0) (tag2 := 0) hg ho hx (.inl rfl)
      have hsame : passTray k .occupied 0 0 s.scanTaken = passTray k .unknown 0 0 s.scanTaken := by
        rw [hpass, hpass]
        simp only [List.mem_cons, List.not_mem_nil, or_false] at hs
        rcases hs with hs | hs | hs <;> rw [hs] <;> rfl
      exact hsame ▸ hlead

/-! ## Routed passes (R60, R101, R103) -/

/-- An order takes its place behind the last of the nearer trays. -/
theorem insertOrder_split (near : Order → Bool) (o : Order) : ∀ q : List Order, ∃ before after,
    q = before ++ after ∧ (∀ x ∈ after, near x = false) ∧ (∀ x ∈ before.getLast?, near x = true) ∧
      insertOrder near o q = before ++ [o] ++ after
  | [] => ⟨[], [], rfl, nofun, nofun, rfl⟩
  | x :: rest => by
    unfold insertOrder
    by_cases h : (near x || rest.any near) = true
    · obtain ⟨before, after, hq, hafter, hbefore, hins⟩ := insertOrder_split near o rest
      refine ⟨x :: before, after, by rw [hq]; rfl, hafter, fun y hy => ?_, by rw [if_pos h, hins]; rfl⟩
      cases before with
      | cons z before => exact hbefore y hy
      | nil =>
        obtain rfl : x = y := by simpa using hy
        rcases Bool.or_eq_true_iff.1 h with h | h
        · exact h
        · obtain ⟨z, hz, hnear⟩ := List.any_eq_true.1 h
          rw [hafter z (by simpa [hq] using hz)] at hnear
          cases hnear
    · refine ⟨[], x :: rest, rfl, fun y hy => ?_, nofun, by rw [if_neg h]; rfl⟩
      rw [Bool.or_eq_true, not_or, Bool.not_eq_true, List.any_eq_true, not_exists] at h
      rcases List.mem_cons.1 hy with rfl | hy
      · exact h.1
      · exact Bool.eq_false_iff.2 fun hn => h.2 y ⟨hy, hn⟩

section
variable {s : State} {j k : Nat} {kind : RouteKind} {reason : Option StrayReason} {tag : Nat} {c : Chute}

theorem modifyChute_eq (hc : s.carts.chutes[j]? = some c) (f : Chute → Chute) :
    modifyChute j f s = { s with carts := { s.carts with chutes := s.carts.chutes.set j (f c) } } := by
  rw [modifyChute, set_eq_modify_of_get hc]

/-- An order placed: it takes the next sequence and its place, and the FULL test follows (R101, R124). -/
theorem placeOrder_eq (hc : s.carts.chutes[j]? = some c) {q : List Order}
    (hq : q = insertOrder (s.nearer c.cfg.loc k)
      { tray := k, seq := s.sched.nextSeq, kind := kind, reason := reason, tag := tag } c.queue) :
    placeOrder j k kind reason tag s =
      { s with
        sched := { s.sched with nextSeq := nextSerial s.sched.nextSeq }
        carts := { s.carts with chutes := s.carts.chutes.set j ({ c with queue := q } : Chute).fullTest } } := by
  subst hq
  exact modifyChute_eq (s := withSched { s.sched with nextSeq := nextSerial s.sched.nextSeq } s) hc _

/-- The head of a chute's queue armed in TRACKING (R103). -/
theorem armHead_eq (ht : s.isTracking = true) (hc : s.carts.chutes[j]? = some c) (hq : c.queue ≠ []) :
    armHead j s = { s with carts := { s.carts with chutes := s.carts.chutes.set j (c.headArmed true s.tracker.speed) } } := by
  unfold armHead
  rw [if_pos ht, modifyChute_eq hc]
  cases hcq : c.queue with
  | nil => exact absurd hcq hq
  | cons o rest =>
    have harm : c.headArmed true s.tracker.speed = c.arm o.tray s.tracker.speed := by
      unfold Chute.headArmed
      split
      · rename_i hnil
        exact absurd hnil hq
      · rename_i o' rest' hcons
        obtain rfl : o' = o := (List.cons.inj (hcons.symm.trans hcq)).1
        rfl
    rw [harm]

/-- A chute monitor that an evaluation leaves armed changes nothing. -/
theorem evalHead_of_stays (h : s.HeadStays j) : evalHead 0 j s = s := by
  have hstay : s.headDecision 0 j = .stay := by
    unfold State.headDecision
    split
    · rename_i g c hg hc
      split
      · rename_i m hm
        rw [evalApproach_zero, decideMonitor_stay]
        exact h g c m hg hc hm
      · rfl
    · rfl
  unfold evalHead
  cases ((s.chute? j).map (fun c => c.queue.length)).getD 0 with
  | zero => rfl
  | succ n =>
    unfold runHead
    rw [hstay]

/-- An order queued at a chute that held orders is not decided by it (R101). -/
theorem queueOrder_behind {write : Nat → State → State} (hc : s.carts.chutes[j]? = some c) (hq : c.queue ≠ []) :
    queueOrder j k kind reason tag write s = write s.sched.nextSeq (placeOrder j k kind reason tag s) := by
  have hc' : s.chute? j = some c := hc
  unfold queueOrder
  rw [hc']
  exact if_neg hq

/-- An order queued at a chute without orders: its monitor arms and is evaluated at once (R101, R103). -/
theorem queueOrder_first {write : Nat → State → State} (hc : s.carts.chutes[j]? = some c) (hq : c.queue = []) :
    queueOrder j k kind reason tag write s =
      evalHead 0 j (armHead j (write s.sched.nextSeq (placeOrder j k kind reason tag s))) := by
  have hc' : s.chute? j = some c := hc
  unfold queueOrder
  rw [hc']
  exact if_pos hq

end

/-- Settles O26. -/
theorem passRouted : Obligations.PassRouted := by
  unfold Obligations.PassRouted
  rintro k tag1 tag2 n1 n2 lap source set r s b g x y rec hg ho hx hroutes rfl rfl hb hr hy hrec
  obtain ⟨htracker, harch, hsession, hlink, hsched, htrays⟩ := hb.unchanged
  rw [← harch] at hy
  have hpass : tscnOp g.archStation (.full { tray := k, occupancy := 1, tag1 := tag1, tag2 := tag2 }) s =
      applyRoute k rec y.2.route y.1 := by
    rw [tscnOp_eq hg ho hx (.inl rfl), if_pos rfl]
    refine (hb.passTray_eq hx).trans ?_
    rw [passBag_routed (s := b.scanTaken) (hb.routes.trans hroutes) hr hy, hrec]
    rfl
  obtain ⟨router, m, -, hy1⟩ := hy ▸ resolveRoute_routerOnly k r.tag r.verdict (countLookups lap set b.scanTaken)
  rw [countLookups_scanTaken] at hy1
  refine ⟨applyRoute k rec y.2.route y.1, congrArg done hpass, hpass ▸ tscnOp_frame _ _ _, fun hroute => ?_,
    fun j kind c d near z new hroute hc hnear hz hnew hd => ?_⟩
  · rw [hroute, hy1]
    rfl
  · have htell : applyRoute k rec y.2.route y.1 =
        queueOrder j k kind (kind.orderReason rec.reason) rec.tag (fun seq s => putTray k (rec.route j seq) s) z := by
      rw [hroute, hz]
      cases kind <;> rfl
    have hstrays : StraysOnly y.1 z := by
      rw [hz]
      split
      · exact reinduct_straysOnly _ _ _ _
      · exact ⟨y.1.strays, y.1.mgmt, rfl⟩
    obtain ⟨strays, m', hzy⟩ := hstrays
    have hzcarts : z.carts = b.carts := by rw [hzy, hy1]; rfl
    have hztrays : z.trays = b.trays := by rw [hzy, hy1]; rfl
    have hzsched : z.sched = s.sched := by rw [hzy, hy1]; exact hsched
    have hztracker : z.tracker = s.tracker := by rw [hzy, hy1]; exact htracker
    have hzc : z.carts.chutes[j]? = some c := hzcarts ▸ hc
    have hznear : z.nearer c.cfg.loc k = near := by
      unfold State.nearer
      rw [hztracker, hg, hnear]
    have hwritten : ∀ q : List Order, q = insertOrder near new c.queue → q.length = c.queue.length + 1 →
        putTray k (rec.route j z.sched.nextSeq) (placeOrder j k kind (kind.orderReason rec.reason) rec.tag z) =
          { z with
            trays := b.trays.set k { rec with state := .routed, target := some j, seq := some s.sched.nextSeq }
            sched := { s.sched with nextSeq := if s.sched.nextSeq < 65535 then s.sched.nextSeq + 1 else 1 }
            carts := { b.carts with chutes := b.carts.chutes.set j { d with queue := q } } } := by
      intro q hq hlen
      have hnew' : { tray := k, seq := z.sched.nextSeq, kind := kind, reason := kind.orderReason rec.reason, tag := rec.tag } =
          new := by
        rw [hnew, hzsched]
        cases kind <;> rfl
      rw [placeOrder_eq hzc (q := q) (by rw [hznear, hnew', hq]), Chute.fullTest_eq, hlen, hd, ← hzcarts, ← hzsched, ← hztrays]
      rfl
    rw [htell]
    refine ⟨fun hq => ?_, fun hq => ?_⟩
    · obtain ⟨before, after, hsplit, hafter, hbefore, hins⟩ := insertOrder_split near new c.queue
      refine ⟨before, after, hsplit, hafter, hbefore, ?_⟩
      rw [queueOrder_behind hzc hq]
      exact hwritten _ hins.symm (by simp [hsplit]; omega)
    · have hins : [new] = insertOrder near new c.queue := by rw [hq]; rfl
      refine ⟨_, queueOrder_first hzc hq, fun h => (queueOrder_first hzc hq).trans (evalHead_of_stays h), ?_⟩
      have hj : j < b.carts.chutes.length := (List.getElem?_eq_some_iff.1 hc).1
      have ht : z.isTracking = true := by
        have := hroutes
        simp only [State.routes, Bool.and_eq_true] at this
        rw [State.isTracking, hztracker]
        exact this.1.2
      rw [hwritten [new] hins (by simp [hq]), armHead_eq (c := { d with queue := [new] })]
      · simp only [List.set_set, hztracker]
      · exact ht
      · exact List.getElem?_set_self hj
      · exact nofun

end Sys2Proof.Machine
end

section
/-! # The arbiters of the two ports (sections 10.3 and 10.6) -/

namespace Sys2Proof.Machine

open Sys2Proof

/-! ## A port that begins a frame -/

section
variable {p : Port} {next : Option Tx}

theorem Port.start_busy {x : Tx} (h : p.tx = some x) : p.start next = p := by simp [Port.start, h]

theorem Port.start_none (p : Port) : p.start none = p := by simp [Port.start]

theorem Port.start_some {t : Tx} (h : p.tx = none) :
    p.start (some t) = { p with tx := some t, trainDue := if t.cls = .training then false else p.trainDue } := by
  simp [Port.start, h]

/-- A free transmitter begins the frame chosen. -/
theorem Port.start_tx (h : p.tx = none) : (p.start next).tx = next := by
  cases next with
  | none => rw [Port.start_none, h]
  | some t => rw [Port.start_some h]

/-- The choice changes the transmitter and the training frame that is due, nothing else of the port. -/
theorem Port.start_frame (p : Port) (next : Option Tx) :
    p.start next = { p with tx := (p.start next).tx, trainDue := (p.start next).trainDue } := by
  unfold Port.start
  split
  · rfl
  · split <;> rfl

end

/-! ## The queues of the DOWN port (R181) -/

theorem beginHead_begun (l : List TimedFrame) :
    (beginHead l).map (fun e => { e with begun := false }) = l.map (fun e => { e with begun := false }) := by
  cases l <;> rfl

theorem beginIref_begun (l : List Iref) :
    (beginIref l).map (fun r => { r with begun := false }) = l.map (fun r => { r with begun := false }) := by
  cases l <;> rfl

theorem settle_timing_begun (s : State) :
    (settle s).link.timing.map (fun e => { e with begun := false }) = s.link.timing.map (fun e => { e with begun := false }) := by
  change (if s.downStarts = some .timing then beginHead s.link.timing else s.link.timing).map _ = _
  split
  · exact beginHead_begun _
  · rfl

/-- The unsent IREF frames as the arbiter leaves them. -/
theorem settle_irefs (s : State) :
    (settle s).link.irefs = s.link.irefs ∨ (settle s).link.irefs = beginIref s.link.irefs := by
  unfold settle
  dsimp only
  split
  · exact .inr rfl
  · exact .inl rfl

theorem settle_irefs_begun (s : State) :
    (settle s).link.irefs.map (fun r => { r with begun := false }) = s.link.irefs.map (fun r => { r with begun := false }) := by
  rcases settle_irefs s with h | h
  · rw [h]
  · rw [h, beginIref_begun]

section
variable {s : State}

theorem settle_down_tx (h : s.link.down.tx = none) : (settle s).link.down.tx = s.nextDown := Port.start_tx h

theorem settle_up_tx (h : s.link.up.tx = none) : (settle s).link.up.tx = s.nextUp := Port.start_tx h

theorem downStarts_free (h : s.link.down.tx = none) : s.downStarts = s.nextDown.map Tx.cls := by
  unfold State.downStarts
  rw [h]
  rfl

/-- A frame that the DOWN arbiter takes from the timing queue is its head, begun. -/
theorem settle_timing_started {t : Tx} (h : s.link.down.tx = none) (hn : s.nextDown = some t) (ht : t.cls = .timing) :
    (settle s).link.timing = beginHead s.link.timing := by
  refine if_pos ?_
  rw [downStarts_free h, hn, Option.map_some, ht]

/-- An IREF that the DOWN arbiter takes is the oldest, begun. -/
theorem settle_irefs_started {t : Tx} {i : Nat} (h : s.link.down.tx = none) (hn : s.nextDown = some t) (ht : t.cls = .iref i) :
    (settle s).link.irefs = beginIref s.link.irefs := by
  have hd : s.downStarts = some (.iref i) := by rw [downStarts_free h, hn, Option.map_some, ht]
  unfold settle
  rw [hd]

/-! ## The choice of each port -/

/-- The choice of a DOWN port in UP. -/
theorem nextDown_up (h : s.link.down.state = .up) :
    (s.link.down.answer = true → s.nextDown = some { cls := .answer, frame := s.link.down.training s.link.own }) ∧
    (s.link.down.answer = false →
      (∀ e rest, s.link.timing = e :: rest →
        s.nextDown = some { cls := .timing, frame := e.frame s.link.own s.link.down.seq }) ∧
      (s.link.timing = [] →
        (∀ f rest, s.link.down.forward = f :: rest → s.nextDown = some { cls := .forward, frame := f }) ∧
        (s.link.down.forward = [] →
          s.nextDown = s.link.irefs.head?.map (fun r => { cls := .iref r.line, frame := s.irefFrame r })))) := by
  unfold State.nextDown
  rw [h]
  dsimp only
  refine ⟨fun ha => if_pos ha, fun ha => ?_⟩
  rw [if_neg (by simp [ha])]
  refine ⟨fun e rest ht => by rw [ht], fun ht => ?_⟩
  rw [ht]
  exact ⟨fun f rest hf => by rw [hf], fun hf => by rw [hf]⟩

/-- The choice of an UP port in UP. -/
theorem nextUp_up (h : s.link.up.state = .up) :
    (s.link.up.answer = true → s.nextUp = some { cls := .answer, frame := s.link.up.training s.link.own }) ∧
    (s.link.up.answer = false →
      (∀ r rest, s.mgmt.replies = r :: rest → s.nextUp = some { cls := .reply, frame := r.frame s.link.own }) ∧
      (s.mgmt.replies = [] →
        (∀ f rest, s.link.up.forward = f :: rest → s.nextUp = some { cls := .forward, frame := f }) ∧
        (s.link.up.forward = [] →
          (∀ r rest, s.carts.reports = r :: rest →
            s.nextUp = some
              { cls := .cart
                frame :=
                  { dst := s.hostDst, src := s.link.own, kind := 0x62, seq := s.link.up.seq
                    payload := r.payload s.carts.cartPart } }) ∧
          (s.carts.reports = [] →
            s.nextUp = s.mgmt.notices.head?.map
              (fun n =>
                { cls := .note
                  frame :=
                    { dst := s.hostDst, src := s.link.own, kind := 0x61, seq := s.link.up.seq, payload := n.payload } }))))) := by
  unfold State.nextUp
  rw [h]
  dsimp only
  refine ⟨fun ha => if_pos ha, fun ha => ?_⟩
  rw [if_neg (by simp [ha])]
  refine ⟨fun r rest hr => by rw [hr], fun hr => ?_⟩
  rw [hr]
  refine ⟨fun f rest hf => by rw [hf], fun hf => ?_⟩
  rw [hf]
  exact ⟨fun r rest hc => by rw [hc], fun hc => by rw [hc]⟩

/-- The choice of the arbiter of the port named. -/
def State.nextAt (s : State) : PortId → Option Tx
  | .up => s.nextUp
  | .down => s.nextDown

theorem settle_port (s : State) (p : PortId) : (settle s).link.port p = (s.link.port p).start (s.nextAt p) := by
  cases p <;> rfl

theorem nextAt_answer {p : PortId} (h : (s.link.port p).state = .up) (ha : (s.link.port p).answer = true) :
    s.nextAt p = some { cls := .answer, frame := (s.link.port p).training s.link.own } := by
  cases p with
  | up => exact (nextUp_up h).1 ha
  | down => exact (nextDown_up h).1 ha

theorem nextAt_training {p : PortId} (h : (s.link.port p).state = .training) :
    s.nextAt p =
      if (s.link.port p).trainDue then some { cls := .training, frame := (s.link.port p).training s.link.own } else none := by
  cases p with
  | up =>
    change s.nextUp = _
    unfold State.nextUp
    rw [show s.link.up.state = .training from h]
    rfl
  | down =>
    change s.nextDown = _
    unfold State.nextDown
    rw [show s.link.down.state = .training from h]
    rfl

/-- A port in DOWN begins nothing. -/
theorem nextAt_down {p : PortId} (h : (s.link.port p).state = .down) : s.nextAt p = none := by
  cases p with
  | up =>
    change s.nextUp = _
    unfold State.nextUp
    rw [show s.link.up.state = .down from h]
  | down =>
    change s.nextDown = _
    unfold State.nextDown
    rw [show s.link.down.state = .down from h]

theorem nextDown_cls (h : s.link.down.state = .up) :
    s.nextDown.map Tx.cls =
      if s.link.down.answer then some .answer
      else if s.link.timing ≠ [] then some .timing
      else if s.link.down.forward ≠ [] then some .forward
      else s.link.irefs.head?.map (fun r => .iref r.line) := by
  obtain ⟨hanswer, hrest⟩ := nextDown_up h
  cases ha : s.link.down.answer with
  | true => rw [hanswer ha]; rfl
  | false =>
    obtain ⟨htiming, hrest⟩ := hrest ha
    cases ht : s.link.timing with
    | cons e rest => rw [htiming e rest ht]; rfl
    | nil =>
      obtain ⟨hforward, hiref⟩ := hrest ht
      cases hf : s.link.down.forward with
      | cons f rest => rw [hforward f rest hf]; rfl
      | nil => rw [hiref hf, Option.map_map]; rfl

theorem nextUp_cls (h : s.link.up.state = .up) :
    s.nextUp.map Tx.cls =
      if s.link.up.answer then some .answer
      else if s.mgmt.replies ≠ [] then some .reply
      else if s.link.up.forward ≠ [] then some .forward
      else if s.carts.reports ≠ [] then some .cart
      else if s.mgmt.notices ≠ [] then some .note
      else none := by
  obtain ⟨hanswer, hrest⟩ := nextUp_up h
  cases ha : s.link.up.answer with
  | true => rw [hanswer ha]; rfl
  | false =>
    obtain ⟨hreply, hrest⟩ := hrest ha
    cases hr : s.mgmt.replies with
    | cons r rest => rw [hreply r rest hr]; rfl
    | nil =>
      obtain ⟨hforward, hrest⟩ := hrest hr
      cases hf : s.link.up.forward with
      | cons f rest => rw [hforward f rest hf]; rfl
      | nil =>
        obtain ⟨hcart, hnote⟩ := hrest hf
        cases hc : s.carts.reports with
        | cons r rest => rw [hcart r rest hc]; rfl
        | nil =>
          rw [hnote hc]
          cases s.mgmt.notices <;> rfl

end

/-- Settles O57. -/
theorem arbiterOrder : Obligations.ArbiterOrder := by
  unfold Obligations.ArbiterOrder
  intro s
  refine ⟨?frame, settle_timing_begun s, settle_irefs_begun s, fun x h => ?downBusy, fun x h => ?upBusy,
    fun h hu => ?downClass, fun e rest h hu ha ht => ?timing, fun h hu => ?upClass, fun r rest h hu ha hr => ?reply,
    fun p x hx h hu ha => ?answer, fun f rest h hu ha ht hf => ?forwardDown, fun r rest l c h hu ha ht hf hr hl hc => ?iref,
    fun f rest h hu ha hr hf => ?forwardUp, fun r rest h hu ha hr hf hc => ?cart, fun n rest h hu ha hr hf hc hn => ?note,
    fun p x hx h htr => ?training, fun h hx => ?idleDown, fun h hx => ?idleUp⟩
  case frame =>
    have hup := Port.start_frame s.link.up s.nextUp
    have hdown := Port.start_frame s.link.down s.nextDown
    unfold settle
    dsimp only
    rw [← hup, ← hdown]
  case downBusy =>
    rw [show (settle s).link.down = s.link.down from Port.start_busy h]
    exact h
  case upBusy =>
    rw [show (settle s).link.up = s.link.up from Port.start_busy h]
    exact h
  case downClass => rw [settle_down_tx h, nextDown_cls hu]
  case timing =>
    have hn := ((nextDown_up hu).2 ha).1 e rest ht
    rw [settle_down_tx h, hn, settle_timing_started h hn rfl, ht]
    exact ⟨rfl, rfl⟩
  case upClass => rw [settle_up_tx h, nextUp_cls hu]
  case reply =>
    rw [settle_up_tx h, ((nextUp_up hu).2 ha).1 r rest hr]
    rfl
  case answer =>
    subst hx
    rw [settle_port, Port.start_tx h, nextAt_answer hu ha]
    rfl
  case forwardDown => rw [settle_down_tx h, (((nextDown_up hu).2 ha).2 ht).1 f rest hf]
  case iref =>
    have hn := (((nextDown_up hu).2 ha).2 ht).2 hf
    have hst : s.lineStation r.line = c.station := by simp [State.lineStation, hl, hc]
    rw [hr, List.head?_cons, Option.map_some] at hn
    rw [settle_down_tx h, hn, settle_irefs_started h hn rfl, hr, State.irefFrame, hst]
    exact ⟨rfl, rfl⟩
  case forwardUp => rw [settle_up_tx h, (((nextUp_up hu).2 ha).2 hr).1 f rest hf]
  case cart =>
    rw [settle_up_tx h, ((((nextUp_up hu).2 ha).2 hr).2 hf).1 r rest hc]
    rfl
  case note =>
    rw [settle_up_tx h, ((((nextUp_up hu).2 ha).2 hr).2 hf).2 hc, hn]
    rfl
  case training =>
    subst hx
    rw [settle_port, nextAt_training htr]
    refine ⟨fun hd => ?_, fun hd => ?_⟩
    · rw [if_neg (by simp [hd]), Port.start_none]
    · rw [if_pos hd, Port.start_some h]
      rfl
  case idleDown =>
    have hport := settle_port s .down
    rw [nextAt_down (p := .down) h, Port.start_none] at hport
    exact hport
  case idleUp =>
    have hport := settle_port s .up
    rw [nextAt_down (p := .up) h, Port.start_none] at hport
    exact hport

end Sys2Proof.Machine
end

section
/-! # The laws of the trays, the lines and the chutes through the change of one tray or of one chute (R24, R29, R100, R129, R133) -/

namespace Sys2Proof.Machine

open Sys2Proof

/-! ## The law of the lines, with reservations whose monitor has been disarmed -/

/-- The law of the lines, part by part; without `armed` a RESERVED line may be disarmed, as it is within an entry to LOST
and a field link fault before its reservation is released (R8, R41, R183). -/
structure State.LineLawAt (armed : Prop) (s : State) : Prop where
  reserved : ∀ (i : Nat) (l : Line) (k a b : Nat), s.lines[i]? = some l → l.state = .reserved k a b →
    ∃ x : Tray, s.trays[k]? = some x ∧ x.state = .reserved ∧ x.source = some i
  launched : ∀ (i : Nat) (l : Line) (k a b : Nat), s.lines[i]? = some l → l.state = .launched k a b →
    ∃ x : Tray, s.trays[k]? = some x ∧ x.state = .launching ∧ x.source = some i
  watched : ∀ (i : Nat) (l : Line) (m : Monitor), s.lines[i]? = some l → l.mon = some m → ∃ a b, l.state = .reserved m.tray a b
  armed : armed → ∀ (i : Nat) (l : Line) (k a b : Nat), s.lines[i]? = some l → l.state = .reserved k a b → l.mon ≠ none
  ofReserved : ∀ (k : Nat) (x : Tray), s.trays[k]? = some x → x.state = .reserved →
    ∃ (i : Nat) (l : Line) (a b : Nat), x.source = some i ∧ s.lines[i]? = some l ∧ l.state = .reserved k a b
  ofLaunching : ∀ (k : Nat) (x : Tray), s.trays[k]? = some x → x.state = .launching →
    ∃ (i : Nat) (l : Line) (a b : Nat), x.source = some i ∧ s.lines[i]? = some l ∧ l.state = .launched k a b

theorem lineLaw_iff (s : State) : s.LineLaw ↔ s.LineLawAt True := by
  constructor
  · rintro ⟨h, hr, hl⟩
    refine ⟨fun i l k a b hi hs => ?_, fun i l k a b hi hs => ?_, fun i l m hi hm => ?_, fun _ i l k a b hi hs => ?_, hr, hl⟩
    all_goals have hx := h i l hi
    · simp only [hs] at hx
      exact hx.1
    · simp only [hs] at hx
      exact hx.2
    · cases hs : l.state with
      | reserved k a b =>
        simp only [hs, hm] at hx
        obtain ⟨-, m', hm', rfl⟩ := hx
        obtain rfl : m = m' := Option.some.inj hm'
        exact ⟨a, b, rfl⟩
      | _ => simp [hs, hm] at hx
    · simp only [hs] at hx
      obtain ⟨-, m, hm, -⟩ := hx
      simp [hm]
  · rintro ⟨hr, hl, hw, ha, hor, hol⟩
    refine ⟨fun i l hi => ?_, hor, hol⟩
    have quiet : (∀ k a b, l.state ≠ .reserved k a b) → l.mon = none := by
      intro hn
      cases hm : l.mon with
      | none => rfl
      | some m =>
        obtain ⟨a, b, hs⟩ := hw i l m hi hm
        exact absurd hs (hn _ _ _)
    split
    · rename_i hs
      exact quiet (by simp [hs])
    · rename_i hs
      exact quiet (by simp [hs])
    · rename_i k a b hs
      refine ⟨hr i l k a b hi hs, ?_⟩
      obtain ⟨m, hm⟩ := Option.ne_none_iff_exists'.1 (ha trivial i l k a b hi hs)
      obtain ⟨a', b', hs'⟩ := hw i l m hi hm
      rw [hs, LineState.reserved.injEq] at hs'
      exact ⟨m, hm, hs'.1.symm⟩
    · rename_i k a b hs
      exact ⟨quiet (by simp [hs]), hl i l k a b hi hs⟩

/-! ## Lists that stand to each other element by element -/

/-- A tray stands, or neither before nor after is in one of these states. -/
def TrayBut (st : TrayState → Prop) (x x' : Tray) : Prop := x' = x ∨ (¬ st x.state ∧ ¬ st x'.state)

theorem TrayBut.refl (st : TrayState → Prop) (x : Tray) : TrayBut st x x := .inl rfl

/-- The states of a tray that go with an induction line (R29). -/
def TrayState.lined (st : TrayState) : Prop := st = .reserved ∨ st = .launching

/-- The states of a tray whose pending drop is in a cart list (R24). -/
def TrayState.dropped (st : TrayState) : Prop := st = .dropping ∨ st = .doubt

/-- A line stands as the law of the lines sees it; without `armed` it may be disarmed. -/
def LineStands (armed : Prop) (l l' : Line) : Prop :=
  l'.state = l.state ∧ (l'.mon.map Monitor.tray = l.mon.map Monitor.tray ∨ ¬ armed ∧ l'.mon = none)

theorem LineStands.refl (b : Prop) (l : Line) : LineStands b l l := ⟨rfl, .inl rfl⟩
/-- A pair of records at one place of two lists that stand to each other element by element. -/
theorem forall₂_get_right {α β : Type} {R : α → β → Prop} {l : List α} {m : List β} (h : List.Forall₂ R l m) {i : Nat} {y : β}
    (hy : m[i]? = some y) : ∃ x, l[i]? = some x ∧ R x y := by
  obtain ⟨hlen, hget⟩ := List.forall₂_iff_get.1 h
  obtain ⟨hi, rfl⟩ := List.getElem?_eq_some_iff.1 hy
  exact ⟨l[i], List.getElem?_eq_getElem _, hget i (by omega) hi⟩

theorem forall₂_get_left {α β : Type} {R : α → β → Prop} {l : List α} {m : List β} (h : List.Forall₂ R l m) {i : Nat} {x : α}
    (hx : l[i]? = some x) : ∃ y, m[i]? = some y ∧ R x y := by
  obtain ⟨hlen, hget⟩ := List.forall₂_iff_get.1 h
  obtain ⟨hi, rfl⟩ := List.getElem?_eq_some_iff.1 hx
  exact ⟨m[i], List.getElem?_eq_getElem _, hget i hi (by omega)⟩

/-- One record changed where it stands. -/
theorem forall₂_modify_at {α : Type} {R : α → α → Prop} {f : α → α} (hr : ∀ a, R a a) :
    ∀ (l : List α) (i : Nat), (∀ a, l[i]? = some a → R a (f a)) → List.Forall₂ R l (l.modify i f)
  | [], i, _ => by cases i <;> exact .nil
  | a :: l, 0, h => .cons (h a rfl) (forall₂_self hr l)
  | a :: l, i + 1, h => .cons (hr a) (forall₂_modify_at hr l i h)

theorem forall₂_map {α : Type} {R : α → α → Prop} {f : α → α} (h : ∀ a, R a (f a)) (l : List α) :
    List.Forall₂ R l (l.map f) := by
  induction l with
  | nil => exact .nil
  | cons a l ih => exact .cons (h a) ih

theorem forall₂_set {α : Type} {R : α → α → Prop} (hr : ∀ a, R a a) {l : List α} {i : Nat} {a a' : α} (h : l[i]? = some a)
    (ha : R a a') : List.Forall₂ R l (l.set i a') := by
  have := forall₂_modify_at (f := fun _ => a') hr l i (fun x hx => by
    rw [h] at hx
    cases hx
    exact ha)
  rwa [set_eq_modify_of_get h] at this

section
variable {b : Prop} {s t u : State} {k j : Nat} {x y : Tray} {c d : Chute}

/-! ## The tags (R24) -/

/-- Tags that stand or are cleared. -/
theorem State.TagLaw.keep (h : s.TagLaw) (ht : List.Forall₂ (fun x x' : Tray => x'.tag = x.tag ∨ x'.tag = 0) s.trays t.trays) :
    t.TagLaw := by
  intro i i' x' y' hx' hy' h0 he
  obtain ⟨x, hx, hxt⟩ := forall₂_get_right ht hx'
  obtain ⟨y, hy, hyt⟩ := forall₂_get_right ht hy'
  have hxt' : x'.tag = x.tag := hxt.resolve_right h0
  have hyt' : y'.tag = y.tag := hyt.resolve_right (he ▸ h0)
  exact h i i' x y hx hy (hxt' ▸ h0) (by rw [← hxt', ← hyt', he])

/-- A tag that stands in no other tray record. -/
theorem State.TagLaw.fresh (h : s.TagLaw) (ht : t.trays = s.trays.set k y)
    (hy : y.tag ≠ 0 → ∀ (i : Nat) (z : Tray), i ≠ k → s.trays[i]? = some z → z.tag ≠ y.tag) : t.TagLaw := by
  intro i i' x' y' hx' hy' h0 he
  rw [ht, List.getElem?_set] at hx' hy'
  by_cases hi : k = i <;> by_cases hi' : k = i'
  · exact hi.symm.trans hi'
  · simp only [if_pos hi, if_neg hi'] at hx' hy'
    obtain rfl : x' = y := by grind
    exact absurd he.symm (hy h0 i' y' (Ne.symm hi') hy')
  · simp only [if_neg hi, if_pos hi'] at hx' hy'
    obtain rfl : y' = y := by grind
    exact absurd he (hy (he ▸ h0) i x' (Ne.symm hi) hx')
  · simp only [if_neg hi, if_neg hi'] at hx' hy'
    exact h i i' x' y' hx' hy' h0 he

/-! ## The lines (R29) -/

/-- Lines that stand, with every RESERVED and LAUNCHING tray. -/
theorem State.LineLawAt.keep (h : s.LineLawAt b) (ht : List.Forall₂ (TrayBut TrayState.lined) s.trays t.trays)
    (hl : List.Forall₂ (LineStands b) s.lines t.lines) : t.LineLawAt b := by
  have lined : ∀ {k : Nat} {x : Tray}, x.state.lined → (s.trays[k]? = some x ↔ t.trays[k]? = some x) := by
    refine fun {k x} hx => ⟨fun h => ?_, fun h => ?_⟩
    · obtain ⟨x', hx', rfl | ⟨hn, -⟩⟩ := forall₂_get_left ht h
      · exact hx'
      · exact absurd hx hn
    · obtain ⟨x', hx', rfl | ⟨-, hn⟩⟩ := forall₂_get_right ht h
      · exact hx'
      · exact absurd hx hn
  refine ⟨fun i l' k m n hl' hst => ?_, fun i l' k m n hl' hst => ?_, fun i l' m hl' hm => ?_, fun hb i l' k m n hl' hst => ?_,
    fun k x hx hst => ?_, fun k x hx hst => ?_⟩
  · obtain ⟨l, hli, hll, -⟩ := forall₂_get_right hl hl'
    obtain ⟨x, hx, hxs, hi⟩ := h.reserved i l k m n hli (hll ▸ hst)
    exact ⟨x, (lined (.inl hxs)).1 hx, hxs, hi⟩
  · obtain ⟨l, hli, hll, -⟩ := forall₂_get_right hl hl'
    obtain ⟨x, hx, hxs, hi⟩ := h.launched i l k m n hli (hll ▸ hst)
    exact ⟨x, (lined (.inr hxs)).1 hx, hxs, hi⟩
  · obtain ⟨l, hli, hll, hmon | ⟨-, hmon⟩⟩ := forall₂_get_right hl hl'
    · rw [hm, Option.map_some, eq_comm, Option.map_eq_some_iff] at hmon
      obtain ⟨m', hm', htray⟩ := hmon
      obtain ⟨x, y, hst⟩ := h.watched i l m' hli hm'
      exact ⟨x, y, by rw [hll, hst, htray]⟩
    · simp [hm] at hmon
  · obtain ⟨l, hli, hll, hmon | ⟨hnb, -⟩⟩ := forall₂_get_right hl hl'
    · have := h.armed hb i l k m n hli (hll ▸ hst)
      intro hn
      rw [hn, Option.map_none, eq_comm, Option.map_eq_none_iff] at hmon
      exact this hmon
    · exact absurd hb hnb
  · obtain ⟨i, l, m, n, hi, hli, hls⟩ := h.ofReserved k x ((lined (.inl hst)).2 hx) hst
    obtain ⟨l', hl', hll, -⟩ := forall₂_get_left hl hli
    exact ⟨i, l', m, n, hi, hl', hll.trans hls⟩
  · obtain ⟨i, l, m, n, hi, hli, hls⟩ := h.ofLaunching k x ((lined (.inr hst)).2 hx) hst
    obtain ⟨l', hl', hll, -⟩ := forall₂_get_left hl hli
    exact ⟨i, l', m, n, hi, hl', hll.trans hls⟩

/-! ## Lists of the chutes that stand one to one with the trays of one state (R100, R129) -/

/-- Every entry of one list of each chute names a tray of one state, whose target is the chute and whose sequence the entry's,
no two of a list name one tray, and every tray of the state has its entry: the orders with the ROUTED trays, the
confirmations with the DROPPING ones. -/
structure Assigned {α : Type} (st : TrayState) (list : Chute → List α) (tray seq : α → Nat) (s : State) : Prop where
  nodup : ∀ (j : Nat) (c : Chute), s.carts.chutes[j]? = some c → ((list c).map tray).Nodup
  named : ∀ (j : Nat) (c : Chute), s.carts.chutes[j]? = some c → ∀ a ∈ list c,
    ∃ x : Tray, s.trays[tray a]? = some x ∧ x.state = st ∧ x.target = some j ∧ x.seq = some (seq a)
  listed : ∀ (k : Nat) (x : Tray), s.trays[k]? = some x → x.state = st →
    ∃ (j : Nat) (c : Chute), x.target = some j ∧ s.carts.chutes[j]? = some c ∧ ∃ a ∈ list c, tray a = k

/-- The modes that hold no order (R100). -/
def Mode.orderless (m : Mode) : Prop := m ∈ [.idle, .setup, .drained]

theorem orderLaw_iff (s : State) : s.OrderLaw ↔
    Assigned .routed Chute.queue Order.tray Order.seq s ∧ (s.mode.orderless → ∀ c ∈ s.carts.chutes, c.queue = []) :=
  ⟨fun ⟨h1, h2, h3⟩ => ⟨⟨fun j c hc => (h1 j c hc).1, fun j c hc => (h1 j c hc).2, h2⟩, h3⟩,
    fun ⟨h1, h2⟩ => ⟨fun j c hc => ⟨h1.nodup j c hc, h1.named j c hc⟩, h1.listed, h2⟩⟩

theorem confirmationLaw_iff (s : State) : s.ConfirmationLaw ↔
    Assigned .dropping Chute.awaiting Confirmation.tray Confirmation.seq s ∧
      (s.mode ∉ [.sorting, .draining] → ∀ x ∈ s.trays, x.state ≠ .dropping) :=
  ⟨fun ⟨h1, h2, h3⟩ => ⟨⟨fun j c hc => (h1 j c hc).1, fun j c hc => (h1 j c hc).2, h2⟩, h3⟩,
    fun ⟨h1, h2⟩ => ⟨fun j c hc => ⟨h1.nodup j c hc, h1.named j c hc⟩, h1.listed, h2⟩⟩

section
variable {α : Type} {st : TrayState} {list : Chute → List α} {tray seq : α → Nat} {a : α}

/-- The tray of an entry has no entry at another chute. -/
theorem Assigned.elsewhere (h : Assigned st list tray seq s) {i : Nat} {e : α} (hc : s.carts.chutes[j]? = some c)
    (ha : a ∈ list c) (hd : s.carts.chutes[i]? = some d) (he : e ∈ list d) (hk : tray e = tray a) : i = j := by
  obtain ⟨x, hx, -, hxj, -⟩ := h.named j c hc a ha
  obtain ⟨x', hx', -, hxi, -⟩ := h.named i d hd e he
  rw [hk, hx] at hx'
  cases hx'
  rw [hxj] at hxi
  exact (Option.some.inj hxi).symm

/-- A tray in another state has no entry. -/
theorem Assigned.unnamed (h : Assigned st list tray seq s) (hx : s.trays[k]? = some x) (hs : x.state ≠ st)
    (hc : s.carts.chutes[j]? = some c) (ha : a ∈ list c) : tray a ≠ k := by
  rintro rfl
  obtain ⟨x', hx', hs', -⟩ := h.named j c hc a ha
  rw [hx] at hx'
  cases hx'
  exact hs hs'

/-- Lists that stand, with every tray of the state. -/
theorem Assigned.keep (h : Assigned st list tray seq s) (ht : List.Forall₂ (TrayBut (· = st)) s.trays t.trays)
    (hc : List.Forall₂ (fun c c' => list c' = list c) s.carts.chutes t.carts.chutes) : Assigned st list tray seq t := by
  refine ⟨fun j c' hc' => ?_, fun j c' hc' a ha => ?_, fun k x' hx' hxs => ?_⟩
  · obtain ⟨c, hj, hl⟩ := forall₂_get_right hc hc'
    exact hl ▸ h.nodup j c hj
  · obtain ⟨c, hj, hl⟩ := forall₂_get_right hc hc'
    obtain ⟨x, hx, hxs, hrest⟩ := h.named j c hj a (hl ▸ ha)
    obtain ⟨x', hx', rfl | ⟨hn, -⟩⟩ := forall₂_get_left ht hx
    · exact ⟨x', hx', hxs, hrest⟩
    · exact absurd hxs hn
  · obtain ⟨x, hx, rfl | ⟨-, hn⟩⟩ := forall₂_get_right ht hx'
    · obtain ⟨j, c, hj, hcj, ha⟩ := h.listed k x' hx hxs
      obtain ⟨c', hc', hl⟩ := forall₂_get_left hc hcj
      exact ⟨j, c', hj, hc', hl ▸ ha⟩
    · exact absurd hxs hn

/-- No tray of the state, where none was before. -/
theorem absent_keep (h : ∀ x ∈ s.trays, x.state ≠ st) (ht : List.Forall₂ (TrayBut (· = st)) s.trays t.trays) :
    ∀ x ∈ t.trays, x.state ≠ st := by
  intro x' hx' hs
  obtain ⟨k, hk⟩ := List.mem_iff_getElem?.1 hx'
  obtain ⟨x, hx, rfl | ⟨-, hn⟩⟩ := forall₂_get_right ht hk
  · exact h x' (List.mem_of_getElem? hx) hs
  · exact hn hs

theorem getElem?_set_of_get {β : Type} {l : List β} {i : Nat} {a : β} (h : l[i]? = some a) (a' : β) (n : Nat) :
    (l.set i a')[n]? = if i = n then some a' else l[n]? := by
  rw [List.getElem?_set, if_pos (List.getElem?_eq_some_iff.1 h).1]

/-- One entry leaves its list, and its tray the state. -/
theorem Assigned.leave (h : Assigned st list tray seq s) (hx : s.trays[tray a]? = some x)
    (ht : t.trays = s.trays.set (tray a) y) (hy : y.state ≠ st) (hc : s.carts.chutes[j]? = some c) (ha : a ∈ list c)
    (hd : t.carts.chutes = s.carts.chutes.set j d) (hsub : (list d).Sublist (list c))
    (hmem : ∀ e, e ∈ list d ↔ e ∈ list c ∧ tray e ≠ tray a) : Assigned st list tray seq t := by
  have get := getElem?_set_of_get hc d
  have getTray := getElem?_set_of_get hx y
  rw [← hd] at get
  rw [← ht] at getTray
  -- an entry that stays names another tray
  have stays : ∀ (i : Nat) (c' : Chute), t.carts.chutes[i]? = some c' → ∀ e ∈ list c', tray a ≠ tray e ∧
      ∃ c'', s.carts.chutes[i]? = some c'' ∧ e ∈ list c'' := by
    intro i c' hc' e he
    rw [get] at hc'
    split at hc'
    · rename_i hji
      cases hc'
      obtain ⟨he, hne⟩ := (hmem e).1 he
      exact ⟨hne.symm, c, hji ▸ hc, he⟩
    · rename_i hji
      exact ⟨fun hk => hji (h.elsewhere hc ha hc' he hk.symm).symm, c', hc', he⟩
  refine ⟨fun i c' hc' => ?_, fun i c' hc' e he => ?_, fun i x' hx' hxs => ?_⟩
  · rw [get] at hc'
    split at hc'
    · cases hc'
      exact (h.nodup j c hc).sublist (hsub.map _)
    · exact h.nodup i c' hc'
  · obtain ⟨hne, c'', hc'', he'⟩ := stays i c' hc' e he
    rw [getTray, if_neg hne]
    exact h.named i c'' hc'' e he'
  · rw [getTray] at hx'
    split at hx'
    · cases hx'
      exact absurd hxs hy
    · rename_i hne
      obtain ⟨i', c', hti, hc', e, he, hei⟩ := h.listed i x' hx' hxs
      by_cases hji : j = i'
      · subst hji
        rw [hc] at hc'
        cases hc'
        exact ⟨j, d, hti, by rw [get, if_pos rfl], e, (hmem e).2 ⟨he, fun hk => hne (hk.symm.trans hei)⟩, hei⟩
      · exact ⟨i', c', hti, by rw [get, if_neg hji, hc'], e, he, hei⟩

/-- One entry joins a list, and its tray takes the state. -/
theorem Assigned.join (h : Assigned st list tray seq s) {before after : List α} (hx : s.trays[tray a]? = some x)
    (hxs : x.state ≠ st) (ht : t.trays = s.trays.set (tray a) y) (hy : y.state = st) (hyj : y.target = some j)
    (hya : y.seq = some (seq a)) (hc : s.carts.chutes[j]? = some c) (hcl : list c = before ++ after)
    (hd : t.carts.chutes = s.carts.chutes.set j d) (hdl : list d = before ++ a :: after) :
    Assigned st list tray seq t := by
  have get := getElem?_set_of_get hc d
  have getTray := getElem?_set_of_get hx y
  rw [← hd] at get
  rw [← ht] at getTray
  have hmem : ∀ e, e ∈ list d ↔ e ∈ list c ∨ e = a := by
    intro e
    rw [hdl, hcl]
    simp only [List.mem_append, List.mem_cons]
    tauto
  refine ⟨fun i c' hc' => ?_, fun i c' hc' e he => ?_, fun i x' hx' hxs' => ?_⟩
  · rw [get] at hc'
    split at hc'
    · cases hc'
      have hnd := h.nodup j c hc
      rw [hdl, List.map_append, List.map_cons, List.nodup_middle, ← List.map_append, ← hcl, List.nodup_cons]
      refine ⟨fun hm => ?_, hnd⟩
      obtain ⟨e, he, hea⟩ := List.mem_map.1 hm
      exact h.unnamed hx hxs hc he hea
    · exact h.nodup i c' hc'
  · rw [get] at hc'
    split at hc'
    · rename_i hji
      cases hc'
      rcases (hmem e).1 he with he | rfl
      · rw [getTray, if_neg (h.unnamed hx hxs hc he).symm, ← hji]
        exact h.named j c hc e he
      · exact ⟨y, by rw [getTray, if_pos rfl], hy, hji ▸ hyj, hya⟩
    · rw [getTray, if_neg (h.unnamed hx hxs hc' he).symm]
      exact h.named i c' hc' e he
  · rw [getTray] at hx'
    split at hx'
    · rename_i hai
      cases hx'
      exact ⟨j, d, hyj, by rw [get, if_pos rfl], a, (hmem a).2 (.inr rfl), hai⟩
    · obtain ⟨i', c', hti, hc', e, he, hei⟩ := h.listed i x' hx' hxs'
      by_cases hji : j = i'
      · subst hji
        rw [hc] at hc'
        cases hc'
        exact ⟨j, d, hti, by rw [get, if_pos rfl], e, (hmem e).2 (.inl he), hei⟩
      · exact ⟨i', c', hti, by rw [get, if_neg hji, hc'], e, he, hei⟩

end

/-- What is erased from a list without doubles by its key is gone, and all else stays. -/
theorem mem_eraseP_nodup {α : Type} {key : α → Nat} {p : α → Bool} {k : Nat} (hp : ∀ a, p a = true → key a = k) :
    ∀ {l : List α} {a : α}, (l.map key).Nodup → a ∈ l → p a = true → ∀ o, o ∈ l.eraseP p ↔ o ∈ l ∧ key o ≠ k
  | x :: l, a, hn, ha, hpa, o => by
    obtain ⟨hx, hn'⟩ := List.nodup_cons.1 hn
    by_cases hpx : p x = true
    · rw [List.eraseP_cons_of_pos hpx, List.mem_cons]
      have hk := hp x hpx
      refine ⟨fun ho => ⟨.inr ho, fun hok => hx ?_⟩, fun ⟨ho, hok⟩ => ho.resolve_left (fun e => hok (e ▸ hk))⟩
      rw [hk, ← hok]
      exact List.mem_map_of_mem ho
    · rw [List.eraseP_cons_of_neg hpx, List.mem_cons]
      have ha' : a ∈ l := (List.mem_cons.1 ha).resolve_left (fun e => hpx (e ▸ hpa))
      rw [mem_eraseP_nodup hp hn' ha' hpa o, List.mem_cons]
      refine ⟨?_, ?_⟩
      · rintro (rfl | ⟨ho, hk⟩)
        · refine ⟨.inl rfl, fun hk => hx ?_⟩
          rw [hk, ← hp a hpa]
          exact List.mem_map_of_mem ha'
        · exact ⟨.inr ho, hk⟩
      · rintro ⟨rfl | ho, hk⟩
        · exact .inl rfl
        · exact .inr ⟨ho, hk⟩

/-! ## The orders (R100) -/

/-- Orders that stand, with every ROUTED tray. -/
theorem State.OrderLaw.keep (h : s.OrderLaw) (ht : List.Forall₂ (TrayBut (· = .routed)) s.trays t.trays)
    (hc : List.Forall₂ (fun c c' : Chute => c'.queue = c.queue) s.carts.chutes t.carts.chutes) (hm : t.mode = s.mode) :
    t.OrderLaw := by
  obtain ⟨ha, hmode⟩ := (orderLaw_iff s).1 h
  refine (orderLaw_iff t).2 ⟨ha.keep ht hc, fun hmt c' hc' => ?_⟩
  obtain ⟨j, hj⟩ := List.mem_iff_getElem?.1 hc'
  obtain ⟨c, hcj, hcq⟩ := forall₂_get_right hc hj
  exact hcq.trans (hmode (hm ▸ hmt) c (List.mem_of_getElem? hcj))

theorem Order.isOf_iff {k : Nat} {o : Order} : Order.isOf k o = true ↔ o.tray = k := by simp [Order.isOf]

/-- The order of one tray leaves its queue, and the tray its state ROUTED. -/
theorem State.OrderLaw.leave (h : s.OrderLaw) {o : Order} (hx : s.trays[o.tray]? = some x)
    (ht : t.trays = s.trays.set o.tray y) (hy : y.state ≠ .routed) (hc : s.carts.chutes[j]? = some c) (ho : o ∈ c.queue)
    (hd : t.carts.chutes = s.carts.chutes.set j d) (hq : d.queue = c.queue.eraseP (Order.isOf o.tray))
    (hm : t.mode = s.mode) : t.OrderLaw := by
  obtain ⟨ha, hmode⟩ := (orderLaw_iff s).1 h
  have hmem : ∀ p, p ∈ d.queue ↔ p ∈ c.queue ∧ p.tray ≠ o.tray := by
    intro p
    rw [hq]
    exact mem_eraseP_nodup (fun a => Order.isOf_iff.1) (ha.nodup j c hc) ho (Order.isOf_iff.2 rfl) p
  refine (orderLaw_iff t).2 ⟨ha.leave hx ht hy hc ho hd (hq ▸ List.eraseP_sublist) hmem, fun hmt => ?_⟩
  have := hmode (hm ▸ hmt) c (List.mem_of_getElem? hc)
  rw [this] at ho
  cases ho

/-- One order is placed for a tray that becomes ROUTED. -/
theorem State.OrderLaw.place (h : s.OrderLaw) {o : Order} {before after : List Order} (hx : s.trays[o.tray]? = some x)
    (hxs : x.state ≠ .routed) (ht : t.trays = s.trays.set o.tray y) (hy : y.state = .routed) (hyj : y.target = some j)
    (hyo : y.seq = some o.seq) (hc : s.carts.chutes[j]? = some c) (hcq : c.queue = before ++ after)
    (hd : t.carts.chutes = s.carts.chutes.set j d) (hq : d.queue = before ++ o :: after) (hm : ¬ t.mode.orderless) :
    t.OrderLaw :=
  (orderLaw_iff t).2 ⟨((orderLaw_iff s).1 h).1.join hx hxs ht hy hyj hyo hc hcq hd hq, fun hmt => absurd hmt hm⟩

/-! ## The confirmations (R111, R129) -/

/-- Confirmations that stand, with every DROPPING tray. -/
theorem State.ConfirmationLaw.keep (h : s.ConfirmationLaw) (ht : List.Forall₂ (TrayBut (· = .dropping)) s.trays t.trays)
    (hc : List.Forall₂ (fun c c' : Chute => c'.awaiting = c.awaiting) s.carts.chutes t.carts.chutes) (hm : t.mode = s.mode) :
    t.ConfirmationLaw := by
  obtain ⟨ha, hmode⟩ := (confirmationLaw_iff s).1 h
  exact (confirmationLaw_iff t).2 ⟨ha.keep ht hc, fun hmt => absent_keep (hmode (hm ▸ hmt)) ht⟩

/-- One confirmation ends, and its tray leaves its state DROPPING. -/
theorem State.ConfirmationLaw.leave (h : s.ConfirmationLaw) {a : Confirmation} (hx : s.trays[a.tray]? = some x)
    (ht : t.trays = s.trays.set a.tray y) (hy : y.state ≠ .dropping) (hc : s.carts.chutes[j]? = some c)
    (hin : a ∈ c.awaiting) (hd : t.carts.chutes = s.carts.chutes.set j d) (hsub : d.awaiting.Sublist c.awaiting)
    (hmem : ∀ p, p ∈ d.awaiting ↔ p ∈ c.awaiting ∧ p.tray ≠ a.tray) (hm : t.mode = s.mode) : t.ConfirmationLaw := by
  obtain ⟨ha, hmode⟩ := (confirmationLaw_iff s).1 h
  refine (confirmationLaw_iff t).2 ⟨ha.leave hx ht hy hc hin hd hsub hmem, fun hmt x' hx' hxs => ?_⟩
  rw [ht] at hx'
  rcases List.mem_or_eq_of_mem_set hx' with hx' | rfl
  · exact hmode (hm ▸ hmt) x' hx' hxs
  · exact hy hxs

/-- A confirmation opens for a tray that becomes DROPPING. -/
theorem State.ConfirmationLaw.append (h : s.ConfirmationLaw) {a : Confirmation} (hx : s.trays[a.tray]? = some x)
    (hxs : x.state ≠ .dropping) (ht : t.trays = s.trays.set a.tray y) (hy : y.state = .dropping) (hyj : y.target = some j)
    (hya : y.seq = some a.seq) (hc : s.carts.chutes[j]? = some c) (hd : t.carts.chutes = s.carts.chutes.set j d)
    (hq : d.awaiting = c.awaiting ++ [a]) (hm : t.mode ∈ [.sorting, .draining]) : t.ConfirmationLaw :=
  (confirmationLaw_iff t).2
    ⟨((confirmationLaw_iff s).1 h).1.join hx hxs ht hy hyj hya hc (List.append_nil _).symm hd hq, fun hmt => absurd hm hmt⟩

/-! ## The cart lists (R24, R132) -/

/-- Two entries that share no nonzero tag. -/
def TagsApart (e f : CartEntry) : Prop := e.tag ≠ 0 → e.tag ≠ f.tag

/-- The law of the cart lists, part by part. -/
structure CartTags (s : State) : Prop where
  within : ∀ (j : Nat) (c : Chute), s.carts.chutes[j]? = some c → c.cart.Pairwise TagsApart
  across : ∀ (i j : Nat) (c d : Chute), i ≠ j → s.carts.chutes[i]? = some c → s.carts.chutes[j]? = some d →
    ∀ e ∈ c.cart, ∀ f ∈ d.cart, TagsApart e f
  owned : ∀ (j k : Nat) (c : Chute) (e : CartEntry) (x : Tray), s.carts.chutes[j]? = some c → e ∈ c.cart →
    s.trays[k]? = some x → e.tag ≠ 0 → e.tag = x.tag →
    x.state.dropped ∧ e.tray = k ∧ x.seq = some e.seq ∧ x.target = some j ∧ e.status = .pending

theorem cartTagLaw_iff (s : State) : s.CartTagLaw ↔ CartTags s := by
  constructor
  · rintro ⟨hu, ho⟩
    refine ⟨fun j c hc => ?_, fun i j c d hij hc hd e he f hf h0 heq => ?_, ho⟩
    · rw [List.pairwise_iff_getElem]
      intro m n hm hn hmn h0 heq
      have := hu j j m n c c _ _ hc hc (List.getElem?_eq_getElem hm) (List.getElem?_eq_getElem hn) h0 heq
      omega
    · obtain ⟨m, hm⟩ := List.mem_iff_getElem?.1 he
      obtain ⟨n, hn⟩ := List.mem_iff_getElem?.1 hf
      exact hij (hu i j m n c d e f hc hd hm hn h0 heq).1
  · rintro ⟨hw, ha, ho⟩
    refine ⟨fun i j m n c d e f hc hd he hf h0 heq => ?_, ho⟩
    by_cases hij : i = j
    · subst hij
      rw [hc] at hd
      cases hd
      obtain ⟨hm, rfl⟩ := List.getElem?_eq_some_iff.1 he
      obtain ⟨hn, rfl⟩ := List.getElem?_eq_some_iff.1 hf
      refine ⟨rfl, ?_⟩
      have hp := List.pairwise_iff_getElem.1 (hw i c hc)
      rcases Nat.lt_trichotomy m n with h | h | h
      · exact absurd heq (hp m n hm hn h h0)
      · exact h
      · exact absurd heq.symm (hp n m hn hm h (heq ▸ h0))
    · exact absurd heq (ha i j c d hij hc hd e (List.mem_of_getElem? he) f (List.mem_of_getElem? hf) h0)

/-- A cart list that loses entries and changes no tag, tray or sequence of the others; a status changes only of entries that
`gone` holds of. -/
def CartShrinks (gone : CartEntry → Prop) (l l' : List CartEntry) : Prop :=
  ∃ f : CartEntry → CartEntry, l'.Sublist (l.map f) ∧
    ∀ e, (f e).tag = e.tag ∧ (f e).tray = e.tray ∧ (f e).seq = e.seq ∧ ((f e).status = e.status ∨ gone e)

theorem CartShrinks.of_sublist {gone : CartEntry → Prop} {l l' : List CartEntry} (h : l'.Sublist l) : CartShrinks gone l l' :=
  ⟨id, by rwa [List.map_id], fun _ => ⟨rfl, rfl, rfl, .inl rfl⟩⟩

/-- What becomes of a tray while carts shrink: it takes a tag that no cart holds, or keeps its tag and, as a DROPPING or DOUBT
one, its drop. -/
def TagStands (s : State) (gone : CartEntry → Prop) (k : Nat) (x x' : Tray) : Prop :=
  (∀ c ∈ s.carts.chutes, ∀ e ∈ c.cart, e.tag ≠ 0 → e.tag ≠ x'.tag) ∨
    (x'.tag = x.tag ∧ (x.state.dropped → x'.state.dropped ∧ x'.seq = x.seq ∧ x'.target = x.target) ∧
      ∀ e, gone e → e.tray ≠ k)

theorem CartTags.shrink (h : CartTags s) {gone : CartEntry → Prop}
    (hc : List.Forall₂ (fun c c' : Chute => CartShrinks gone c.cart c'.cart) s.carts.chutes t.carts.chutes)
    (ht : ∀ (k : Nat) (x' : Tray), t.trays[k]? = some x' → ∃ x, s.trays[k]? = some x ∧ TagStands s gone k x x') :
    CartTags t := by
  refine ⟨fun j c' hc' => ?_, fun i j c' d' hij hc' hd' e' he' f' hf' => ?_, fun j k c' e' x' hc' he' hx' h0 heq => ?_⟩
  · obtain ⟨c, hcj, f, hsub, hf⟩ := forall₂_get_right hc hc'
    refine List.Pairwise.sublist hsub (List.pairwise_map.2 ((h.within j c hcj).imp ?_))
    intro e e' hee h0
    rw [(hf e).1, (hf e').1]
    exact hee ((hf e).1 ▸ h0)
  · obtain ⟨c, hci, f, hsub, hf⟩ := forall₂_get_right hc hc'
    obtain ⟨d, hdj, f₂, hsub₂, hf₂⟩ := forall₂_get_right hc hd'
    obtain ⟨e, he, rfl⟩ := List.mem_map.1 (hsub.subset he')
    obtain ⟨e₂, he₂, rfl⟩ := List.mem_map.1 (hsub₂.subset hf')
    intro h0
    rw [(hf e).1, (hf₂ e₂).1]
    exact h.across i j c d hij hci hdj e he e₂ he₂ ((hf e).1 ▸ h0)
  · obtain ⟨c, hcj, f, hsub, hf⟩ := forall₂_get_right hc hc'
    obtain ⟨e, he, rfl⟩ := List.mem_map.1 (hsub.subset he')
    obtain ⟨hft, hfk, hfq, hfs⟩ := hf e
    rw [hft] at h0 heq
    obtain ⟨x, hx, hno | ⟨hxt, hdrop, hgone⟩⟩ := ht k x' hx'
    · exact absurd heq (hno c (List.mem_of_getElem? hcj) e he h0)
    · obtain ⟨hst, hek, hseq, htar, hstat⟩ := h.owned j k c e x hcj he hx h0 (heq.trans hxt)
      obtain ⟨hst', hseq', htar'⟩ := hdrop hst
      exact ⟨hst', hfk.trans hek, by rw [hfq, hseq', hseq], htar'.trans htar,
        (hfs.resolve_right (fun hg => hgone e hg hek)).trans hstat⟩

/-- One entry joins the cart of a chute, its tag in no cart yet. -/
theorem CartTags.append (h : CartTags s) {e : CartEntry} (ht : t.trays = s.trays) (hc : s.carts.chutes[j]? = some c)
    (hd : t.carts.chutes = s.carts.chutes.set j d) (hq : d.cart = c.cart ++ [e])
    (hnew : ∀ c' ∈ s.carts.chutes, ∀ f ∈ c'.cart, e.tag ≠ 0 → f.tag ≠ e.tag)
    (hown : ∀ (k : Nat) (x : Tray), s.trays[k]? = some x → e.tag ≠ 0 → e.tag = x.tag →
      x.state.dropped ∧ e.tray = k ∧ x.seq = some e.seq ∧ x.target = some j ∧ e.status = .pending) : CartTags t := by
  have get := getElem?_set_of_get hc d
  rw [← hd] at get
  -- an entry of the new carts is the new one at chute j, or stood where it stands
  have old : ∀ i c', t.carts.chutes[i]? = some c' → ∀ f ∈ c'.cart,
      (i = j ∧ f = e) ∨ ∃ c'', s.carts.chutes[i]? = some c'' ∧ f ∈ c''.cart := by
    intro i c' hc' f hf
    rw [get] at hc'
    split at hc'
    · rename_i hji
      cases hc'
      rw [hq] at hf
      rcases List.mem_append.1 hf with hf | hf
      · exact .inr ⟨c, hji ▸ hc, hf⟩
      · exact .inl ⟨hji.symm, List.mem_singleton.1 hf⟩
    · exact .inr ⟨c', hc', hf⟩
  have apart : ∀ c' ∈ s.carts.chutes, ∀ f ∈ c'.cart, TagsApart f e ∧ TagsApart e f := by
    intro c' hc' f hf
    refine ⟨fun h0 heq => ?_, fun h0 heq => hnew c' hc' f hf h0 heq.symm⟩
    exact hnew c' hc' f hf (heq ▸ h0) heq
  refine ⟨fun i c' hc' => ?_, fun i i' c' d' hij hc' hd' f hf f' hf' => ?_, fun i k c' f x hc' hf hx h0 heq => ?_⟩
  · rw [get] at hc'
    split at hc'
    · cases hc'
      rw [hq, List.pairwise_append]
      refine ⟨h.within j c hc, by simp, fun f hf f' hf' => ?_⟩
      rw [List.mem_singleton.1 hf']
      exact (apart c (List.mem_of_getElem? hc) f hf).1
    · exact h.within i c' hc'
  · rcases old i c' hc' f hf with ⟨hi, rfl⟩ | ⟨c₁, hc₁, hf₁⟩ <;>
      rcases old i' d' hd' f' hf' with ⟨hi', rfl⟩ | ⟨c₂, hc₂, hf₂⟩
    · exact absurd (hi.trans hi'.symm) hij
    · exact (apart c₂ (List.mem_of_getElem? hc₂) f' hf₂).2
    · exact (apart c₁ (List.mem_of_getElem? hc₁) f hf₁).1
    · exact h.across i i' c₁ c₂ hij hc₁ hc₂ f hf₁ f' hf₂
  · rw [ht] at hx
    rcases old i c' hc' f hf with ⟨rfl, rfl⟩ | ⟨c₁, hc₁, hf₁⟩
    · exact hown k x hx h0 heq
    · exact h.owned i k c₁ f x hc₁ hf₁ hx h0 heq

/-! ## The reports (R133) -/

/-- What the law of the reports sees of a chute: its report state stands, and it takes a current cart only with no report
pending. -/
def CartStands (c c' : Chute) : Prop := c'.report = c.report ∧ (c'.hasCart = true → c.hasCart = true ∨ c.report = .none)

theorem CartStands.refl (c : Chute) : CartStands c c := ⟨rfl, .inl⟩

theorem State.ReportLaw.keep (h : s.ReportLaw) (hc : List.Forall₂ CartStands s.carts.chutes t.carts.chutes)
    (hr : t.carts.reports = s.carts.reports) (hw : t.carts.waiting = s.carts.waiting) : t.ReportLaw := by
  obtain ⟨hw', hn, hnd, hlt, hst⟩ := h
  have hlen := hc.length_eq
  refine ⟨by rwa [hw], by omega, by rwa [hr, hw], ?_, fun j c' hc' => ?_⟩
  · rw [hr, hw, ← hlen]
    exact hlt
  · obtain ⟨c, hcj, hcr, hcart⟩ := forall₂_get_right hc hc'
    obtain ⟨h1, h2, h3⟩ := hst j c hcj
    rw [hcr, hr, hw]
    exact ⟨h1, h2, fun hh => (hcart hh).elim h3 id⟩

end

end Sys2Proof.Machine
end

section
/-! # What an operation inside an event keeps of the laws (R24, R29, R100, R129, R133, R146, R161)

In the shape of `Kept`: `Lawful` says that every law of the lists, the session, the reports, the strays, the tags, the orders,
the carts and the lines passes from the old state to the new one; `Calm` is a step that leaves all that the laws speak of. -/

namespace Sys2Proof.Machine

open Sys2Proof

/-! ## The relations -/

/-- What a step keeps of the lists, the session and the strays. -/
structure PlainBut (s t : State) : Prop where
  replies : t.mgmt.replies = s.mgmt.replies
  bounds : s.BoundLaw → t.BoundLaw
  session : s.SessionLaw → t.SessionLaw
  strays : s.StrayLaw → t.StrayLaw

/-- A `PlainBut` step that keeps the law of the reports. -/
structure Plain (s t : State) : Prop extends PlainBut s t where
  reports : s.ReportLaw → t.ReportLaw

/-- What a step keeps of the trays with their orders, drops and lines. -/
structure Tracked (armed : Prop) (s t : State) : Prop where
  tags : s.TagLaw → t.TagLaw
  orders : s.OrderLaw → t.OrderLaw
  carts : s.TagLaw → s.OrderLaw → s.ConfirmationLaw → s.CartTagLaw → t.ConfirmationLaw ∧ t.CartTagLaw
  lines : s.LineLawAt armed → t.LineLawAt armed

/-- A step that keeps every law. -/
structure Lawful (armed : Prop) (s t : State) : Prop extends Plain s t, Tracked armed s t

/-- A chute stands as the laws see it; it may lose its current cart. -/
structure ChuteStands (c c' : Chute) : Prop where
  cart : c'.cart = c.cart
  queue : c'.queue = c.queue
  awaiting : c'.awaiting = c.awaiting
  stands : CartStands c c'

/-- A step that leaves all that the laws speak of, and the limits of the lists. -/
structure Calm (armed : Prop) (s t : State) : Prop where
  trays : t.trays = s.trays
  lines : List.Forall₂ (LineStands armed) s.lines t.lines
  chutes : List.Forall₂ ChuteStands s.carts.chutes t.carts.chutes
  reports : t.carts.reports = s.carts.reports
  waiting : t.carts.waiting = s.carts.waiting
  recs : t.strays.recs = s.strays.recs
  nextSerial : t.strays.nextSerial = s.strays.nextSerial
  mode : t.session.mode = s.session.mode
  voyage : t.session.voyage = s.session.voyage
  watch : t.session.watch = s.session.watch
  replies : t.mgmt.replies = s.mgmt.replies
  bounds : s.BoundLaw → t.BoundLaw

theorem PlainBut.trans {s t u : State} (h : PlainBut s t) (k : PlainBut t u) : PlainBut s u :=
  ⟨k.replies.trans h.replies, k.bounds ∘ h.bounds, k.session ∘ h.session, k.strays ∘ h.strays⟩

theorem Plain.refl (s : State) : Plain s s := ⟨⟨rfl, id, id, id⟩, id⟩

theorem Plain.trans {s t u : State} (h : Plain s t) (k : Plain t u) : Plain s u :=
  ⟨h.toPlainBut.trans k.toPlainBut, k.reports ∘ h.reports⟩

section
variable {b : Prop} {s t u : State}

theorem Tracked.refl (b : Prop) (s : State) : Tracked b s s := ⟨id, id, fun _ _ h k => ⟨h, k⟩, id⟩

theorem Tracked.trans (h : Tracked b s t) (k : Tracked b t u) : Tracked b s u where
  tags := k.tags ∘ h.tags
  orders := k.orders ∘ h.orders
  carts ht ho hc hk := by
    obtain ⟨hc', hk'⟩ := h.carts ht ho hc hk
    exact k.carts (h.tags ht) (h.orders ho) hc' hk'
  lines := k.lines ∘ h.lines

theorem Lawful.refl (b : Prop) (s : State) : Lawful b s s := { Plain.refl s, Tracked.refl b s with }

theorem Lawful.trans (h : Lawful b s t) (k : Lawful b t u) : Lawful b s u :=
  { h.toPlain.trans k.toPlain, h.toTracked.trans k.toTracked with }

theorem Plain.lawful (h : Plain s t) (k : Tracked b s t) : Lawful b s t := { h, k with }

/-- A run of operations over a list. -/
theorem Lawful.foldl {α : Type} {f : State → α → State} (h : ∀ s x, Lawful b s (f s x)) :
    ∀ (l : List α) (s : State), Lawful b s (l.foldl f s)
  | [], s => .refl b s
  | x :: rest, s => (h s x).trans (Lawful.foldl h rest (f s x))

theorem Lawful.ite {p : Prop} [Decidable p] {x y : State} (hx : p → Lawful b s x) (hy : ¬p → Lawful b s y) :
    Lawful b s (if p then x else y) := by
  split
  · exact hx ‹_›
  · exact hy ‹_›

theorem ChuteStands.refl (c : Chute) : ChuteStands c c := ⟨rfl, rfl, rfl, .refl c⟩

/-- A calm step keeps every law. -/
theorem Calm.lawful (h : Calm b s t) : Lawful b s t where
  replies := h.replies
  bounds := h.bounds
  session hs := by rwa [State.SessionLaw, h.mode, h.voyage, h.watch]
  strays hs := by rwa [State.StrayLaw, h.recs, h.nextSerial]
  reports hs := hs.keep (h.chutes.imp fun _ _ hc => hc.stands) h.reports h.waiting
  tags hs := by rwa [State.TagLaw, h.trays]
  orders hs := hs.keep (h.trays ▸ forall₂_self (.refl _) _) (h.chutes.imp fun _ _ hc => hc.queue) h.mode
  carts _ _ hc hk := by
    refine ⟨hc.keep (h.trays ▸ forall₂_self (.refl _) _) (h.chutes.imp fun _ _ hc => hc.awaiting) h.mode,
      (cartTagLaw_iff t).2 (((cartTagLaw_iff s).1 hk).shrink (gone := fun _ => False)
        (h.chutes.imp fun _ _ hc => .of_sublist (hc.cart ▸ .refl _)) fun k x hx => ?_)⟩
    exact ⟨x, h.trays ▸ hx, .inr ⟨rfl, fun hd => ⟨hd, rfl, rfl⟩, nofun⟩⟩
  lines hs := hs.keep (h.trays ▸ forall₂_self (.refl _) _) h.lines

/-- A write that leaves what the laws speak of as it stands. -/
theorem Calm.write (ht : t.trays = s.trays := by rfl) (hl : t.lines = s.lines := by rfl)
    (hc : t.carts.chutes = s.carts.chutes := by rfl) (hq : t.carts.reports = s.carts.reports := by rfl)
    (hw : t.carts.waiting = s.carts.waiting := by rfl) (hx : t.strays.recs = s.strays.recs := by rfl)
    (hn : t.strays.nextSerial = s.strays.nextSerial := by rfl) (hm : t.session.mode = s.session.mode := by rfl)
    (hv : t.session.voyage = s.session.voyage := by rfl) (ha : t.session.watch = s.session.watch := by rfl)
    (hr : t.mgmt.replies = s.mgmt.replies := by rfl) (hb : s.BoundLaw → t.BoundLaw := by exact id) : Calm b s t where
  trays := ht
  lines := hl ▸ forall₂_self (LineStands.refl b) _
  chutes := hc ▸ forall₂_self ChuteStands.refl _
  reports := hq
  waiting := hw
  recs := hx
  nextSerial := hn
  mode := hm
  voyage := hv
  watch := ha
  replies := hr
  bounds := hb

theorem Calm.refl (b : Prop) (s : State) : Calm b s s := .write

/-! ## The plain writes -/

/-- Notices that join their queue keep its limit. -/
theorem BoundLaw.push (hm : t.mgmt = s.mgmt.push n) (hl : t.link = s.link) (hx : t.strays = s.strays)
    (hc : t.carts = s.carts) : s.BoundLaw → t.BoundLaw := by
  rintro ⟨hq, hr, hn, rest⟩
  unfold State.BoundLaw
  rw [hm, hl, hx, hc, Mgmt.push_requests, Mgmt.push_replies]
  exact ⟨hq, hr, Mgmt.push_bounded _ _ hn, rest⟩

theorem notify_calm (n : Notice) (s : State) : Calm b s (notify n s) :=
  .write (hr := Mgmt.push_replies _ _) (hb := BoundLaw.push rfl rfl rfl rfl)

theorem withArch_calm (a : Arch) (s : State) : Calm b s (withArch a s) := .write
theorem withRouter_calm (r : Router) (s : State) : Calm b s (withRouter r s) := .write
theorem withSched_calm (x : Scheduler) (s : State) : Calm b s (withSched x s) := .write
theorem withManifest_calm (m : Manifest) (s : State) : Calm b s (withManifest m s) := .write
theorem withTracker_calm (x : Tracker) (s : State) : Calm b s (withTracker x s) := .write
theorem withPins_calm (x : Pins) (s : State) : Calm b s (withPins x s) := .write
theorem withLatch_calm (c : Option StopCause) (s : State) : Calm b s (withLatch c s) := .write
theorem rejectChute_calm (s : State) : Calm b s (rejectChute s) := .write
theorem drawFree_calm (s : State) : Calm b s (drawFree s).2 := .write

theorem modifyChute_calm {f : Chute → Chute} (j : Nat) (s : State)
    (h : ∀ c, s.carts.chutes[j]? = some c → ChuteStands c (f c)) : Calm b s (modifyChute j f s) :=
  { Calm.refl b s with chutes := forall₂_modify_at ChuteStands.refl _ _ h }

theorem modifyLine_calm {f : Line → Line} (i : Nat) (s : State)
    (h : ∀ l, s.lines[i]? = some l → LineStands b l (f l)) : Calm b s (modifyLine i f s) :=
  { Calm.refl b s with lines := forall₂_modify_at (LineStands.refl b) _ _ h }

/-- Disarming every monitor leaves reservations whose monitor is disarmed. -/
theorem disarmAll_calm (s : State) : Calm False s (disarmAll s) :=
  { Calm.refl False s with
    lines := forall₂_map (fun _ => ⟨rfl, .inr ⟨id, rfl⟩⟩) _
    chutes := forall₂_map (fun _ => ⟨rfl, rfl, rfl, rfl, .inl⟩) _ }

/-- A frame joins the timing queue where it has room. -/
theorem queueTimed_calm (dst : Nat) (x : TimedBody) {s : State} (h : s.timingRoom = true) :
    Calm b s (queueTimed dst x s) :=
  .write (hb := by
    rintro ⟨h1, h2, h3, -, h5⟩
    refine ⟨h1, h2, h3, ?_, h5⟩
    have : s.link.timing.length < Config.timingMax := by simpa [State.timingRoom] using h
    simpa using this)

/-- An IREF that is placed keeps one unsent IREF per line (R31). -/
theorem placeIref_lines_nodup (r : Iref) {l : List Iref} (h : (l.map Iref.line).Nodup) :
    ((placeIref r l).map Iref.line).Nodup := by
  unfold placeIref
  split
  · have : l.map (Iref.line ∘ fun x => if x.line = r.line then r else x) = l.map Iref.line :=
      List.map_congr_left (fun x _ => by by_cases hx : x.line = r.line <;> simp [hx])
    rwa [List.map_map, this]
  · rename_i hn
    rw [List.map_append, List.nodup_append]
    refine ⟨h, by simp, ?_⟩
    simp only [List.any_eq_true, beq_iff_eq, not_exists, not_and] at hn
    simpa using hn

theorem raiseIref_calm (i t1 t2 : Nat) (r : IrefReason) (s : State) : Calm b s (raiseIref i t1 t2 r s) :=
  .write (hb := by
    rintro ⟨h1, h2, h3, h4, h5, h6, h7, h8⟩
    exact ⟨h1, h2, h3, h4, h5, h6, placeIref_lines_nodup _ h7, h8⟩)

theorem dropFirst_calm (s : State) : Calm b s (dropFirst s) :=
  .write (hb := by
    rintro ⟨h1, h2, h3, h4, h5⟩
    exact ⟨h1, h2, h3, (List.eraseP_sublist.length_le).trans h4, h5⟩)

theorem discardTimed_calm (s : State) : Calm b s (discardTimed s) :=
  .write (hb := by
    rintro ⟨h1, h2, h3, h4, h5⟩
    exact ⟨h1, h2, h3, (List.length_filter_le _ _).trans h4, h5⟩)

/-! ## The drain watch (R169) -/

/-- With the drain done, no tray is in a state other than EMPTY and DISABLED. -/
theorem drainDone_state (h : s.drainDone = true) {st : TrayState} (h1 : st ≠ .empty) (h2 : st ≠ .disabled) :
    ∀ x ∈ s.trays, x.state ≠ st := by
  simp only [State.drainDone, Bool.and_eq_true, Bool.not_eq_true', List.any_eq_false] at h
  intro x hx hs
  have := h.1.2 x hx
  simp [Tray.inFlight, hs, h1, h2] at this

theorem drainWatch_cartLaws (hc : s.ConfirmationLaw) (hk : s.CartTagLaw) :
    (drainWatch s).ConfirmationLaw ∧ (drainWatch s).CartTagLaw := by
  cases hd : s.drainDone with
  | false =>
    rw [drainWatch_off hd]
    exact ⟨hc, hk⟩
  | true =>
    rw [drainWatch_on hd]
    exact ⟨⟨hc.1, hc.2.1, fun _ => drainDone_state hd (by decide) (by decide)⟩, hk⟩

/-- DRAINED is entered with nothing in flight: no tray ROUTED or DROPPING, and so no order and no confirmation. -/
theorem drainWatch_lawful (s : State) : Lawful b s (drainWatch s) := by
  cases hd : s.drainDone with
  | false =>
    rw [drainWatch_off hd]
    exact .refl _ _
  | true =>
    have hwatch : s.session.watch = true := by
      simp only [State.drainDone, Bool.and_eq_true] at hd
      exact hd.1.1
    rw [drainWatch_on hd]
    exact
      { replies := Mgmt.push_replies _ _
        bounds := BoundLaw.push rfl rfl rfl rfl
        session := by
          rintro ⟨hi, hv, hw⟩
          have := hw.1 hwatch
          refine ⟨⟨nofun, fun h => ?_⟩, hv, nofun, nofun⟩
          rw [hi.2 h] at this
          cases this
        strays := id
        reports := id
        tags := id
        orders := by
          rintro ⟨hq, hr, -⟩
          refine ⟨hq, hr, fun _ c hc => List.eq_nil_iff_forall_not_mem.2 fun o ho => ?_⟩
          obtain ⟨j, hj⟩ := List.mem_iff_getElem?.1 hc
          obtain ⟨x, hx, hxr, -⟩ := (hq j c hj).2 o ho
          exact drainDone_state hd (by decide) (by decide) x (List.mem_of_getElem? hx) hxr
        carts := fun _ _ hc hk => drainWatch_on hd ▸ drainWatch_cartLaws hc hk
        lines := fun h => ⟨h.1, h.2, h.3, h.4, h.5, h.6⟩ }

end

end Sys2Proof.Machine
end

section
/-! # The Stray List through a stray drop (R146 to R151) -/

namespace Sys2Proof.Machine

open Sys2Proof

/-! ## The counter of the serials (R147) -/

theorem nextSerial_range {n : Nat} (h1 : 1 ≤ n) (h2 : n ≤ 65535) :
    1 ≤ Sys2Proof.nextSerial n ∧ Sys2Proof.nextSerial n ≤ 65535 := by
  unfold Sys2Proof.nextSerial
  split <;> omega

/-- The i-th value that the counter takes from n on. -/
def serialAfter (n i : Nat) : Nat := (n - 1 + i) % 65535 + 1

theorem serialAfter_zero {n : Nat} (h1 : 1 ≤ n) (h2 : n ≤ 65535) : serialAfter n 0 = n := by
  unfold serialAfter
  omega

theorem serialAfter_nextSerial {n : Nat} (h1 : 1 ≤ n) (h2 : n ≤ 65535) (i : Nat) :
    serialAfter (Sys2Proof.nextSerial n) i = serialAfter n (i + 1) := by
  unfold serialAfter Sys2Proof.nextSerial
  split <;> omega

/-- What the counter stops at is in range, and it is borne by a record only when every value passed over is. -/
theorem freeSerial_spec (recs : List StrayRec) : ∀ (fuel n : Nat), 1 ≤ n → n ≤ 65535 →
    1 ≤ freeSerial recs fuel n ∧ freeSerial recs fuel n ≤ 65535 ∧
      ((∃ r ∈ recs, r.serial = freeSerial recs fuel n) → ∀ i ≤ fuel, ∃ r ∈ recs, r.serial = serialAfter n i)
  | 0, n, h1, h2 => by
    refine ⟨h1, h2, fun h i hi => ?_⟩
    obtain rfl : i = 0 := by omega
    rw [serialAfter_zero h1 h2]
    exact h
  | fuel + 1, n, h1, h2 => by
    have hr := nextSerial_range h1 h2
    obtain ⟨ih1, ih2, ih3⟩ := freeSerial_spec recs fuel _ hr.1 hr.2
    unfold freeSerial
    split
    · rename_i hn
      refine ⟨ih1, ih2, fun h i hi => ?_⟩
      cases i with
      | zero =>
        rw [serialAfter_zero h1 h2]
        simpa using hn
      | succ i =>
        rw [← serialAfter_nextSerial h1 h2]
        exact ih3 h i (by omega)
    · rename_i hn
      refine ⟨h1, h2, fun h => absurd ?_ hn⟩
      simpa using h

/-- Of 513 values of the counter, 512 records leave one free. -/
theorem freeSerial_free {recs : List StrayRec} (hlen : recs.length ≤ 512) {n : Nat} (h1 : 1 ≤ n) (h2 : n ≤ 65535) :
    ∀ r ∈ recs, r.serial ≠ freeSerial recs 512 n := by
  intro r hr he
  have hall := (freeSerial_spec recs 512 n h1 h2).2.2 ⟨r, hr, he⟩
  have hnd : ((List.range 513).map (serialAfter n)).Nodup := by
    refine List.nodup_range.map_on ?_
    intro i hi i' hi' h
    rw [List.mem_range] at hi hi'
    unfold serialAfter at h
    omega
  have hsub : (List.range 513).map (serialAfter n) ⊆ recs.map StrayRec.serial := by
    intro x hx
    obtain ⟨i, hi, rfl⟩ := List.mem_map.1 hx
    obtain ⟨r', hr', hs⟩ := hall i (by have := List.mem_range.1 hi; omega)
    exact hs ▸ List.mem_map_of_mem hr'
  have := (List.subperm_of_subset hnd hsub).length_le
  simp at this
  omega

/-! ## One record changed, dropped or stored -/

/-- A record holds a tag by its tag field or its resolved tag (R146). -/
def StrayRec.Bears (r : StrayRec) (tag : Nat) : Prop := r.tag = tag ∨ r.resolvedTag = tag

theorem StrayRec.holds_iff_bears {tag : Nat} {r : StrayRec} : r.holds tag = true ↔ tag ≠ 0 ∧ r.Bears tag := by
  simp [StrayRec.holds, StrayRec.Bears]

/-- Two records that hold no common nonzero tag. -/
def StrayRec.Apart (r x : StrayRec) : Prop := ∀ tag, tag ≠ 0 → r.Bears tag → ¬ x.Bears tag

theorem StrayRec.Apart.symm {r x : StrayRec} (h : r.Apart x) : x.Apart r := fun tag h0 hx hr => h tag h0 hr hx

theorem strayLaw_iff (s : State) : s.StrayLaw ↔
    s.strays.recs.length ≤ 512 ∧ (s.strays.recs.map StrayRec.serial).Nodup ∧
      (∀ r ∈ s.strays.recs, 1 ≤ r.serial ∧ r.serial ≤ 65535 ∧ r.serial ≠ s.strays.nextSerial) ∧
      1 ≤ s.strays.nextSerial ∧ s.strays.nextSerial ≤ 65535 ∧ s.strays.recs.Pairwise StrayRec.Apart := by
  have : ∀ r x : StrayRec, r.Apart x ↔
      ∀ tag, tag ≠ 0 → (r.tag = tag ∨ r.resolvedTag = tag) → x.tag ≠ tag ∧ x.resolvedTag ≠ tag := by
    intro r x
    simp only [StrayRec.Apart, StrayRec.Bears, not_or]
  rw [funext fun r => funext fun x => propext (this r x)]
  rfl

section
variable {s t : State}

/-- Records taken away keep the law. -/
theorem State.StrayLaw.sublist (h : s.StrayLaw) (hr : t.strays.recs.Sublist s.strays.recs)
    (hn : t.strays.nextSerial = s.strays.nextSerial) : t.StrayLaw := by
  rw [strayLaw_iff] at h ⊢
  obtain ⟨hl, hnd, hs, h1, h2, hp⟩ := h
  rw [hn]
  exact ⟨hr.length_le.trans hl, hnd.sublist (hr.map _), fun r hm => hs r (hr.subset hm), h1, h2, hp.sublist hr⟩

/-- One record changed: it keeps its serial, and holds no tag of another. -/
theorem State.StrayLaw.change (h : s.StrayLaw) {before after : List StrayRec} {r r' : StrayRec}
    (hr : s.strays.recs = before ++ r :: after) (hr' : t.strays.recs = before ++ r' :: after)
    (hn : t.strays.nextSerial = s.strays.nextSerial) (hs : r'.serial = r.serial)
    (hheld : ∀ tag, tag ≠ 0 → r'.Bears tag → r.Bears tag ∨ ∀ x ∈ before ++ after, ¬ x.Bears tag) : t.StrayLaw := by
  rw [strayLaw_iff] at h ⊢
  obtain ⟨hl, hnd, hser, h1, h2, hp⟩ := h
  rw [hr] at hl hnd hser hp
  rw [hr', hn]
  obtain ⟨hpb, hpa, hpx⟩ := List.pairwise_append.1 hp
  obtain ⟨hra, hpa⟩ := List.pairwise_cons.1 hpa
  have apart : ∀ x ∈ before ++ after, r'.Apart x := by
    intro x hx tag h0 hb
    rcases hheld tag h0 hb with hb | hno
    · rcases List.mem_append.1 hx with hx | hx
      · exact (hpx x hx r (by simp)).symm tag h0 hb
      · exact hra x hx tag h0 hb
    · exact hno x hx
  refine ⟨by simpa using hl, ?_, fun x hx => ?_, h1, h2, ?_⟩
  · simpa [hs] using hnd
  · rcases List.mem_append.1 hx with hx | hx
    · exact hser x (by simp [hx])
    · rcases List.mem_cons.1 hx with rfl | hx
      · rw [hs]
        exact hser r (by simp)
      · exact hser x (by simp [hx])
  · refine List.pairwise_append.2 ⟨hpb, List.pairwise_cons.2 ⟨fun x hx => apart x (by simp [hx]), hpa⟩, fun x hx y hy => ?_⟩
    rcases List.mem_cons.1 hy with rfl | hy
    · exact (apart x (by simp [hx])).symm
    · exact hpx x hx y (by simp [hy])

/-- A record stored with the counter's value, its tag held by no other (R149). -/
theorem State.StrayLaw.stored (h : s.StrayLaw) {l : StrayList} {d : StrayDrop} {second : Nat}
    (hl : l.recs.Sublist s.strays.recs) (hln : l.nextSerial = s.strays.nextSerial) (hlen : l.recs.length < 512)
    (hnew : ∀ r ∈ l.recs, d.tag ≠ 0 → ¬ r.Bears d.tag) (ht : t.strays = l.store d second) : t.StrayLaw := by
  have h' : ({ s with strays := l } : State).StrayLaw := h.sublist hl hln
  rw [strayLaw_iff] at h' ⊢
  obtain ⟨-, hnd, hser, h1, h2, hp⟩ := h'
  have hrange := nextSerial_range h1 h2
  have hlen' : (l.recs ++ [d.record l.nextSerial second]).length ≤ 512 := by
    simp only [List.length_append, List.length_singleton]
    omega
  obtain ⟨hf1, hf2, -⟩ := freeSerial_spec (l.recs ++ [d.record l.nextSerial second]) 512 _ hrange.1 hrange.2
  have hfree := freeSerial_free hlen' hrange.1 hrange.2
  rw [ht]
  refine ⟨hlen', ?_, fun r hr => ?_, hf1, hf2, ?_⟩
  · show ((l.recs ++ [d.record l.nextSerial second]).map StrayRec.serial).Nodup
    rw [List.map_append, List.nodup_append]
    refine ⟨hnd, by simp, ?_⟩
    simp only [List.mem_map, List.map_cons, List.map_nil, List.mem_singleton]
    rintro _ ⟨r, hr, rfl⟩ _ rfl
    exact (hser r hr).2.2
  · refine ⟨?_, ?_, hfree r hr⟩ <;> rcases List.mem_append.1 hr with hr | hr
    · exact (hser r hr).1
    · rw [List.mem_singleton.1 hr]
      exact h1
    · exact (hser r hr).2.1
    · rw [List.mem_singleton.1 hr]
      exact h2
  · refine List.pairwise_append.2 ⟨hp, by simp, fun r hr x hx tag h0 hb hbx => ?_⟩
    rw [List.mem_singleton.1 hx] at hbx
    rcases hbx with rfl | hz
    · exact hnew r hr h0 hb
    · exact h0 hz.symm

/-! ## A stray drop (R148 to R151) and a deck route (R153) -/

/-- The first record that meets a test is changed, if one does. -/
theorem updateFirst_cases (p : StrayRec → Bool) (f : StrayRec → StrayRec) : ∀ l : List StrayRec,
    (updateFirst p f l = l ∧ ∀ r ∈ l, p r = false) ∨
      ∃ before r after, l = before ++ r :: after ∧ p r = true ∧ updateFirst p f l = before ++ f r :: after
  | [] => .inl ⟨rfl, nofun⟩
  | x :: l => by
    unfold updateFirst
    split
    · rename_i hx
      exact .inr ⟨[], x, l, rfl, hx, rfl⟩
    · rename_i hx
      rcases updateFirst_cases p f l with ⟨he, hn⟩ | ⟨before, r, after, hl, hr, he⟩
      · exact .inl ⟨by rw [he], by simpa [hx] using hn⟩
      · exact .inr ⟨x :: before, r, after, by simp [hl], hr, by simp [he]⟩

theorem updateFirst_length (p : StrayRec → Bool) (f : StrayRec → StrayRec) (l : List StrayRec) :
    (updateFirst p f l).length = l.length := by
  rcases updateFirst_cases p f l with ⟨he, -⟩ | ⟨before, r, after, rfl, -, he⟩ <;> simp [he]

/-- A change of the first record that holds a tag, to one that holds no tag but those it held. -/
theorem State.StrayLaw.updated (h : s.StrayLaw) {p : StrayRec → Bool} {f : StrayRec → StrayRec}
    (ht : t.strays = { s.strays with recs := updateFirst p f s.strays.recs }) (hs : ∀ r, (f r).serial = r.serial)
    (hf : ∀ r tag, tag ≠ 0 → p r = true → (f r).Bears tag → r.Bears tag) : t.StrayLaw := by
  rcases updateFirst_cases p f s.strays.recs with ⟨he, -⟩ | ⟨before, r, after, hr, hpr, he⟩
  · exact h.sublist (by rw [ht, he]) (by rw [ht])
  · exact h.change hr (by rw [ht, he]) (by rw [ht]) (hs r) (fun tag h0 hb => .inl (hf r tag h0 hpr hb))

/-- A record after a repeat of its bag holds the tag of the drop alone. -/
theorem StrayRec.again_bears {d : StrayDrop} {second : Nat} {r : StrayRec} {tag : Nat} (h0 : tag ≠ 0)
    (h : (r.again d second).Bears tag) : tag = d.tag := by
  rcases h with h | h
  · exact h.symm
  · exact absurd h.symm h0

theorem StrayList.find_none_iff {l : StrayList} {tag : Nat} :
    l.find tag = none ↔ ∀ r ∈ l.recs, tag ≠ 0 → ¬ r.Bears tag := by
  rw [StrayList.find, List.find?_eq_none]
  simp only [StrayRec.holds_iff_bears, not_and]

/-- Notices and records within their limits. -/
theorem BoundLaw.strays {l : StrayList} (hl : s.strays.recs.length ≤ 512 → l.recs.length ≤ 512) :
    s.BoundLaw → (withStrays l s).BoundLaw := by
  rintro ⟨h1, h2, h3, h4, h5, h6, h7, h8, h9⟩
  exact ⟨h1, h2, h3, h4, h5, h6, h7, hl h8, h9⟩

/-- The Stray List replaced by one that keeps its law and its limit. -/
theorem withStrays_lawful {b : Prop} {l : StrayList} (hl : s.strays.recs.length ≤ 512 → l.recs.length ≤ 512)
    (hs : s.StrayLaw → (withStrays l s).StrayLaw) : Lawful b s (withStrays l s) :=
  { Lawful.refl b s with
    bounds := BoundLaw.strays hl
    strays := hs
    lines := fun h => ⟨h.1, h.2, h.3, h.4, h.5, h.6⟩ }

theorem recordStray_lawful {b : Prop} (d : StrayDrop) (s : State) : Lawful b s (recordStray d s) := by
  unfold recordStray
  split
  · refine (withStrays_lawful (by simp [updateFirst_length]) fun h => ?_).trans (notify_calm _ _).lawful
    refine h.updated rfl (fun _ => rfl) (fun r tag h0 hp hb => ?_)
    rw [StrayRec.again_bears h0 hb]
    exact (StrayRec.holds_iff_bears.1 hp).2
  · rename_i hnone
    have hno := StrayList.find_none_iff.1 hnone
    have htail : s.strays.recs.tail.Sublist s.strays.recs := List.tail_sublist _
    split
    · rename_i hlen
      have hlen : s.strays.recs.length < 512 := hlen
      refine (withStrays_lawful (fun _ => ?_) fun h => ?_).trans (notify_calm _ _).lawful
      · simpa [StrayList.store] using hlen
      · exact h.stored (.refl _) rfl hlen hno rfl
    · rename_i hlen
      have hpos : 512 ≤ s.strays.recs.length := Nat.le_of_not_lt hlen
      split
      · exact (withStrays_lawful (l := { s.strays with lost := satInc Config.tallyMax s.strays.lost }) id fun h => h.sublist (.refl _) rfl).trans
          (notify_calm _ _).lawful
      · refine (withStrays_lawful (fun h => ?_) fun h => ?_).trans (notify_calm _ _).lawful
        · simp only [StrayList.store, List.length_append, List.length_tail, List.length_singleton]
          omega
        · refine h.stored (l := { s.strays with recs := s.strays.recs.tail, lost := _ }) htail rfl ?_ ?_ rfl
          · have := h.1
            simp only [List.length_tail]
            omega
          · exact fun r hr => hno r (htail.subset hr)

theorem handStray_lawful {b : Prop} (d : Option StrayDrop) (s : State) : Lawful b s (handStray d s) := by
  cases d with
  | none => exact .refl _ _
  | some d => exact recordStray_lawful d s

theorem reinduct_lawful {b : Prop} (tray tag chute : Nat) (s : State) : Lawful b s (reinduct tray tag chute s) := by
  unfold reinduct
  refine .ite (fun _ => ?_) (fun _ => .refl _ _)
  split
  · refine (withStrays_lawful (fun h => (List.eraseP_sublist.length_le).trans h) fun h => ?_).trans
      (notify_calm _ _).lawful
    exact h.sublist List.eraseP_sublist rfl
  · exact .refl _ _

theorem releaseStray_lawful {b : Prop} (tag cabin : Nat) (s : State) : Lawful b s (releaseStray tag cabin s) := by
  refine withStrays_lawful (by simp [updateFirst_length]) fun h => ?_
  refine h.updated rfl (fun r => ?_) (fun r tag' h0 hp hb => ?_)
  · unfold StrayRec.release
    split <;> rfl
  · unfold StrayRec.release at hb
    split at hb
    · rcases hb with hb | hb
      · exact .inl hb
      · rw [← show tag = tag' from hb]
        exact (StrayRec.holds_iff_bears.1 hp).2
    · exact hb

end

end Sys2Proof.Machine
end

section
/-! # Changes of one tray and of one chute (sections 2.1, 6.2 to 6.4, 7.2 to 7.8) -/

namespace Sys2Proof.Machine

open Sys2Proof

/-! ## The laws that speak of no tray -/

section
variable {b : Prop} {s t u : State} {k j : Nat} {x y : Tray} {c d : Chute}

/-- A write that leaves the lists, the session and the strays, and of the chutes what the law of the reports sees. -/
theorem Plain.write (hc : List.Forall₂ CartStands s.carts.chutes t.carts.chutes)
    (hq : t.carts.reports = s.carts.reports := by rfl) (hw : t.carts.waiting = s.carts.waiting := by rfl)
    (hx : t.strays.recs = s.strays.recs := by rfl) (hn : t.strays.nextSerial = s.strays.nextSerial := by rfl)
    (hm : t.session.mode = s.session.mode := by rfl) (hv : t.session.voyage = s.session.voyage := by rfl)
    (ha : t.session.watch = s.session.watch := by rfl) (hr : t.mgmt.replies = s.mgmt.replies := by rfl)
    (hb : s.BoundLaw → t.BoundLaw := by exact id) : Plain s t where
  replies := hr
  bounds := hb
  session hs := by rwa [State.SessionLaw, hm, hv, ha]
  strays hs := by rwa [State.StrayLaw, hx, hn]
  reports hs := hs.keep hc hq hw

theorem modifyChute_plain {f : Chute → Chute} (j : Nat) (s : State)
    (h : ∀ c, s.carts.chutes[j]? = some c → CartStands c (f c)) : Plain s (modifyChute j f s) :=
  .write (forall₂_modify_at CartStands.refl _ _ h)

theorem putTray_plain (k : Nat) (x : Tray) (s : State) : Plain s (putTray k x s) := .write (forall₂_self CartStands.refl _)

theorem modifyLine_plain (i : Nat) (f : Line → Line) (s : State) : Plain s (modifyLine i f s) :=
  .write (forall₂_self CartStands.refl _)

theorem settleTray_plain (k : Nat) (x : Tray) (s : State) : Plain s (settleTray k x s) := by
  unfold settleTray
  split
  · exact (putTray_plain k x s).trans (drainWatch_lawful (b := True) _).toPlain
  · exact putTray_plain k x s

theorem changeTray_plain (k : Nat) (e : TrayState) (f : Tray → Tray) (s : State) : Plain s (changeTray k e f s) := by
  unfold changeTray
  split
  · split
    · exact settleTray_plain _ _ _
    · exact .refl _
  · exact .refl _

/-- The FULL test takes or gives no cart (R124). -/
theorem Chute.fullTest_stands (c : Chute) : CartStands c c.fullTest := by
  unfold Chute.fullTest
  split
  · rename_i hu
    refine ⟨rfl, fun _ => .inl ?_⟩
    rw [Chute.hasCart, hu]
    rfl
  · exact .refl c

@[simp] theorem Chute.fullTest_queue (c : Chute) : c.fullTest.queue = c.queue := by
  unfold Chute.fullTest
  split <;> rfl

@[simp] theorem Chute.fullTest_cart (c : Chute) : c.fullTest.cart = c.cart := by
  unfold Chute.fullTest
  split <;> rfl

@[simp] theorem Chute.fullTest_awaiting (c : Chute) : c.fullTest.awaiting = c.awaiting := by
  unfold Chute.fullTest
  split <;> rfl

theorem fullTest_calm (j : Nat) (s : State) : Calm b s (modifyChute j Chute.fullTest s) :=
  modifyChute_calm j s fun c _ => ⟨c.fullTest_cart, c.fullTest_queue, c.fullTest_awaiting, c.fullTest_stands⟩

/-- A chute that changes and then takes the FULL test. -/
theorem CartStands.fullTest (h : CartStands c d) : CartStands c d.fullTest := by
  obtain ⟨hr, hc⟩ := h
  obtain ⟨hr', hc'⟩ := d.fullTest_stands
  refine ⟨hr'.trans hr, fun hd => ?_⟩
  rcases hc' hd with hd | hd
  · exact hc hd
  · exact .inr (hr ▸ hd)

/-! ## Tags that stand nowhere else (R24, R59) -/

/-- A tag that is not doubled stands in no other tray record, and in no cart but in the entry left out. -/
theorem tagDoubled_false {seq : Option Nat} {tag : Nat} (h : s.tagDoubled k seq tag = false) (h0 : tag ≠ 0) :
    (∀ (i : Nat) (z : Tray), i ≠ k → s.trays[i]? = some z → z.tag ≠ tag) ∧
      ∀ c ∈ s.carts.chutes, ∀ e ∈ c.cart, e.tag = tag → e.tray = k ∧ some e.seq = seq := by
  have hne : (tag != 0) = true := by simpa using h0
  rw [State.tagDoubled, hne, Bool.true_and, Bool.or_eq_false_iff] at h
  obtain ⟨ht, hc⟩ := h
  refine ⟨fun i z hi hz he => ?_, fun c hc' e he htag => ?_⟩
  · rw [State.tagOnOtherTray, List.any_eq_false] at ht
    exact ht (z, i) (List.mem_zipIdx_iff_getElem?.2 hz) (by simp [hi, he])
  · rw [State.tagInCarts, List.any_eq_false] at hc
    have := hc c hc'
    rw [Bool.not_eq_true, List.any_eq_false] at this
    simpa [htag] using this e he

theorem claimTag_free (s : State) (k : Nat) (seq : Option Nat) (tag : Nat) :
    s.tagDoubled k seq (s.claimTag k seq tag) = false := by
  unfold State.claimTag
  split
  · rfl
  · exact Bool.eq_false_iff.2 ‹_›

/-! ## One tray whose state names no order and no drop -/

/-- A chute keeps its orders and its confirmations, and its cart list shrinks. -/
def ChuteShrinks (gone : CartEntry → Prop) (c c' : Chute) : Prop :=
  c'.queue = c.queue ∧ c'.awaiting = c.awaiting ∧ CartShrinks gone c.cart c'.cart

theorem CartShrinks.refl (gone : CartEntry → Prop) (l : List CartEntry) : CartShrinks gone l l := .of_sublist (.refl _)

theorem ChuteShrinks.refl (gone : CartEntry → Prop) (c : Chute) : ChuteShrinks gone c c := ⟨rfl, rfl, .refl _ _⟩

/-- A tray that takes no order and no drop: it keeps its tag, or takes one that stands nowhere else. -/
theorem Tracked.of_tray {gone : CartEntry → Prop} (hx : s.trays[k]? = some x) (ht : t.trays = s.trays.set k y)
    (hc : List.Forall₂ (ChuteShrinks gone) s.carts.chutes t.carts.chutes) (hm : t.mode = s.mode)
    (hxs : x.state ≠ .routed ∧ x.state ≠ .dropping) (hys : y.state ≠ .routed ∧ y.state ≠ .dropping)
    (htag : s.tagDoubled k none y.tag = false ∨ (y.tag = x.tag ∧ ¬ x.state.dropped ∧ ∀ e, ¬ gone e))
    (hgone : ∀ e, gone e → e.tray = k) (hl : s.LineLawAt b → t.LineLawAt b) : Tracked b s t where
  tags h := by
    refine h.fresh ht fun h0 i z hi hz => ?_
    rcases htag with hfree | ⟨heq, -⟩
    · exact (tagDoubled_false hfree h0).1 i z hi hz
    · intro he
      exact hi (h i k z x hz hx (he ▸ h0) (he.trans heq))
  orders h := by
    refine h.keep ?_ (hc.imp fun _ _ h => h.1) hm
    rw [ht]
    exact forall₂_set (.refl _) hx (.inr ⟨hxs.1, hys.1⟩)
  carts _ _ hconf hcarts := by
    refine ⟨hconf.keep ?_ (hc.imp fun _ _ h => h.2.1) hm, (cartTagLaw_iff t).2 (((cartTagLaw_iff s).1 hcarts).shrink
      (hc.imp fun _ _ h => h.2.2) fun i z hz => ?_)⟩
    · rw [ht]
      exact forall₂_set (.refl _) hx (.inr ⟨hxs.2, hys.2⟩)
    · rw [ht, getElem?_set_of_get hx] at hz
      split at hz
      · rename_i hki
        cases hz
        subst hki
        refine ⟨x, hx, ?_⟩
        rcases htag with hfree | ⟨heq, hnd, hng⟩
        · refine .inl fun c hc e he h0 heq => ?_
          have := (tagDoubled_false hfree (heq ▸ h0)).2 c hc e he heq
          cases this.2
        · exact .inr ⟨heq, fun h => absurd h hnd, fun e he => absurd he (hng e)⟩
      · rename_i hki
        exact ⟨z, hz, .inr ⟨rfl, fun h => ⟨h, rfl, rfl⟩, fun e he hk => hki ((hgone e he).symm.trans hk)⟩⟩
  lines := hl

/-- The law of the lines through a tray that neither was nor is RESERVED or LAUNCHING. -/
theorem State.LineLawAt.of_tray (h : s.LineLawAt b) (hx : s.trays[k]? = some x) (ht : t.trays = s.trays.set k y)
    (hl : t.lines = s.lines) (hxs : ¬ x.state.lined) (hys : ¬ y.state.lined) : t.LineLawAt b := by
  refine h.keep ?_ (hl ▸ forall₂_self (LineStands.refl b) _)
  rw [ht]
  exact forall₂_set (.refl _) hx (.inr ⟨hxs, hys⟩)

/-- A state of a tray that goes with no line, no order and no confirmation. -/
def TrayState.loose (st : TrayState) : Prop := ¬ st.lined ∧ st ≠ .routed ∧ st ≠ .dropping

/-- A tray that is loose before and after is written; its tag stands, or stands nowhere else. -/
theorem putTray_lawful (hx : s.trays[k]? = some x) (hxs : x.state.loose) (hys : y.state.loose)
    (htag : s.tagDoubled k none y.tag = false ∨ (y.tag = x.tag ∧ ¬ x.state.dropped)) : Lawful b s (putTray k y s) :=
  (putTray_plain k y s).lawful
    (.of_tray (gone := fun _ => False) hx rfl (forall₂_self (ChuteShrinks.refl _) _) rfl hxs.2 hys.2
      (htag.imp_right fun h => ⟨h.1, h.2, fun _ => id⟩) nofun (fun h => h.of_tray hx rfl rfl hxs.1 hys.1))

/-- A loose tray that becomes EMPTY or DISABLED. -/
theorem settleBlank_lawful {st : TrayState} (hx : s.trays[k]? = some x) (hxs : x.state.loose) (hst : st.loose) :
    Lawful b s (settleTray k (Tray.blank st) s) := by
  have hput : Lawful b s (putTray k (Tray.blank st) s) := putTray_lawful hx hxs hst (.inl rfl)
  unfold settleTray
  split
  · exact hput.trans (drainWatch_lawful _)
  · exact hput

end

end Sys2Proof.Machine
end

section
/-! # Carts, reports and confirmations (sections 7.3 to 7.8) -/

namespace Sys2Proof.Machine

open Sys2Proof

section
variable {b : Prop} {s t u : State} {k j seq serial : Nat} {x y : Tray} {c d : Chute}

/-! ## Cart lists that shrink (R131, R132) -/

/-- A chute that keeps what the laws of the reports and the orders see, and whose cart list loses entries. -/
def ChuteEases (c c' : Chute) : Prop := CartStands c c' ∧ ChuteShrinks (fun _ => False) c c'

theorem ChuteEases.refl (c : Chute) : ChuteEases c c := ⟨.refl c, .refl _ c⟩

/-- Cart lists that lose entries, and nothing else that the laws of the trays see. -/
theorem Tracked.of_shrink (ht : t.trays = s.trays) (hl : t.lines = s.lines) (hm : t.mode = s.mode)
    (hc : List.Forall₂ (ChuteShrinks fun _ => False) s.carts.chutes t.carts.chutes) : Tracked b s t where
  tags h := by rwa [State.TagLaw, ht]
  orders h := h.keep (ht ▸ forall₂_self (.refl _) _) (hc.imp fun _ _ h => h.1) hm
  carts _ _ hconf hcarts :=
    ⟨hconf.keep (ht ▸ forall₂_self (.refl _) _) (hc.imp fun _ _ h => h.2.1) hm,
      (cartTagLaw_iff t).2 (((cartTagLaw_iff s).1 hcarts).shrink (hc.imp fun _ _ h => h.2.2) fun k x hx =>
        ⟨x, ht ▸ hx, .inr ⟨rfl, fun h => ⟨h, rfl, rfl⟩, fun _ => False.elim⟩⟩)⟩
  lines h := h.keep (ht ▸ forall₂_self (.refl _) _) (hl ▸ forall₂_self (LineStands.refl b) _)

/-- A change of one chute that eases it. -/
theorem Lawful.of_chute {f : Chute → Chute} (j : Nat) (hc : t.carts.chutes = s.carts.chutes.modify j f)
    (h : ∀ c, s.carts.chutes[j]? = some c → ChuteEases c (f c)) (ht : t.trays = s.trays := by rfl)
    (hl : t.lines = s.lines := by rfl) (hq : t.carts.reports = s.carts.reports := by rfl)
    (hw : t.carts.waiting = s.carts.waiting := by rfl) (hx : t.strays = s.strays := by rfl)
    (hm : t.session = s.session := by rfl) (hr : t.mgmt = s.mgmt := by rfl) (hb : t.link = s.link := by rfl) :
    Lawful b s t := by
  have hall : List.Forall₂ ChuteEases s.carts.chutes t.carts.chutes := hc ▸ forall₂_modify_at ChuteEases.refl _ _ h
  refine Plain.lawful (.write (hall.imp fun _ _ h => h.1) hq hw (hx ▸ rfl) (hx ▸ rfl) (hm ▸ rfl) (hm ▸ rfl) (hm ▸ rfl)
    (hr ▸ rfl) fun hs => ?_) (.of_shrink ht hl (by rw [State.mode, hm]; rfl) (hall.imp fun _ _ h => h.2))
  unfold State.BoundLaw at hs ⊢
  rwa [hr, hb, hx, hq]

theorem modifyChute_lawful {f : Chute → Chute} (j : Nat) (s : State)
    (h : ∀ c, s.carts.chutes[j]? = some c → ChuteEases c (f c)) : Lawful b s (modifyChute j f s) := .of_chute j rfl h

theorem CartShrinks.of_map {gone : CartEntry → Prop} {f : CartEntry → CartEntry} (l : List CartEntry)
    (h : ∀ e, (f e).tag = e.tag ∧ (f e).tray = e.tray ∧ (f e).seq = e.seq ∧ ((f e).status = e.status ∨ gone e)) :
    CartShrinks gone l (l.map f) := ⟨f, .refl _, h⟩

theorem undoDrop_lawful (j serial k seq tag : Nat) (s : State) : Lawful b s (undoDrop j serial k seq tag s) := by
  unfold undoDrop
  split
  · refine (modifyChute_lawful j s fun c _ => ?_).trans (notify_calm _ _).lawful
    exact ⟨CartStands.fullTest ⟨rfl, .inl⟩, by simp, by simp, .of_sublist (by simpa using List.eraseP_sublist)⟩
  · exact (notify_calm _ _).lawful

theorem markAmended_lawful (j serial k seq : Nat) (s : State) : Lawful b s (markAmended j serial k seq s) := by
  refine modifyChute_lawful j s fun c _ => ?_
  split
  · exact ⟨⟨rfl, .inl⟩, rfl, rfl, .of_map _ fun e => by split <;> exact ⟨rfl, rfl, rfl, .inl rfl⟩⟩
  · exact .refl c

/-- A tray in DOUBT whose drop is presumed: its entry is PRESUMED and the tray EMPTY, both at once (R54, R131). -/
theorem presumeDrop_lawful (hx : s.trays[k]? = some x) (hxs : x.state = .doubt) (j serial seq : Nat) :
    Lawful b s (settleTray k (Tray.blank .empty) (presumeDrop j serial k seq s)) := by
  rw [settleTray_away _ (.inl rfl)]
  refine Lawful.trans (Plain.lawful ?_ ?_) (drainWatch_lawful _)
  · refine (modifyChute_plain j s fun c _ => ?_).trans (putTray_plain _ _ _)
    split <;> exact ⟨rfl, .inl⟩
  · refine .of_tray (t := putTray k (Tray.blank .empty) (presumeDrop j serial k seq s)) (gone := fun e => e.tray = k) hx rfl
      (forall₂_modify_at (ChuteShrinks.refl _) _ _ fun c _ => ?_) rfl (by simp [hxs]) (by simp [Tray.blank]) (.inl rfl)
      (fun _ => id) fun h => h.of_tray hx rfl rfl (by simp [hxs, TrayState.lined]) (by simp [Tray.blank, TrayState.lined])
    split
    · refine ⟨rfl, rfl, .of_map _ fun e => ?_⟩
      split
      · rename_i hnamed
        exact ⟨rfl, rfl, rfl, .inr (CartEntry.names_iff.1 hnamed.1).1⟩
      · exact ⟨rfl, rfl, rfl, .inl rfl⟩
    · exact .refl _ c

theorem newCart_lawful (j : Nat) (s : State) : Lawful b s (newCart j s) :=
  .of_chute j rfl fun c _ => ⟨⟨rfl, .inl⟩, rfl, rfl, .of_sublist (List.nil_sublist _)⟩

/-- A chute with no report pending takes a new cart (R126, R136). -/
theorem openWithCart_lawful (h : ∀ c, s.carts.chutes[j]? = some c → c.report = .none) : Lawful b s (openWithCart j s) := by
  refine (newCart_lawful j s).trans (modifyChute_lawful j _ fun c hc => ?_)
  have hr : c.report = .none := by
    simp only [newCart, List.getElem?_modify_eq, Option.map_eq_map, Option.map_eq_some_iff] at hc
    obtain ⟨c', hc', rfl⟩ := hc
    exact h c' hc'
  exact ⟨CartStands.fullTest ⟨rfl, fun _ => .inr hr⟩, by simp, by simp, by simpa using CartShrinks.refl _ _⟩

theorem swapTest_lawful (j : Nat) (s : State) : Lawful b s (swapTest j s) := by
  unfold swapTest
  split
  · rename_i c hc
    refine .ite (fun h => openWithCart_lawful fun c' hc' => ?_) (fun _ => .refl _ _)
    obtain rfl : c = c' := Option.some.inj (hc.symm.trans hc')
    exact h.2.1
  · exact .refl _ _

/-! ## Reports (R133, R134) -/

/-- What a step keeps that closes a cart: every law but that of the reports, which the chute's own change completes. -/
def Closes (b : Prop) (s t : State) : Prop := PlainBut s t ∧ Tracked b s t

theorem Lawful.closes (h : Lawful b s t) : Closes b s t := ⟨h.toPlainBut, h.toTracked⟩

theorem Closes.trans (h : Closes b s t) (h' : Closes b t u) : Closes b s u := ⟨h.1.trans h'.1, h.2.trans h'.2⟩

theorem Closes.lawful (h : Closes b s t) (hr : s.ReportLaw → t.ReportLaw) : Lawful b s t :=
  Plain.lawful { h.1 with reports := hr } h.2

/-- A step on the reports and the report states alone, within the limit of the report queue. -/
theorem Closes.of_reports {f : Chute → Chute} (j : Nat) (hc : t.carts.chutes = s.carts.chutes.modify j f)
    (h : ∀ c : Chute, ChuteShrinks (fun _ => False) c (f c))
    (hq : s.carts.reports.length ≤ Config.reportsMax → t.carts.reports.length ≤ Config.reportsMax)
    (ht : t.trays = s.trays := by rfl) (hl : t.lines = s.lines := by rfl) (hx : t.strays = s.strays := by rfl)
    (hm : t.session = s.session := by rfl) (hr : t.mgmt = s.mgmt := by rfl) (hb : t.link = s.link := by rfl) : Closes b s t := by
  refine ⟨⟨hr ▸ rfl, fun hs => ?_, fun hs => by rwa [State.SessionLaw, hm], fun hs => by rwa [State.StrayLaw, hx]⟩,
    .of_shrink ht hl (by rw [State.mode, hm]; rfl) (hc ▸ forall₂_modify_at (ChuteShrinks.refl _) _ _ fun c _ => h c)⟩
  obtain ⟨h1, h2, h3, h4, h5, h6, h7, h8, h9⟩ := hs
  unfold State.BoundLaw
  rw [hr, hb, hx]
  exact ⟨h1, h2, h3, h4, h5, h6, h7, h8, hq h9⟩

theorem closeCart_closes (j : Nat) (s : State) : Closes b s (closeCart j s) := by
  have hshrink : ∀ (c : Chute) (r : ReportState), ChuteShrinks (fun _ => False) c { c with cart := [], report := r } :=
    fun c r => ⟨rfl, rfl, .of_sublist (List.nil_sublist _)⟩
  unfold closeCart
  split
  · exact (Lawful.refl b s).closes
  · split
    · rename_i hlen
      refine .of_reports j rfl (fun c => hshrink c _) fun _ => ?_
      simpa using hlen
    · exact .of_reports j rfl (fun c => hshrink c _) id

theorem admitWaiting_closes (s : State) : Closes b s (admitWaiting s) := by
  unfold admitWaiting
  split
  · exact (Lawful.refl b s).closes
  · split
    · rename_i r rest _ hlen
      refine .of_reports r.chute rfl (fun c => ⟨rfl, rfl, .refl _ _⟩) fun _ => ?_
      simpa using hlen
    · exact (Lawful.refl b s).closes

/-- The law of the reports with each pending report at its chute: the chutes that hold one are those in no place but theirs. -/
theorem reportLaw_pending (h : s.ReportLaw) (hc : s.carts.chutes[j]? = some c) :
    c.report = .none ↔ ∀ r ∈ s.carts.reports ++ s.carts.waiting, r.chute ≠ j := by
  obtain ⟨-, -, -, -, hst⟩ := h
  obtain ⟨hq, hw, -⟩ := hst j c hc
  constructor
  · intro hn r hr hrj
    rcases List.mem_append.1 hr with hr | hr
    · cases hn.symm.trans (hq.2 ⟨r, hr, hrj⟩)
    · cases hn.symm.trans (hw.2 ⟨r, hr, hrj⟩)
  · intro hno
    cases hr : c.report with
    | none => rfl
    | queued =>
      obtain ⟨r, hr, hrj⟩ := hq.1 hr
      exact absurd hrj (hno r (List.mem_append_left _ hr))
    | waiting =>
      obtain ⟨r, hr, hrj⟩ := hw.1 hr
      exact absurd hrj (hno r (List.mem_append_right _ hr))

/-- A report more, of a chute that held none and has no current cart any more: in the report queue or in the waiting list. -/
theorem State.ReportLaw.close (h : s.ReportLaw) {r : Report} (hc : s.carts.chutes[j]? = some c) (hn : c.report = .none)
    (hr : r.chute = j) (hd : t.carts.chutes = s.carts.chutes.set j d) (hcart : d.hasCart = false)
    (hcase : (d.report = .queued ∧ t.carts.reports = s.carts.reports ++ [r] ∧ t.carts.waiting = s.carts.waiting) ∨
      (d.report = .waiting ∧ t.carts.reports = s.carts.reports ∧ t.carts.waiting = s.carts.waiting ++ [r])) : t.ReportLaw := by
  have hfree := (reportLaw_pending h hc).1 hn
  obtain ⟨hw, hlen, hnd, hlt, hst⟩ := h
  have hj : j < s.carts.chutes.length := (List.getElem?_eq_some_iff.1 hc).1
  have get := getElem?_set_of_get hc d
  rw [← hd] at get
  have hlen' : t.carts.chutes.length = s.carts.chutes.length := by rw [hd, List.length_set]
  have hperm : (t.carts.reports ++ t.carts.waiting).Perm (r :: (s.carts.reports ++ s.carts.waiting)) := by
    rcases hcase with ⟨-, hq, hw⟩ | ⟨-, hq, hw⟩
    · rw [hq, hw, List.append_assoc]
      exact List.perm_middle
    · rw [hq, hw, ← List.append_assoc]
      exact List.perm_append_singleton _ _
  have hnd' : ((t.carts.reports ++ t.carts.waiting).map Report.chute).Nodup := by
    rw [(hperm.map Report.chute).nodup_iff, List.map_cons, List.nodup_cons]
    refine ⟨fun hm => ?_, hnd⟩
    obtain ⟨r', hr', he⟩ := List.mem_map.1 hm
    exact hfree r' hr' (he.trans hr)
  have hlt' : ∀ r' ∈ t.carts.reports ++ t.carts.waiting, r'.chute < t.carts.chutes.length := by
    intro r' hr'
    rw [hlen']
    rcases List.mem_cons.1 (hperm.mem_iff.1 hr') with rfl | hr'
    · exact hr ▸ hj
    · exact hlt r' hr'
  have hcount : (t.carts.reports ++ t.carts.waiting).length ≤ t.carts.chutes.length := by
    have hsub : (t.carts.reports ++ t.carts.waiting).map Report.chute ⊆ List.range t.carts.chutes.length := by
      intro n hn
      obtain ⟨r', hr', rfl⟩ := List.mem_map.1 hn
      exact List.mem_range.2 (hlt' r' hr')
    simpa using (List.subperm_of_subset hnd' hsub).length_le
  refine ⟨?_, by omega, hnd', hlt', fun i c' hc' => ?_⟩
  · rw [List.length_append] at hcount
    omega
  · rw [get] at hc'
    split at hc'
    · rename_i hji
      cases hc'
      subst hji
      have hq0 : ¬ ∃ r ∈ s.carts.reports, r.chute = j := fun ⟨r', hr', he⟩ => hfree r' (List.mem_append_left _ hr') he
      have hw0 : ¬ ∃ r ∈ s.carts.waiting, r.chute = j := fun ⟨r', hr', he⟩ => hfree r' (List.mem_append_right _ hr') he
      refine ⟨?_, ?_, fun hh => by rw [hcart] at hh; cases hh⟩
      · rcases hcase with ⟨hs, hq, -⟩ | ⟨hs, hq, -⟩
        · exact iff_of_true hs ⟨r, by simp [hq], hr⟩
        · exact iff_of_false (by simp [hs]) (hq ▸ hq0)
      · rcases hcase with ⟨hs, -, hw⟩ | ⟨hs, -, hw⟩
        · exact iff_of_false (by simp [hs]) (hw ▸ hw0)
        · exact iff_of_true hs ⟨r, by simp [hw], hr⟩
    · rename_i hji
      have hother : ∀ l : List Report, (∃ r' ∈ l ++ [r], r'.chute = i) ↔ ∃ r' ∈ l, r'.chute = i := by
        intro l
        simp only [List.mem_append, List.mem_singleton]
        exact ⟨fun ⟨r', hr', he⟩ => ⟨r', hr'.resolve_right fun h => hji (hr.symm.trans (h ▸ he)), he⟩,
          fun ⟨r', hr', he⟩ => ⟨r', .inl hr', he⟩⟩
      obtain ⟨hq', hw', hh⟩ := hst i c' hc'
      rcases hcase with ⟨-, hq, hw⟩ | ⟨-, hq, hw⟩
      · rw [hq, hw, hother]
        exact ⟨hq', hw', hh⟩
      · rw [hq, hw, hother]
        exact ⟨hq', hw', hh⟩

/-- A cart closed at a chute that held no report, its record then changed to one without a current cart. -/
theorem closeCart_reportLaw (h : s.ReportLaw) (hc : s.carts.chutes[j]? = some c) (hn : c.report = .none) {f : Chute → Chute}
    (hf : ∀ r, (f { c with cart := [], report := r }).report = r ∧ (f { c with cart := [], report := r }).hasCart = false) :
    (modifyChute j f (closeCart j s)).ReportLaw := by
  have hc' : s.chute? j = some c := hc
  unfold closeCart
  simp only [hc']
  split
  all_goals
    refine h.close (r := c.reportOf s.session.voyage j) hc hn rfl (d := f _)
      (by simp only [modifyChute, List.modify_modify_eq]; exact set_eq_modify_of_get hc _) (hf _).2 ?_
  · exact .inl ⟨(hf _).1, rfl, rfl⟩
  · exact .inr ⟨(hf _).1, rfl, rfl⟩

/-- The oldest waiting report moves to the tail of the report queue (R134). -/
theorem State.ReportLaw.moveWaiting (h : s.ReportLaw) {r : Report} {rest : List Report} (hw : s.carts.waiting = r :: rest)
    (ht : t.carts.reports = s.carts.reports ++ [r]) (ht' : t.carts.waiting = rest)
    (hd : t.carts.chutes = s.carts.chutes.modify r.chute (fun c => { c with report := .queued })) : t.ReportLaw := by
  obtain ⟨hlen, hn, hnd, hlt, hst⟩ := h
  have happ : t.carts.reports ++ t.carts.waiting = s.carts.reports ++ s.carts.waiting := by
    rw [ht, ht', hw, List.append_assoc]
    rfl
  have hlen' : t.carts.chutes.length = s.carts.chutes.length := by rw [hd, List.length_modify]
  have hthis : ∀ r' ∈ rest, r'.chute ≠ r.chute := by
    rw [hw, List.map_append, List.map_cons] at hnd
    have := (List.nodup_cons.1 (List.nodup_append.1 hnd).2.1).1
    exact fun r' hr' he => this (he ▸ List.mem_map_of_mem hr')
  refine ⟨?_, by omega, by rwa [happ], by rwa [happ, hlen'], fun i c' hc' => ?_⟩
  · rw [hw, List.length_cons] at hlen
    rw [ht']
    omega
  · rw [hd, List.getElem?_modify, Option.map_eq_map, Option.map_eq_some_iff] at hc'
    obtain ⟨c, hc, rfl⟩ := hc'
    obtain ⟨hq', hw', hh⟩ := hst i c hc
    rw [ht, ht']
    by_cases hi : r.chute = i
    · have hwait : c.report = .waiting := hw'.2 ⟨r, by simp [hw], hi⟩
      have hno : c.hasCart = false := by
        cases hcart : c.hasCart with
        | false => rfl
        | true => cases (hh hcart).symm.trans hwait
      simp only [if_pos hi]
      refine ⟨iff_of_true trivial ⟨r, by simp, hi⟩, iff_of_false nofun ?_, fun hcart => ?_⟩
      · rintro ⟨r', hr', he⟩
        exact hthis r' hr' (he.trans hi.symm)
      · rw [show ({ c with report := .queued } : Chute).hasCart = c.hasCart from rfl, hno] at hcart
        cases hcart
    · simp only [if_neg hi]
      refine ⟨hq'.trans ?_, hw'.trans ?_, hh⟩
      · simp [hi]
      · simp [hw, hi]

theorem admitWaiting_lawful (s : State) : Lawful b s (admitWaiting s) := by
  refine (admitWaiting_closes s).lawful fun h => ?_
  unfold admitWaiting
  split
  · exact h
  · rename_i r rest hw
    split
    · exact h.moveWaiting hw rfl rfl rfl
    · exact h

/-- The head report has been sent: its chute holds none pending any more (R134). -/
theorem State.ReportLaw.sent (h : s.ReportLaw) {r : Report} {rest : List Report} (hq : s.carts.reports = r :: rest)
    (ht : t.carts.reports = rest) (ht' : t.carts.waiting = s.carts.waiting)
    (hd : t.carts.chutes = s.carts.chutes.modify r.chute (fun c => { c with report := .none })) : t.ReportLaw := by
  obtain ⟨hlen, hn, hnd, hlt, hst⟩ := h
  have hsub : (t.carts.reports ++ t.carts.waiting).Sublist (s.carts.reports ++ s.carts.waiting) := by
    rw [ht, ht', hq]
    exact (List.sublist_cons_self _ _).append_right _
  have hlen' : t.carts.chutes.length = s.carts.chutes.length := by rw [hd, List.length_modify]
  have hthis : ∀ r' ∈ rest ++ s.carts.waiting, r'.chute ≠ r.chute := by
    rw [hq, List.cons_append, List.map_cons, List.nodup_cons] at hnd
    exact fun r' hr' he => hnd.1 (he ▸ List.mem_map_of_mem hr')
  refine ⟨by rwa [ht'], by omega, hnd.sublist (hsub.map _), fun r' hr' => hlen' ▸ hlt r' (hsub.subset hr'), fun i c' hc' => ?_⟩
  rw [hd, List.getElem?_modify, Option.map_eq_map, Option.map_eq_some_iff] at hc'
  obtain ⟨c, hc, rfl⟩ := hc'
  obtain ⟨hq', hw', hh⟩ := hst i c hc
  rw [ht, ht']
  by_cases hi : r.chute = i
  · simp only [if_pos hi]
    refine ⟨iff_of_false nofun ?_, iff_of_false nofun ?_, fun _ => trivial⟩
    · rintro ⟨r', hr', he⟩
      exact hthis r' (List.mem_append_left _ hr') (he.trans hi.symm)
    · rintro ⟨r', hr', he⟩
      exact hthis r' (List.mem_append_right _ hr') (he.trans hi.symm)
  · simp only [if_neg hi]
    refine ⟨hq'.trans ?_, hw', hh⟩
    simp [hq, hi]

theorem reportSent_lawful (s : State) : Lawful b s (reportSent s) := by
  unfold reportSent
  split
  · exact .refl _ _
  · rename_i r rest hq
    refine Lawful.trans ?_ (admitWaiting_lawful _)
    refine Lawful.trans ?_ (swapTest_lawful _ _)
    refine (Closes.of_reports (f := fun c => { c with report := .none }) r.chute rfl (fun c => ⟨rfl, rfl, .refl _ _⟩)
      fun h => ?_).lawful fun h => h.sent hq rfl rfl rfl
    rw [hq, List.length_cons] at h
    exact Nat.le_of_succ_le h

theorem cartFrameSent_lawful (s : State) : Lawful b s (cartFrameSent s) := by
  unfold cartFrameSent
  split
  · exact .refl _ _
  · exact .ite (fun _ => Calm.lawful .write) (fun _ => reportSent_lawful _)

end

end Sys2Proof.Machine
end

section
/-! # Orders that leave their queue, and drops (sections 6.2 to 6.4, 7.4 to 7.6) -/

namespace Sys2Proof.Machine

open Sys2Proof

/-- What a step keeps of the trays with their tags, orders and lines. -/
structure Ordered (armed : Prop) (s t : State) : Prop where
  tags : s.TagLaw → t.TagLaw
  orders : s.OrderLaw → t.OrderLaw
  lines : s.LineLawAt armed → t.LineLawAt armed

/-- A record that a tray takes on leaving an order or a drop: its tag stands or is cleared. -/
def Tray.Released (x y : Tray) : Prop := ¬ y.state.lined ∧ y.state ≠ .routed ∧ (y.tag = x.tag ∨ y.tag = 0)

section
variable {b : Prop} {s t u : State} {k j : Nat} {x y : Tray} {c d : Chute} {o : Order}

theorem Tracked.ordered (h : Tracked b s t) : Ordered b s t := ⟨h.tags, h.orders, h.lines⟩

theorem Ordered.refl (b : Prop) (s : State) : Ordered b s s := ⟨id, id, id⟩

theorem Ordered.trans (h : Ordered b s t) (h' : Ordered b t u) : Ordered b s u :=
  ⟨h'.tags ∘ h.tags, h'.orders ∘ h.orders, h'.lines ∘ h.lines⟩

theorem queues_stand (l : List Chute) : List.Forall₂ (fun c c' : Chute => c'.queue = c.queue) l l :=
  forall₂_self (R := fun c c' : Chute => c'.queue = c.queue) (fun _ => rfl) l

/-- A change of one tray leaves the tags. -/
theorem State.TagLaw.of_tray (h : s.TagLaw) (hx : s.trays[k]? = some x) (ht : t.trays = s.trays.set k y)
    (htag : y.tag = x.tag ∨ y.tag = 0) : t.TagLaw := by
  refine h.keep ?_
  rw [ht]
  exact forall₂_set (fun _ => .inl rfl) hx htag

/-- What asking for a change of tray state does: the change, or nothing. -/
theorem changeTray_cases (k : Nat) (e : TrayState) (f : Tray → Tray) (s : State) :
    (∃ x, s.trays[k]? = some x ∧ x.state = e ∧ changeTray k e f s = settleTray k (f x) s) ∨
      ((∀ x, s.trays[k]? = some x → x.state ≠ e) ∧ changeTray k e f s = s) := by
  by_cases h : ∃ x, s.trays[k]? = some x ∧ x.state = e
  · obtain ⟨x, hx, he⟩ := h
    exact .inl ⟨x, hx, he, changeTray_made hx he⟩
  · have hno : ∀ x, s.trays[k]? = some x → x.state ≠ e := fun x hx he => h ⟨x, hx, he⟩
    exact .inr ⟨hno, changeTray_dropped hno⟩

/-- A write that may evaluate the drain watch keeps what the write keeps. -/
theorem settleTray_ordered (h : Ordered b s (putTray k y u)) : Ordered b s (settleTray k y u) := by
  unfold settleTray
  split
  · exact h.trans (drainWatch_lawful _).toTracked.ordered
  · exact h

theorem settleTray_carts (h : (putTray k y u).ConfirmationLaw ∧ (putTray k y u).CartTagLaw) :
    (settleTray k y u).ConfirmationLaw ∧ (settleTray k y u).CartTagLaw := by
  unfold settleTray
  split
  · exact drainWatch_cartLaws h.1 h.2
  · exact h

/-- A tray that leaves the state DROPPING. -/
theorem releaseDrop_ordered {g : Tray → Tray} (k : Nat) (hg : ∀ x : Tray, x.Released (g x)) (s : State) :
    Ordered b s (changeTray k .dropping g s) := by
  rcases changeTray_cases k .dropping g s with ⟨x, hx, hxs, he⟩ | ⟨-, he⟩
  · rw [he]
    obtain ⟨hlined, hrouted, htag⟩ := hg x
    refine settleTray_ordered ⟨fun h => h.of_tray hx rfl htag, fun h => h.keep ?_ (queues_stand _) rfl,
      fun h => h.of_tray hx rfl rfl (by simp [hxs, TrayState.lined]) hlined⟩
    exact forall₂_set (.refl _) hx (.inr ⟨by simp [hxs], hrouted⟩)
  · rw [he]
    exact .refl b s

/-! ## An order leaves its queue (R105, R106, R109, R110, R112) -/

/-- The order of a ROUTED tray leaves its queue and the tray its state, whatever else of the chute changes with it. -/
theorem orderLeaves_ordered {g : Tray → Tray} (hc : s.carts.chutes[j]? = some c) (ho : o ∈ c.queue) (ht : u.trays = s.trays)
    (hl : u.lines = s.lines) (hm : u.mode = s.mode) (hd : u.carts.chutes = s.carts.chutes.set j d)
    (hq : d.queue = c.queue.eraseP (Order.isOf o.tray)) (hg : ∀ x : Tray, x.Released (g x)) :
    Ordered b s (changeTray o.tray .routed g u) := by
  rcases changeTray_cases o.tray .routed g u with ⟨x, hx, hxs, he⟩ | ⟨hno, he⟩
  · rw [he]
    rw [ht] at hx
    obtain ⟨hlined, hrouted, htag⟩ := hg x
    have hset : (putTray o.tray (g x) u).trays = s.trays.set o.tray (g x) := by rw [← ht]; rfl
    exact settleTray_ordered ⟨fun h => h.of_tray hx hset htag, fun h => h.leave hx hset hrouted hc ho hd hq hm,
      fun h => h.of_tray hx hset hl (by simp [hxs, TrayState.lined]) hlined⟩
  · rw [he]
    refine ⟨fun h => by rwa [State.TagLaw, ht], fun h => ?_, fun h => ?_⟩
    · obtain ⟨x, hx, hxs, -⟩ := (h.1 j c hc).2 o ho
      exact absurd hxs (hno x (ht ▸ hx))
    · exact h.keep (ht ▸ forall₂_self (.refl _) _) (hl ▸ forall₂_self (LineStands.refl b) _)

theorem Tray.unroute_released (x : Tray) : x.Released x.unroute :=
  ⟨by simp [Tray.unroute, TrayState.lined], by simp [Tray.unroute], .inl rfl⟩

/-- The tray of an order that leaves recirculates with its tag; carts and confirmations stand. -/
theorem orderLeaves_tracked (hc : s.carts.chutes[j]? = some c) (ho : o ∈ c.queue) (ht : u.trays = s.trays)
    (hl : u.lines = s.lines) (hm : u.mode = s.mode) (hd : u.carts.chutes = s.carts.chutes.set j d)
    (hq : d.queue = c.queue.eraseP (Order.isOf o.tray)) (hcart : d.cart = c.cart) (hawait : d.awaiting = c.awaiting) :
    Tracked b s (changeTray o.tray .routed Tray.unroute u) := by
  obtain ⟨htags, horders, hlines⟩ := orderLeaves_ordered (b := b) hc ho ht hl hm hd hq Tray.unroute_released
  refine ⟨htags, horders, fun _ _ hconf hcarts => ?_, hlines⟩
  have hchutes : ∀ {R : Chute → Chute → Prop}, (∀ c, R c c) → R c d → List.Forall₂ R s.carts.chutes u.carts.chutes :=
    fun hr h => hd ▸ forall₂_set hr hc h
  have htrays : List.Forall₂ (fun x x' : Tray => x' = x ∨ (x.state = .routed ∧ x' = x.unroute)) s.trays
      (changeTray o.tray .routed Tray.unroute u).trays := by
    rcases changeTray_cases o.tray .routed Tray.unroute u with ⟨x, hx, hxs, he⟩ | ⟨-, he⟩
    · rw [he, settleTray_aboard _ (by simp [Tray.unroute]) (by simp [Tray.unroute])]
      change List.Forall₂ _ s.trays (u.trays.set o.tray x.unroute)
      rw [ht] at hx ⊢
      exact forall₂_set (fun _ => .inl rfl) hx (.inr ⟨hxs, rfl⟩)
    · rw [he, ht]
      exact forall₂_self (fun _ => .inl rfl) _
  have hu : (changeTray o.tray .routed Tray.unroute u).carts = u.carts ∧
      (changeTray o.tray .routed Tray.unroute u).mode = u.mode := by
    rw [changeTray_eq fun _ => by simp [Tray.unroute]]
    exact ⟨rfl, rfl⟩
  refine ⟨hconf.keep (htrays.imp fun x x' h => ?_) (hu.1 ▸ hchutes (fun _ => rfl) hawait) (hu.2.trans hm),
    (cartTagLaw_iff _).2 (((cartTagLaw_iff s).1 hcarts).shrink (gone := fun _ => False)
      (hu.1 ▸ hchutes (fun _ => .refl _ _) (hcart ▸ .refl _ _)) fun k x' hx' => ?_)⟩
  · rcases h with rfl | ⟨hs, rfl⟩
    · exact .inl rfl
    · exact .inr ⟨by simp [hs], by simp [Tray.unroute]⟩
  · obtain ⟨x, hx, rfl | ⟨hs, rfl⟩⟩ := forall₂_get_right htrays hx'
    · exact ⟨x', hx, .inr ⟨rfl, fun h => ⟨h, rfl, rfl⟩, fun _ => False.elim⟩⟩
    · exact ⟨x, hx, .inr ⟨rfl, fun h => absurd h (by simp [hs, TrayState.dropped]), fun _ => False.elim⟩⟩

/-- An order that leaves its queue with a change of its chute, while its tray recirculates. -/
theorem orderLeaves_lawful {f : Chute → Chute} (hc : s.carts.chutes[j]? = some c) (ho : o ∈ c.queue)
    (hf : (f c).queue = c.queue.eraseP (Order.isOf o.tray) ∧ (f c).cart = c.cart ∧ (f c).awaiting = c.awaiting ∧
      CartStands c (f c)) : Lawful b s (changeTray o.tray .routed Tray.unroute (modifyChute j f s)) := by
  obtain ⟨hq, hcart, hawait, hst⟩ := hf
  refine Plain.lawful ?_ (orderLeaves_tracked hc ho rfl rfl rfl (set_eq_modify_of_get hc f) hq hcart hawait)
  refine (modifyChute_plain j s fun c' hc' => ?_).trans (changeTray_plain _ _ _ _)
  obtain rfl : c = c' := Option.some.inj (hc.symm.trans hc')
  exact hst

theorem Chute.watched_mem (h : c.watched = some o) : o ∈ c.queue := by
  obtain ⟨m, -, hf⟩ := Option.bind_eq_some_iff.1 h
  exact List.mem_of_find?_eq_some hf

theorem missOrder_lawful (hc : s.carts.chutes[j]? = some c) (ho : o ∈ c.queue) : Lawful b s (missOrder j o.tray s) :=
  orderLeaves_lawful hc ho ⟨by simp [Chute.leave], by simp [Chute.leave], by simp [Chute.leave], CartStands.fullTest ⟨rfl, .inl⟩⟩

theorem shadowFire_lawful (hc : s.carts.chutes[j]? = some c) (ho : o ∈ c.queue) : Lawful b s (shadowFire j o.tray s) :=
  orderLeaves_lawful hc ho ⟨by simp [Chute.leave], by simp [Chute.leave], by simp [Chute.leave], CartStands.fullTest ⟨rfl, .inl⟩⟩

theorem fireRefused_lawful (hc : s.carts.chutes[j]? = some c) (ho : o ∈ c.queue) : Lawful b s (fireRefused j o.tray s) :=
  (withSched_calm _ s).lawful.trans (missOrder_lawful (s := withSched _ s) hc ho)

/-! ## Confirmations that end (R111, R129, R130) -/

/-- A confirmation leaves its list, its tray leaves the state DROPPING, and its entry may leave the status PENDING where the
tray loses its tag. -/
theorem confirmationEnds_tracked {f : Chute → Chute} {g : Tray → Tray} {a : Confirmation} {gone : CartEntry → Prop}
    (hc : s.carts.chutes[j]? = some c) (ha : a ∈ c.awaiting) (hq : (f c).queue = c.queue)
    (hsub : (f c).awaiting.Sublist c.awaiting)
    (hmem : (c.awaiting.map Confirmation.tray).Nodup → ∀ p, p ∈ (f c).awaiting ↔ p ∈ c.awaiting ∧ p.tray ≠ a.tray)
    (hcart : CartShrinks gone c.cart (f c).cart) (hgone : ∀ e, gone e → e.tray = a.tray)
    (hg : ∀ x : Tray, x.Released (g x) ∧ (g x).state ≠ .dropping)
    (htag : ∀ x : Tray, (g x).tag = 0 ∨
      ((g x).tag = x.tag ∧ (g x).state.dropped ∧ (g x).seq = x.seq ∧ (g x).target = x.target ∧ ∀ e, ¬ gone e)) :
    Tracked b s (changeTray a.tray .dropping g (modifyChute j f s)) := by
  have hchutes : (modifyChute j f s).carts.chutes = s.carts.chutes.set j (f c) := set_eq_modify_of_get hc f
  have hfirst : Ordered b s (modifyChute j f s) := by
    refine ⟨id, fun h => h.keep (forall₂_self (.refl _) _) ?_ rfl, fun h => ⟨h.1, h.2, h.3, h.4, h.5, h.6⟩⟩
    rw [hchutes]
    exact forall₂_set (R := fun c c' : Chute => c'.queue = c.queue) (fun _ => rfl) hc hq
  obtain ⟨htags, horders, hlines⟩ := hfirst.trans (releaseDrop_ordered (b := b) a.tray (fun x => (hg x).1) _)
  refine ⟨htags, horders, fun _ _ hconf hcarts => ?_, hlines⟩
  obtain ⟨x, hx, hxs, -⟩ := (hconf.1 j c hc).2 a ha
  rw [changeTray_made (s := modifyChute j f s) hx hxs]
  have hput : (putTray a.tray (g x) (modifyChute j f s)).ConfirmationLaw ∧
      (putTray a.tray (g x) (modifyChute j f s)).CartTagLaw := by
    refine ⟨hconf.leave (d := f c) hx rfl (hg x).2 hc ha hchutes hsub (hmem (hconf.1 j c hc).1) rfl,
      (cartTagLaw_iff _).2 (((cartTagLaw_iff s).1 hcarts).shrink (gone := gone) ?_ fun i z hz => ?_)⟩
    · exact hchutes ▸ forall₂_set (fun _ => .refl _ _) hc hcart
    · rw [show (putTray a.tray (g x) (modifyChute j f s)).trays = s.trays.set a.tray (g x) from rfl,
        getElem?_set_of_get hx] at hz
      split at hz
      · rename_i hai
        cases hz
        subst hai
        refine ⟨x, hx, ?_⟩
        rcases htag x with h0 | ⟨htag, hdrop, hseq, htar, hng⟩
        · exact .inl fun _ _ e _ he => h0 ▸ he
        · exact .inr ⟨htag, fun _ => ⟨hdrop, hseq, htar⟩, fun e he => absurd he (hng e)⟩
      · rename_i hai
        exact ⟨z, hz, .inr ⟨rfl, fun h => ⟨h, rfl, rfl⟩, fun e he hk => hai ((hgone e he).symm.trans hk)⟩⟩
  exact settleTray_carts hput

/-- DROPPING to DOUBT, with its confirmation. -/
theorem confirmationDoubted_lawful {f : Chute → Chute} {a : Confirmation} (hc : s.carts.chutes[j]? = some c)
    (ha : a ∈ c.awaiting) (hq : (f c).queue = c.queue) (hcart : (f c).cart = c.cart) (hst : CartStands c (f c))
    (hsub : (f c).awaiting.Sublist c.awaiting)
    (hmem : (c.awaiting.map Confirmation.tray).Nodup → ∀ p, p ∈ (f c).awaiting ↔ p ∈ c.awaiting ∧ p.tray ≠ a.tray) :
    Lawful b s (doubtTray a.tray (modifyChute j f s)) := by
  refine Plain.lawful ?_ (confirmationEnds_tracked (gone := fun _ => False) hc ha hq hsub hmem (hcart ▸ .refl _ _) nofun
    (fun x => ⟨⟨by simp [TrayState.lined], by simp, .inl rfl⟩, by simp⟩)
    (fun x => .inr ⟨rfl, .inr rfl, rfl, rfl, fun _ => id⟩))
  refine (modifyChute_plain j s fun c' hc' => ?_).trans (changeTray_plain _ _ _ _)
  obtain rfl : c = c' := Option.some.inj (hc.symm.trans hc')
  exact hst

/-- The oldest of a list without doubles. -/
theorem mem_rest_iff {a : Confirmation} {rest : List Confirmation} (h : ((a :: rest).map Confirmation.tray).Nodup)
    (p : Confirmation) : p ∈ rest ↔ p ∈ a :: rest ∧ p.tray ≠ a.tray := by
  rw [List.map_cons, List.nodup_cons] at h
  refine ⟨fun hp => ⟨List.mem_cons_of_mem _ hp, fun he => h.1 (he ▸ List.mem_map_of_mem hp)⟩, fun ⟨hp, hne⟩ => ?_⟩
  exact (List.mem_cons.1 hp).resolve_left fun he => hne (he ▸ rfl)

theorem expireOldest_lawful (j : Nat) (s : State) : Lawful b s (expireOldest j s) := by
  unfold expireOldest
  split
  · exact .refl _ _
  · rename_i c hc
    split
    · exact .refl _ _
    · rename_i a rest ha
      refine confirmationDoubted_lawful (c := c) hc (by simp [ha]) ?_ ?_ ⟨?_, ?_⟩ ?_ ?_
      · rfl
      · rfl
      · rfl
      · exact .inl
      · simp [ha]
      · rw [ha]
        exact mem_rest_iff

theorem endConfirmation_lawful (j k seq : Nat) (s : State) : Lawful b s (endConfirmation j k seq s) := by
  unfold endConfirmation
  split
  · exact .refl _ _
  · rename_i c hc
    refine .ite (fun h => ?_) (fun _ => .refl _ _)
    obtain ⟨a, ha, hp⟩ := List.any_eq_true.1 h
    obtain ⟨hk, -⟩ : a.tray = k ∧ a.seq = seq := by simpa using hp
    subst hk
    refine confirmationDoubted_lawful (c := c) hc ha rfl rfl ⟨rfl, .inl⟩ List.eraseP_sublist fun hn p => ?_
    refine mem_eraseP_nodup (key := Confirmation.tray) (fun e he => ?_) hn ha hp p
    simp only [Bool.and_eq_true, beq_iff_eq] at he
    exact he.1

theorem dropNotSent_lawful (j k seq serial tag : Nat) (s : State) : Lawful b s (dropNotSent j k seq serial tag s) := by
  unfold dropNotSent
  split
  · exact .refl _ _
  · exact .ite (fun _ => undoDrop_lawful _ _ _ _ _ _) (fun _ => endConfirmation_lawful _ _ _ _)

/-- Withdrawn drops leave the session to the drain watch alone. -/
theorem withdrawEach_lawful : ∀ (l : List TimedFrame) (s : State), Lawful b s (withdrawEach l s)
  | [], s => .refl b s
  | f :: rest, s => by
    unfold withdrawEach
    split
    · refine Lawful.trans ?_ (withdrawEach_lawful rest _)
      refine Lawful.trans ?_ (drainWatch_lawful _)
      refine Lawful.trans ?_ (dropNotSent_lawful _ _ _ _ _ _)
      exact ((dropFirst_calm s).lawful).trans (withSched_calm _ _).lawful
    · exact withdrawEach_lawful rest s
    · exact withdrawEach_lawful rest s

theorem withdrawDrops_lawful (s : State) : Lawful b s (withdrawDrops s) := withdrawEach_lawful _ _

/-- An eye that sees the oldest drop confirms its entry, and the tray is EMPTY (R130). -/
theorem eyeSaw_lawful (hc : s.carts.chutes[j]? = some c) : Lawful b s (eyeSaw j c s) := by
  unfold eyeSaw
  split
  · refine Lawful.trans ?_ (notify_calm _ _).lawful
    exact modifyChute_lawful j s fun c' _ => ⟨⟨rfl, .inl⟩, .refl _ _⟩
  · rename_i a rest ha
    have hconf : ∀ c' : Chute, CartStands c' (Chute.confirm a c') ∧ (Chute.confirm a c').queue = c'.queue ∧
        (Chute.confirm a c').awaiting = c'.awaiting ∧ CartShrinks (fun e => e.tray = a.tray) c'.cart (Chute.confirm a c').cart := by
      intro c'
      unfold Chute.confirm
      split
      · refine ⟨⟨rfl, .inl⟩, rfl, rfl, .of_map _ fun e => ?_⟩
        split
        · rename_i hn
          exact ⟨rfl, rfl, rfl, .inr (CartEntry.names_iff.1 hn).1⟩
        · exact ⟨rfl, rfl, rfl, .inl rfl⟩
      · exact ⟨.refl _, rfl, rfl, .refl _ _⟩
    refine Plain.lawful ?_ (confirmationEnds_tracked (a := a) (gone := fun e => e.tray = a.tray) hc (by simp [ha]) ?_ ?_ ?_ ?_
      (fun _ => id) (fun x => ⟨⟨by simp [Tray.blank, TrayState.lined], by simp [Tray.blank], .inr rfl⟩, by simp [Tray.blank]⟩)
      (fun x => .inl rfl))
    · refine (modifyChute_plain j s fun c' _ => ?_).trans (changeTray_plain _ _ _ _)
      exact (hconf { c' with awaiting := rest }).1
    · exact (hconf _).2.1
    · rw [(hconf _).2.2.1]
      simp [ha]
    · rw [(hconf _).2.2.1, ha]
      exact mem_rest_iff
    · exact (hconf _).2.2.2

end

end Sys2Proof.Machine
end

section
/-! # Fires, evaluations of the chute monitors, cancellations and new orders (chapter 6) -/

namespace Sys2Proof.Machine

open Sys2Proof

section
variable {b : Prop} {s t u : State} {k j seq tag cabin : Nat} {x y : Tray} {c d : Chute} {o : Order}

/-! ## The entry of a drop (R125, R128) -/

/-- A step that leaves the trays, the lines and the mode. -/
def Still (s t : State) : Prop := t.trays = s.trays ∧ t.lines = s.lines ∧ t.mode = s.mode

theorem Still.trans (h : Still s t) (h' : Still t u) : Still s u :=
  ⟨h'.1.trans h.1, h'.2.1.trans h.2.1, h'.2.2.trans h.2.2⟩

/-- The drop's entry joins the cart list, with the near-full warning and the FULL test. -/
def enterDrop (j k seq tag cabin : Nat) (s : State) : State :=
  modifyChute j Chute.fullTest
    (warnNearFull j (modifyChute j (fun c => { c with cart := c.cart ++ [c.newEntry k seq tag cabin] }) s))

theorem recordDrop_eq (hc : s.carts.chutes[j]? = some c) :
    recordDrop j k seq tag cabin s =
      if c.cfg.confirm = 0 then enterDrop j k seq tag cabin s
      else openConfirmation j k seq (enterDrop j k seq tag cabin s) := by
  have hc' : s.chute? j = some c := hc
  unfold recordDrop
  rw [hc']
  rfl

theorem warnNearFull_still (j : Nat) (s : State) : Still s (warnNearFull j s) := by
  unfold warnNearFull
  split
  · exact ⟨rfl, rfl, rfl⟩
  · split <;> exact ⟨rfl, rfl, rfl⟩

/-- What stands of a chute through the near-full warning and the FULL test. -/
def Chute.Tested (c d : Chute) : Prop := d.cart = c.cart ∧ d.queue = c.queue ∧ d.awaiting = c.awaiting ∧ d.cfg = c.cfg

theorem warnNearFull_chute (hc : s.carts.chutes[j]? = some c) :
    ∃ d, (warnNearFull j s).carts.chutes = s.carts.chutes.set j d ∧ c.Tested d := by
  have hc' : s.chute? j = some c := hc
  have hsame : s.carts.chutes = s.carts.chutes.set j c := by
    obtain ⟨hj, rfl⟩ := List.getElem?_eq_some_iff.1 hc
    exact (List.set_getElem_self hj).symm
  unfold warnNearFull
  simp only [hc']
  split
  · exact ⟨{ c with nearFull := true }, set_eq_modify_of_get hc _, rfl, rfl, rfl, rfl⟩
  · exact ⟨c, hsame, rfl, rfl, rfl, rfl⟩

theorem enterDrop_still (j k seq tag cabin : Nat) (s : State) : Still s (enterDrop j k seq tag cabin s) :=
  Still.trans (t := modifyChute j _ s) ⟨rfl, rfl, rfl⟩ (Still.trans (warnNearFull_still j _) ⟨rfl, rfl, rfl⟩)

theorem enterDrop_chute (hc : s.carts.chutes[j]? = some c) :
    ∃ d, (enterDrop j k seq tag cabin s).carts.chutes = s.carts.chutes.set j d ∧
      d.cart = c.cart ++ [c.newEntry k seq tag cabin] ∧ d.queue = c.queue ∧ d.awaiting = c.awaiting ∧ d.cfg = c.cfg := by
  have hj : j < s.carts.chutes.length := (List.getElem?_eq_some_iff.1 hc).1
  have happ : (modifyChute j (fun c => { c with cart := c.cart ++ [c.newEntry k seq tag cabin] }) s).carts.chutes =
      s.carts.chutes.set j { c with cart := c.cart ++ [c.newEntry k seq tag cabin] } := set_eq_modify_of_get hc _
  obtain ⟨d, hd, hcart, hqueue, hawait, hcfg⟩ := warnNearFull_chute (j := j)
    (s := modifyChute j (fun c => { c with cart := c.cart ++ [c.newEntry k seq tag cabin] }) s)
    (c := { c with cart := c.cart ++ [c.newEntry k seq tag cabin] }) (by rw [happ]; exact List.getElem?_set_self hj)
  rw [happ, List.set_set] at hd
  refine ⟨d.fullTest, ?_, ?_, ?_, ?_, ?_⟩
  · change ((warnNearFull j _).carts.chutes.modify j Chute.fullTest) = _
    rw [hd, set_eq_modify_of_get (List.getElem?_set_self hj), List.set_set]
  · rw [Chute.fullTest_cart, hcart]
  · rw [Chute.fullTest_queue, hqueue]
  · rw [Chute.fullTest_awaiting, hawait]
  · rw [Chute.fullTest_cfg, hcfg]

theorem warnNearFull_lawful (j : Nat) (s : State) : Lawful b s (warnNearFull j s) := by
  unfold warnNearFull
  split
  · exact .refl _ _
  · refine .ite (fun _ => ?_) (fun _ => .refl _ _)
    refine Lawful.trans ?_ (notify_calm _ _).lawful
    exact modifyChute_lawful j s fun c _ => ⟨⟨rfl, .inl⟩, .refl _ _⟩

/-- The entry of a drop keeps the reports, and the trays with their orders and lines. -/
theorem enterDrop_plain (j k seq tag cabin : Nat) (s : State) : Plain s (enterDrop j k seq tag cabin s) := by
  refine Plain.trans ?_ (fullTest_calm (b := True) j _).lawful.toPlain
  refine Plain.trans ?_ (warnNearFull_lawful (b := True) j _).toPlain
  exact modifyChute_plain j s fun c _ => ⟨rfl, .inl⟩

/-- A change of one chute that leaves its orders. -/
theorem modifyChute_ordered {f : Chute → Chute} (j : Nat) (s : State)
    (h : ∀ c, s.carts.chutes[j]? = some c → (f c).queue = c.queue) : Ordered b s (modifyChute j f s) :=
  ⟨id, fun hs => hs.keep (forall₂_self (.refl _) _)
    (forall₂_modify_at (R := fun c c' : Chute => c'.queue = c.queue) (fun _ => rfl) _ _ h) rfl,
    fun h => ⟨h.1, h.2, h.3, h.4, h.5, h.6⟩⟩

theorem enterDrop_ordered (j k seq tag cabin : Nat) (s : State) : Ordered b s (enterDrop j k seq tag cabin s) := by
  refine Ordered.trans ?_ (fullTest_calm j _).lawful.toTracked.ordered
  refine Ordered.trans ?_ (warnNearFull_lawful j _).toTracked.ordered
  exact modifyChute_ordered j s fun c _ => rfl

/-! ## The confirmation of a drop (R129) -/

theorem appendConfirmation_plain (j k seq : Nat) (s : State) : Plain s (appendConfirmation j k seq s) :=
  modifyChute_plain j s fun _ _ => ⟨rfl, .inl⟩

theorem appendConfirmation_ordered (j k seq : Nat) (s : State) : Ordered b s (appendConfirmation j k seq s) :=
  modifyChute_ordered j s fun _ _ => rfl

theorem openConfirmation_plain (j k seq : Nat) (s : State) : Plain s (openConfirmation j k seq s) := by
  unfold openConfirmation
  split
  · exact .refl _
  · split
    · exact appendConfirmation_plain _ _ _ _
    · exact (expireOldest_lawful (b := True) _ _).toPlain.trans (appendConfirmation_plain _ _ _ _)

theorem openConfirmation_ordered (j k seq : Nat) (s : State) : Ordered b s (openConfirmation j k seq s) := by
  unfold openConfirmation
  split
  · exact .refl _ _
  · split
    · exact appendConfirmation_ordered _ _ _ _
    · exact (expireOldest_lawful _ _).toTracked.ordered.trans (appendConfirmation_ordered _ _ _ _)

/-- The oldest confirmation expires, where its tray is DROPPING (R129). -/
theorem expireOldest_eq {a : Confirmation} {rest : List Confirmation} (hc : s.carts.chutes[j]? = some c)
    (ha : c.awaiting = a :: rest) (hx : s.trays[a.tray]? = some x) (hxs : x.state = .dropping) :
    expireOldest j s =
      putTray a.tray { x with state := .doubt }
        (modifyChute j (fun c => { c with awaiting := rest, timedOut := satInc Config.tallyMax c.timedOut }) s) := by
  have hc' : s.chute? j = some c := hc
  unfold expireOldest
  simp only [hc', ha]
  unfold doubtTray
  rw [changeTray_made (s := modifyChute j _ s) hx hxs, settleTray_aboard _ (by simp) (by simp)]

/-! ## A fire (R105, R106) -/

/-- A drop with its confirmation, in carts and confirmations that keep their laws: the tray of a ROUTED order becomes
DROPPING, with a PENDING entry of its tag. -/
theorem drop_carts (hT : s.TagLaw) (hconf : s.ConfirmationLaw) (hcarts : s.CartTagLaw) {o : Order} {e : CartEntry}
    {a : Confirmation} (hx : s.trays[o.tray]? = some x) (hxs : x.state = .routed) (hxj : x.target = some j)
    (hxo : x.seq = some o.seq) (hc : s.carts.chutes[j]? = some c) (ht : t.trays = s.trays.set o.tray y)
    (hys : y.state = .dropping) (hyt : y.tag = x.tag) (hyj : y.target = x.target) (hyo : y.seq = x.seq)
    (hd : t.carts.chutes = s.carts.chutes.set j d) (hcart : d.cart = c.cart ++ [e])
    (he : e.tag = x.tag ∧ e.tray = o.tray ∧ e.seq = o.seq ∧ e.status = .pending) (hawait : d.awaiting = c.awaiting ++ [a])
    (ha : a.tray = o.tray ∧ a.seq = o.seq) (hm : t.mode ∈ [.sorting, .draining]) : t.ConfirmationLaw ∧ t.CartTagLaw := by
  obtain ⟨hetag, hetray, heseq, hestat⟩ := he
  obtain ⟨hatray, haseq⟩ := ha
  have hcarts := (cartTagLaw_iff s).1 hcarts
  have hother : ∀ (i : Nat) (z : Tray), (s.trays.set o.tray y)[i]? = some z → z.tag ≠ 0 → z.tag = x.tag → i = o.tray ∧ z = y := by
    intro i z hz h0 heq
    rw [getElem?_set_of_get hx] at hz
    split at hz
    · exact ⟨Eq.symm ‹_›, (Option.some.inj hz).symm⟩
    · rename_i hi
      exact absurd (hT i o.tray z x hz hx h0 heq).symm hi
  -- no cart holds the tag of a ROUTED tray
  have hnew : ∀ c' ∈ s.carts.chutes, ∀ f ∈ c'.cart, e.tag ≠ 0 → f.tag ≠ e.tag := by
    intro c' hc' f hf h0 heq
    obtain ⟨i, hi⟩ := List.mem_iff_getElem?.1 hc'
    have := (hcarts.owned i o.tray c' f x hi hf hx (heq ▸ h0) (heq.trans hetag)).1
    simp [hxs, TrayState.dropped] at this
  have hmid : CartTags { s with trays := s.trays.set o.tray y } := by
    refine hcarts.shrink (gone := fun _ => False) (forall₂_self (fun _ => .refl _ _) _) fun i z hz => ?_
    rw [getElem?_set_of_get hx] at hz
    split at hz
    · rename_i hi
      cases hz
      exact ⟨x, hi ▸ hx, .inr ⟨hyt, fun h => absurd h (by simp [hxs, TrayState.dropped]), fun _ => False.elim⟩⟩
    · exact ⟨z, hz, .inr ⟨rfl, fun h => ⟨h, rfl, rfl⟩, fun _ => False.elim⟩⟩
  refine ⟨?_, (cartTagLaw_iff t).2 (hmid.append (e := e) ht hc hd hcart hnew fun i z hz h0 heq => ?_)⟩
  · rw [← hatray] at hx ht
    exact hconf.append hx (by simp [hxs]) ht hys (hyj.trans hxj) (by rw [hyo, hxo, haseq]) hc hd hawait hm
  · obtain ⟨hi, rfl⟩ := hother i z hz (heq ▸ h0) (heq ▸ hetag)
    exact ⟨.inl hys, hetray.trans hi.symm, by rw [hyo, hxo, heseq], hyj.trans hxj, hestat⟩

/-- A drop without confirmation: the tray of a ROUTED order becomes EMPTY, with an entry of its tag. -/
theorem drop_carts_eyeless (hT : s.TagLaw) (hconf : s.ConfirmationLaw) (hcarts : s.CartTagLaw) {o : Order} {e : CartEntry}
    (hx : s.trays[o.tray]? = some x) (hxs : x.state = .routed) (hc : s.carts.chutes[j]? = some c)
    (ht : t.trays = s.trays.set o.tray (Tray.blank .empty)) (hd : t.carts.chutes = s.carts.chutes.set j d)
    (hcart : d.cart = c.cart ++ [e]) (he : e.tag = x.tag) (hawait : d.awaiting = c.awaiting) (hm : t.mode = s.mode) :
    t.ConfirmationLaw ∧ t.CartTagLaw := by
  have hcarts := (cartTagLaw_iff s).1 hcarts
  have hnew : ∀ c' ∈ s.carts.chutes, ∀ f ∈ c'.cart, e.tag ≠ 0 → f.tag ≠ e.tag := by
    intro c' hc' f hf h0 heq
    obtain ⟨i, hi⟩ := List.mem_iff_getElem?.1 hc'
    have := (hcarts.owned i o.tray c' f x hi hf hx (heq ▸ h0) (heq.trans he)).1
    simp [hxs, TrayState.dropped] at this
  have hmid : CartTags { s with trays := s.trays.set o.tray (Tray.blank .empty) } := by
    refine hcarts.shrink (gone := fun _ => False) (forall₂_self (fun _ => .refl _ _) _) fun i z hz => ?_
    rw [getElem?_set_of_get hx] at hz
    split at hz
    · rename_i hi
      cases hz
      exact ⟨x, hi ▸ hx, .inl fun _ _ _ _ => id⟩
    · exact ⟨z, hz, .inr ⟨rfl, fun h => ⟨h, rfl, rfl⟩, fun _ => False.elim⟩⟩
  refine ⟨hconf.keep ?_ ?_ hm, (cartTagLaw_iff t).2 (hmid.append (e := e) ht hc hd hcart hnew fun i z hz h0 heq => ?_)⟩
  · rw [ht]
    exact forall₂_set (.refl _) hx (.inr ⟨by simp [hxs], by simp [Tray.blank]⟩)
  · rw [hd]
    exact forall₂_set (R := fun c c' : Chute => c'.awaiting = c.awaiting) (fun _ => rfl) hc hawait
  · rw [getElem?_set_of_get hx] at hz
    split at hz
    · cases hz
      exact absurd heq h0
    · rename_i hi
      exact absurd (hT i o.tray z x hz hx (heq ▸ h0) (heq.symm.trans he)).symm hi

theorem openConfirmation_room (hc : s.carts.chutes[j]? = some c) (h : c.awaiting.length < Config.awaitingMax) :
    openConfirmation j k seq s = appendConfirmation j k seq s := by
  have hc' : s.chute? j = some c := hc
  unfold openConfirmation
  rw [hc']
  exact if_pos h

theorem openConfirmation_full (hc : s.carts.chutes[j]? = some c) (h : ¬ c.awaiting.length < Config.awaitingMax) :
    openConfirmation j k seq s = appendConfirmation j k seq (expireOldest j s) := by
  have hc' : s.chute? j = some c := hc
  unfold openConfirmation
  rw [hc']
  exact if_neg h

/-- A tray that becomes DROPPING with its entry and its confirmation, the oldest confirmation of a full list expiring: as if it
had expired before. -/
theorem openConfirmation_carts (hT : s.TagLaw) (hO : s.OrderLaw) (hconf : s.ConfirmationLaw) (hcarts : s.CartTagLaw)
    {e : Chute} {f : CartEntry} (hx : s.trays[o.tray]? = some x) (hxs : x.state = .routed) (hxj : x.target = some j)
    (hxo : x.seq = some o.seq) (hc : s.carts.chutes[j]? = some c) (ht : t.trays = s.trays.set o.tray y)
    (hys : y.state = .dropping) (hyt : y.tag = x.tag) (hyj : y.target = x.target) (hyo : y.seq = x.seq)
    (hd : t.carts.chutes = s.carts.chutes.set j e) (hcart : e.cart = c.cart ++ [f])
    (hf : f.tag = x.tag ∧ f.tray = o.tray ∧ f.seq = o.seq ∧ f.status = .pending) (hawait : e.awaiting = c.awaiting)
    (hms : t.mode = s.mode) (hm : s.mode ∈ [.sorting, .draining]) :
    (openConfirmation j o.tray o.seq t).ConfirmationLaw ∧ (openConfirmation j o.tray o.seq t).CartTagLaw := by
  have hj : j < s.carts.chutes.length := (List.getElem?_eq_some_iff.1 hc).1
  have htj : t.carts.chutes[j]? = some e := by rw [hd]; exact List.getElem?_set_self hj
  by_cases hroom : e.awaiting.length < Config.awaitingMax
  · rw [openConfirmation_room htj hroom]
    refine drop_carts (d := { e with awaiting := e.awaiting ++ [e.confirmation o.tray o.seq t.now] }) (y := y) hT hconf hcarts hx
      hxs hxj hxo hc ht hys hyt hyj hyo ?_ hcart hf (by rw [hawait]) ⟨rfl, rfl⟩ (hms ▸ hm)
    change t.carts.chutes.modify j _ = _
    rw [set_eq_modify_of_get htj, hd, List.set_set]
  · rw [openConfirmation_full htj hroom]
    cases ha : c.awaiting with
    | nil =>
      rw [hawait, ha] at hroom
      exact absurd (by decide) hroom
    | cons a rest =>
      obtain ⟨z, hz, hzs, -⟩ := (hconf.1 j c hc).2 a (by simp [ha])
      have hne : o.tray ≠ a.tray := by
        intro he
        rw [← he, hx] at hz
        cases hz
        simp [hxs] at hzs
      have htz : t.trays[a.tray]? = some z := by rw [ht, List.getElem?_set_ne hne, hz]
      have hfirst := expireOldest_eq hc ha hz hzs
      have hlast := expireOldest_eq htj (hawait.trans ha) htz hzs
      have hlaws := expireOldest_lawful (b := True) j s
      obtain ⟨hconf', hcarts'⟩ := hlaws.carts hT hO hconf hcarts
      have hT' := hlaws.tags hT
      rw [hfirst] at hT' hconf' hcarts'
      rw [hlast]
      have hchutes : (modifyChute j (fun c => { c with awaiting := rest, timedOut := satInc Config.tallyMax c.timedOut }) s).carts.chutes =
          s.carts.chutes.set j { c with awaiting := rest, timedOut := satInc Config.tallyMax c.timedOut } := set_eq_modify_of_get hc _
      refine drop_carts (y := y) (x := x) (c := { c with awaiting := rest, timedOut := satInc Config.tallyMax c.timedOut })
        (d := { e with
          awaiting := rest ++ [{ e with awaiting := rest, timedOut := satInc Config.tallyMax e.timedOut : Chute }.confirmation o.tray o.seq t.now]
          timedOut := satInc Config.tallyMax e.timedOut })
        hT' hconf' hcarts' ?_ hxs hxj hxo ?_ ?_ hys hyt hyj hyo ?_ hcart hf rfl ⟨rfl, rfl⟩ ?_
      · exact (List.getElem?_set_ne hne.symm).trans hx
      · change (modifyChute j _ s).carts.chutes[j]? = _
        rw [hchutes]
        exact List.getElem?_set_self hj
      · change t.trays.set a.tray _ = (s.trays.set a.tray _).set o.tray y
        rw [ht]
        exact List.set_comm _ _ hne
      · change (t.carts.chutes.modify j _).modify j _ = (s.carts.chutes.modify j _).set j _
        rw [List.modify_modify_eq, set_eq_modify_of_get htj, hd, List.set_set, set_eq_modify_of_get hc, List.set_set]
        rfl
      · exact hms ▸ hm

theorem cartLaws_of_still (h : Still s t) (hc : t.carts = s.carts) (hs : s.ConfirmationLaw ∧ s.CartTagLaw) :
    t.ConfirmationLaw ∧ t.CartTagLaw := by
  obtain ⟨ht, -, hm⟩ := h
  rwa [State.ConfirmationLaw, State.CartTagLaw, ht, hc, hm]

/-- The chute that fires: its order leaves and FIRED rises (R105). -/
def Chute.fire (k : Nat) (c : Chute) : Chute := { c.leave k with fired := satInc Config.tallyMax c.fired }

theorem sendDrop_still (j : Nat) (c : Chute) (o : Order) (x : Tray) (s : State) : Still s (sendDrop j c o x s) := ⟨rfl, rfl, rfl⟩

theorem sendDrop_chutes (hc : s.carts.chutes[j]? = some d) (c : Chute) (o : Order) (x : Tray) :
    (sendDrop j c o x s).carts.chutes = s.carts.chutes.set j (d.fire o.tray) := set_eq_modify_of_get hc _

theorem sendDrop_plain (hroom : s.timingRoom = true) (j : Nat) (c : Chute) (o : Order) (x : Tray) :
    Plain s (sendDrop j c o x s) :=
  (queueTimed_calm (b := True) _ _ hroom).lawful.toPlain.trans (modifyChute_plain j _ fun _ _ => ⟨rfl, .inl⟩)

theorem StraysOnly.still (h : StraysOnly s t) : Still s t ∧ t.carts = s.carts := by
  obtain ⟨l, m, rfl⟩ := h
  exact ⟨⟨rfl, rfl, rfl⟩, rfl⟩

theorem recordDrop_plain (j k seq tag cabin : Nat) (s : State) : Plain s (recordDrop j k seq tag cabin s) := by
  cases hc : s.carts.chutes[j]? with
  | none =>
    have hc' : s.chute? j = none := hc
    unfold recordDrop
    rw [hc']
    exact .refl _
  | some c =>
    rw [recordDrop_eq hc]
    split
    · exact enterDrop_plain _ _ _ _ _ _
    · exact (enterDrop_plain _ _ _ _ _ _).trans (openConfirmation_plain _ _ _ _)

theorem recordDrop_ordered (j k seq tag cabin : Nat) (s : State) : Ordered b s (recordDrop j k seq tag cabin s) := by
  cases hc : s.carts.chutes[j]? with
  | none =>
    have hc' : s.chute? j = none := hc
    unfold recordDrop
    rw [hc']
    exact .refl _ _
  | some c =>
    rw [recordDrop_eq hc]
    split
    · exact enterDrop_ordered _ _ _ _ _ _
    · exact (enterDrop_ordered _ _ _ _ _ _).trans (openConfirmation_ordered _ _ _ _)

section
variable (hc : s.carts.chutes[j]? = some d) (ho : o ∈ d.queue) (hcfg : d.cfg = c.cfg) (hroom : s.timingRoom = true)
  (hx : s.trays[o.tray]? = some x)
include hc ho hcfg hroom hx

theorem fireWithoutEye_lawful (h0 : c.cfg.confirm = 0) : Lawful b s (fireWithoutEye j c o x s) := by
  have hj : j < s.carts.chutes.length := (List.getElem?_eq_some_iff.1 hc).1
  have hsent : (sendDrop j c o x s).carts.chutes[j]? = some (d.fire o.tray) := by
    rw [sendDrop_chutes hc]
    exact List.getElem?_set_self hj
  obtain ⟨e, he, hecart, hequeue, heawait, -⟩ := enterDrop_chute (k := o.tray) (seq := o.seq) (tag := x.tag) (cabin := x.cabin) hsent
  have hrec : recordDrop j o.tray o.seq x.tag x.cabin (sendDrop j c o x s) =
      enterDrop j o.tray o.seq x.tag x.cabin (sendDrop j c o x s) := by
    rw [recordDrop_eq hsent]
    exact if_pos ((congrArg ChuteCfg.confirm hcfg).trans h0)
  obtain ⟨hstill, hcarts⟩ := (handStray_straysOnly (o.stray x j)
    (recordDrop j o.tray o.seq x.tag x.cabin (sendDrop j c o x s))).still
  rw [hrec] at hstill hcarts
  obtain ⟨htrays, hlines, hmode⟩ := ((sendDrop_still j c o x s).trans (enterDrop_still _ _ _ _ _ _)).trans hstill
  rw [sendDrop_chutes hc, List.set_set, ← hcarts] at he
  unfold fireWithoutEye
  rw [hrec]
  obtain ⟨htags, horders, hlines'⟩ := orderLeaves_ordered (b := b) (g := fun _ => Tray.blank .empty) hc ho htrays hlines hmode he
    hequeue (fun _ => ⟨by simp [Tray.blank, TrayState.lined], by simp [Tray.blank], .inr rfl⟩)
  refine Plain.lawful ?_ ⟨htags, horders, fun hT hO hconf hcartLaw => ?_, hlines'⟩
  · refine Plain.trans ?_ (changeTray_plain _ _ _ _)
    refine Plain.trans ?_ (handStray_lawful (b := True) _ _).toPlain
    exact (sendDrop_plain hroom j c o x).trans (enterDrop_plain _ _ _ _ _ _)
  · obtain ⟨x', hx', hxs, -⟩ := (hO.1 j d hc).2 o ho
    obtain rfl : x = x' := Option.some.inj (hx.symm.trans hx')
    rw [changeTray_made (htrays ▸ hx) hxs]
    refine settleTray_carts (drop_carts_eyeless (e := (d.fire o.tray).newEntry o.tray o.seq x.tag x.cabin) hT hconf hcartLaw hx hxs hc ?_ he hecart rfl
      heawait hmode)
    rw [← htrays]
    rfl

theorem fireWithEye_lawful (h0 : c.cfg.confirm ≠ 0) (hm : s.mode ∈ [.sorting, .draining]) :
    Lawful b s (fireWithEye j c o x s) := by
  have hj : j < s.carts.chutes.length := (List.getElem?_eq_some_iff.1 hc).1
  have hleave : Ordered b s (changeTray o.tray .routed (Tray.drop c.serial) (sendDrop j c o x s)) :=
    orderLeaves_ordered hc ho rfl rfl rfl (sendDrop_chutes hc c o x) rfl
      (fun _ => ⟨by simp [Tray.drop, TrayState.lined], by simp [Tray.drop], .inl rfl⟩)
  have hhand := handStray_lawful (b := b) (o.stray x j)
    (recordDrop j o.tray o.seq x.tag x.cabin (changeTray o.tray .routed (Tray.drop c.serial) (sendDrop j c o x s)))
  obtain ⟨htags, horders, hlines⟩ := (hleave.trans (recordDrop_ordered _ _ _ _ _ _)).trans hhand.toTracked.ordered
  refine Plain.lawful ?_ ⟨htags, horders, fun hT hO hconf hcartLaw => ?_, hlines⟩
  · refine Plain.trans ?_ hhand.toPlain
    refine Plain.trans ?_ (recordDrop_plain _ _ _ _ _ _)
    exact (sendDrop_plain hroom j c o x).trans (changeTray_plain _ _ _ _)
  · obtain ⟨x', hx', hxs, hxj, hxo⟩ := (hO.1 j d hc).2 o ho
    obtain rfl : x = x' := Option.some.inj (hx.symm.trans hx')
    obtain ⟨hstill, hcarts⟩ := (handStray_straysOnly (o.stray x j)
      (recordDrop j o.tray o.seq x.tag x.cabin (changeTray o.tray .routed (Tray.drop c.serial) (sendDrop j c o x s)))).still
    refine cartLaws_of_still hstill hcarts ?_
    rw [changeTray_made (s := sendDrop j c o x s) hx hxs, settleTray_aboard _ (by simp [Tray.drop]) (by simp [Tray.drop])]
    have hsent : (putTray o.tray (x.drop c.serial) (sendDrop j c o x s)).carts.chutes[j]? = some (d.fire o.tray) := by
      change (sendDrop j c o x s).carts.chutes[j]? = _
      rw [sendDrop_chutes hc]
      exact List.getElem?_set_self hj
    obtain ⟨e, he, hecart, hequeue, heawait, -⟩ :=
      enterDrop_chute (k := o.tray) (seq := o.seq) (tag := x.tag) (cabin := x.cabin) hsent
    obtain ⟨htrays, -, hmode⟩ := enterDrop_still j o.tray o.seq x.tag x.cabin (putTray o.tray (x.drop c.serial) (sendDrop j c o x s))
    have hconfirm : (d.fire o.tray).cfg.confirm ≠ 0 := fun h => h0 ((congrArg ChuteCfg.confirm hcfg).symm.trans h)
    rw [recordDrop_eq hsent, if_neg hconfirm]
    refine openConfirmation_carts (y := x.drop c.serial) (f := (d.fire o.tray).newEntry o.tray o.seq x.tag x.cabin) hT hO hconf
      hcartLaw hx hxs hxj hxo hc htrays rfl rfl rfl rfl ?_ hecart ⟨rfl, rfl, rfl, if_neg hconfirm⟩ heawait hmode hm
    rw [he]
    change (sendDrop j c o x s).carts.chutes.set j e = _
    rw [sendDrop_chutes hc, List.set_set]

end

end

end Sys2Proof.Machine
end

section
/-! # Evaluations of the chute monitors, cancellations, withdrawals and new orders (sections 6.2 to 6.4) -/

namespace Sys2Proof.Machine

open Sys2Proof

section
variable {b : Prop} {s t u : State} {k j : Nat} {x y : Tray} {c d : Chute} {o : Order}

/-! ## Evaluations (R103, R104) -/

theorem modifyChute_mon_calm {f : Chute → Chute} (j : Nat) (s : State)
    (h : ∀ c : Chute, ∃ m n, f c = { c with mon := m, clamped := n }) : Calm b s (modifyChute j f s) := by
  refine modifyChute_calm j s fun c _ => ?_
  obtain ⟨m, n, he⟩ := h c
  rw [he]
  exact ⟨rfl, rfl, rfl, rfl, .inl⟩

theorem armHead_calm (j : Nat) (s : State) : Calm b s (armHead j s) := by
  unfold armHead
  split
  · refine modifyChute_mon_calm j s fun c => ?_
    split
    · exact ⟨c.mon, c.clamped, rfl⟩
    · exact ⟨_, _, rfl⟩
  · exact .refl b s

/-- A fire of an order by the mode, of a chute whose record stands as it was read but for its monitor. -/
theorem fireOrder_lawful (hc : s.carts.chutes[j]? = some d) (ho : o ∈ d.queue) (hcfg : d.cfg = c.cfg) :
    Lawful b s (fireOrder j c o s) := by
  have hdrop : s.mode ∈ [.sorting, .draining] →
      Lawful b s (if s.timingRoom then dropFire j c o s else fireRefused j o.tray s) := by
    refine fun hm => .ite (fun hroom => ?_) (fun _ => fireRefused_lawful hc ho)
    unfold dropFire
    split
    · rename_i x hx
      exact .ite (fun h0 => fireWithoutEye_lawful hc ho hcfg hroom hx h0)
        (fun h0 => fireWithEye_lawful hc ho hcfg hroom hx h0 hm)
    · exact .refl b s
  unfold fireOrder
  split
  · exact shadowFire_lawful hc ho
  · rename_i hm
    exact hdrop (by simp [hm])
  · rename_i hm
    exact hdrop (by simp [hm])
  all_goals exact missOrder_lawful hc ho

theorem lawful_headParts (b : Prop) : HeadParts (Lawful b) where
  refl := Lawful.refl b
  trans := Lawful.trans
  disarm j s := (modifyChute_mon_calm j s fun c => ⟨none, c.clamped, rfl⟩).lawful
  arm j s := (armHead_calm j s).lawful
  miss hc ho := missOrder_lawful hc (Chute.watched_mem ho)
  fire {j s c o} hc ho := by
    refine Lawful.trans (modifyChute_mon_calm j s fun c => ⟨none, c.clamped, rfl⟩).lawful ?_
    have ho' : o ∈ c.queue := Chute.watched_mem ho
    refine fireOrder_lawful (d := { c with mon := none }) ?_ ho' rfl
    have hc' : s.carts.chutes[j]? = some c := hc
    have hj : j < s.carts.chutes.length := (List.getElem?_eq_some_iff.1 hc').1
    change (s.carts.chutes.modify j _)[j]? = _
    rw [set_eq_modify_of_get hc']
    exact List.getElem?_set_self hj

theorem evalHead_lawful (adv j : Nat) (s : State) : Lawful b s (evalHead adv j s) := (lawful_headParts b).evalHead adv j s

theorem evalHeads_lawful (adv : Nat) (js : List Nat) (s : State) : Lawful b s (evalHeads adv js s) :=
  .foldl (fun s j => evalHead_lawful adv j s) js s

theorem resampleHead_lawful (j : Nat) (s : State) : Lawful b s (resampleHead j s) := by
  refine Lawful.trans (modifyChute_mon_calm j s fun c => ?_).lawful (evalHead_lawful _ _ _)
  split
  · exact ⟨_, _, rfl⟩
  · exact ⟨c.mon, c.clamped, rfl⟩

/-! ## Cancellations (R112 to R114) -/

theorem cancelTray_swap (k : Nat) (f : Chute → Chute) (s : State) :
    cancelTray k (modifyChute j f s) =
      withSched { s.sched with cancelled := satInc Config.tallyMax s.sched.cancelled }
        (changeTray k .routed Tray.unroute (modifyChute j f s)) := by
  rw [cancelTray_eq, changeTray_eq fun _ => by simp [Tray.unroute]]
  rfl

/-- One order cancelled with its tray (R112). -/
theorem cancelTray_lawful (hc : s.carts.chutes[j]? = some c) (ho : o ∈ c.queue) :
    Lawful b s (cancelTray o.tray (modifyChute j (Chute.cancel o.tray) s)) := by
  rw [cancelTray_swap]
  refine Lawful.trans ?_ (withSched_calm _ _).lawful
  refine orderLeaves_lawful (c := c) hc ho ⟨?_, ?_, ?_, CartStands.fullTest ⟨rfl, .inl⟩⟩
  · exact Chute.fullTest_queue _
  · exact Chute.fullTest_cart _
  · exact Chute.fullTest_awaiting _

theorem cancelOne_lawful (j k : Nat) (s : State) : Lawful b s (cancelOne j k s) := by
  unfold cancelOne
  split
  · exact .refl _ _
  · rename_i c hc
    refine .ite (fun h => ?_) (fun _ => .refl _ _)
    obtain ⟨o, ho, hk⟩ := List.any_eq_true.1 h
    obtain rfl := Order.isOf_iff.1 hk
    have hcancel : Lawful b s (cancelTray o.tray (modifyChute j (Chute.cancel o.tray) s)) := cancelTray_lawful hc ho
    exact .ite (fun _ => (hcancel.trans (armHead_calm _ _).lawful).trans (evalHead_lawful _ _ _)) (fun _ => hcancel)

/-- A tray stands, or it was ROUTED and recirculates. -/
def Recirculates (x x' : Tray) : Prop := x' = x ∨ (x.state = .routed ∧ x' = x.unroute)

theorem Recirculates.trans {x y z : Tray} (h : Recirculates x y) (h' : Recirculates y z) : Recirculates x z := by
  rcases h with rfl | ⟨hx, rfl⟩
  · exact h'
  · rcases h' with rfl | ⟨hy, -⟩
    · exact .inr ⟨hx, rfl⟩
    · simp [Tray.unroute] at hy

theorem Tray.recirculated_recirculates (x : Tray) : Recirculates x x.recirculated := by
  unfold Tray.recirculated Tray.changed
  split
  · exact .inr ⟨‹_›, rfl⟩
  · exact .inl rfl

theorem traysAfter_recirculates : ∀ (ks : List Nat) (l : List Tray),
    List.Forall₂ Recirculates l (traysAfter Tray.recirculated ks l)
  | [], l => forall₂_self (fun _ => .inl rfl) l
  | k :: ks, l => by
    refine forall₂_trans (fun _ _ _ => Recirculates.trans) ?_ (traysAfter_recirculates ks _)
    exact forall₂_modify_at (fun _ => .inl rfl) l k fun x _ => x.recirculated_recirculates

theorem Recirculates.but {st : TrayState → Prop} (h : Recirculates x y) (hr : ¬ st .routed) (hc : ¬ st .recirculate) :
    TrayBut st x y := by
  rcases h with rfl | ⟨hx, rfl⟩
  · exact .refl _ _
  · exact .inr ⟨hx ▸ hr, hc⟩

/-- The whole queue of one chute leaves, its trays recirculating. -/
theorem State.OrderLaw.cancelled (h : s.OrderLaw) (hc : s.carts.chutes[j]? = some c)
    (ht : t.trays = traysAfter Tray.recirculated (c.queue.map Order.tray) s.trays)
    (hd : t.carts.chutes = s.carts.chutes.set j d) (hq : d.queue = []) (hm : t.mode = s.mode) : t.OrderLaw := by
  obtain ⟨ha, hmode⟩ := (orderLaw_iff s).1 h
  have get := getElem?_set_of_get hc d
  rw [← hd] at get
  have getTray := traysAfter_getElem? Tray.recirculated_idem (c.queue.map Order.tray) s.trays
  rw [← ht] at getTray
  refine (orderLaw_iff t).2 ⟨⟨fun i c' hc' => ?_, fun i c' hc' o ho => ?_, fun k x' hx' hxs => ?_⟩, fun hmt c' hc' => ?_⟩
  · rw [get] at hc'
    split at hc'
    · cases hc'
      simp [hq]
    · exact ha.nodup i c' hc'
  · rw [get] at hc'
    split at hc'
    · cases hc'
      rw [hq] at ho
      cases ho
    · rename_i hji
      obtain ⟨x, hx, hrest⟩ := ha.named i c' hc' o ho
      refine ⟨x, ?_, hrest⟩
      rw [getTray, hx, Option.map_some, if_neg]
      intro hm
      obtain ⟨p, hp, hpo⟩ := List.mem_map.1 hm
      exact hji (ha.elsewhere hc hp hc' ho hpo.symm).symm
  · rw [getTray, Option.map_eq_some_iff] at hx'
    obtain ⟨x, hx, he⟩ := hx'
    split at he
    · rcases x.recirculated_recirculates with hr | ⟨-, hr⟩
      · rw [hr] at he
        subst he
        simp [Tray.recirculated, Tray.changed, hxs, Tray.unroute] at hr
        rw [← hr] at hxs
        cases hxs
      · rw [← he, hr] at hxs
        cases hxs
    · rename_i hk
      subst he
      obtain ⟨i, c', hti, hc', o, ho, hok⟩ := ha.listed k x hx hxs
      refine ⟨i, c', hti, ?_, o, ho, hok⟩
      rw [get, if_neg, hc']
      rintro rfl
      rw [hc] at hc'
      cases hc'
      exact hk (hok ▸ List.mem_map_of_mem ho)
  · rw [hd] at hc'
    rcases List.mem_or_eq_of_mem_set hc' with hc' | rfl
    · exact hmode (hm ▸ hmt) c' hc'
    · exact hq

theorem cancelQueue_lawful (j : Nat) (s : State) : Lawful b s (cancelQueue j s) := by
  cases hc : s.carts.chutes[j]? with
  | none =>
    have hc' : s.chute? j = none := hc
    unfold cancelQueue
    rw [hc']
    exact .refl _ _
  | some c =>
    rw [cancelQueue_eq hc]
    have hd : ChuteShrinks (fun _ => False) { c with queue := [] } c.unordered := by
      refine ⟨?_, ?_, ?_⟩
      · exact Chute.fullTest_queue _
      · exact Chute.fullTest_awaiting _
      · rw [Chute.unordered, Chute.fullTest_cart]
        exact .refl _ _
    obtain ⟨hq, hawait, hcart⟩ := hd
    have htrays := traysAfter_recirculates (c.queue.map Order.tray) s.trays
    refine Plain.lawful (.write (forall₂_set CartStands.refl hc (CartStands.fullTest ⟨rfl, .inl⟩))) ⟨fun h => ?tags,
      fun h => h.cancelled hc rfl rfl hq rfl, fun _ _ hconf hcarts => ⟨?conf, ?carts⟩, fun h => ?lines⟩
    case tags =>
      refine h.keep (htrays.imp fun x x' hx => ?_)
      rcases hx with rfl | ⟨-, rfl⟩
      · exact .inl rfl
      · exact .inl rfl
    case conf =>
      exact hconf.keep (htrays.imp fun x x' hx => hx.but (by decide) (by decide))
        (forall₂_set (R := fun c c' : Chute => c'.awaiting = c.awaiting) (fun _ => rfl) hc hawait) rfl
    case carts =>
      refine (cartTagLaw_iff _).2 (((cartTagLaw_iff s).1 hcarts).shrink (gone := fun _ => False)
        (forall₂_set (fun _ => .refl _ _) hc hcart) fun k x' hx' => ?_)
      obtain ⟨x, hx, rfl | ⟨hs, rfl⟩⟩ := forall₂_get_right htrays hx'
      · exact ⟨x', hx, .inr ⟨rfl, fun h => ⟨h, rfl, rfl⟩, fun _ => False.elim⟩⟩
      · exact ⟨x, hx, .inr ⟨rfl, fun h => absurd h (by simp [hs, TrayState.dropped]), fun _ => False.elim⟩⟩
    case lines =>
      exact h.keep (htrays.imp fun x x' hx => hx.but (by simp [TrayState.lined]) (by simp [TrayState.lined]))
        (forall₂_self (LineStands.refl b) _)

theorem cancelAll_lawful (s : State) : Lawful b s (cancelAll s) := .foldl (fun s j => cancelQueue_lawful j s) _ s

/-! ## Changes of the manifest against the fire (R116 to R118) -/

theorem answerLate_lawful (kind : ChangeKind) (k tag j serial seq : Nat) (s : State) :
    Lawful b s (answerLate kind k tag j serial seq s) := by
  refine Lawful.trans ?_ (markAmended_lawful _ _ _ _ _)
  exact (notify_calm _ s).lawful.trans (withSched_calm _ _).lawful

theorem changeInCarts_lawful (kind : ChangeKind) (tag : Nat) (s : State) : Lawful b s (changeInCarts kind tag s) := by
  unfold changeInCarts
  split
  · exact answerLate_lawful _ _ _ _ _ _ _
  · exact .refl _ _

theorem manifestChange_lawful (kind : ChangeKind) (tag : Nat) (s : State) : Lawful b s (manifestChange kind tag s) := by
  unfold manifestChange
  split
  · exact changeInCarts_lawful _ _ _
  · split
    · exact cancelOne_lawful _ _ _
    · exact answerLate_lawful _ _ _ _ _ _ _
    · exact answerLate_lawful _ _ _ _ _ _ _
    all_goals exact changeInCarts_lawful _ _ _

/-! ## New orders (R101) -/

/-- A tray that holds no order and no drop becomes ROUTED with its order, its tag standing nowhere else. -/
theorem placeOrder_tracked (hx : s.trays[k]? = some x) (hxs : x.state.loose) {tag : Nat} {kind : RouteKind}
    {reason : Option StrayReason} (hc : s.carts.chutes[j]? = some c)
    (hy : y.state = .routed ∧ y.target = some j ∧ y.seq = some s.sched.nextSeq)
    (htag : s.tagDoubled k none y.tag = false) (hm : ¬ s.mode.orderless) :
    Tracked b s (putTray k y (placeOrder j k kind reason tag s)) := by
  obtain ⟨hlined, hrouted, hdropping⟩ := hxs
  obtain ⟨hys, hyj, hyo⟩ := hy
  obtain ⟨before, after, hsplit, -, -, hins⟩ := insertOrder_split (s.nearer c.cfg.loc k)
    { tray := k, seq := s.sched.nextSeq, kind := kind, reason := reason, tag := tag } c.queue
  have hplace := placeOrder_eq (k := k) (kind := kind) (reason := reason) (tag := tag) hc hins.symm
  have hd : (putTray k y (placeOrder j k kind reason tag s)).carts.chutes = s.carts.chutes.set j
      ({ c with queue := before ++ [{ tray := k, seq := s.sched.nextSeq, kind := kind, reason := reason, tag := tag }] ++ after } :
        Chute).fullTest := by
    rw [hplace]
    rfl
  have htrays : (putTray k y (placeOrder j k kind reason tag s)).trays = s.trays.set k y := rfl
  refine ⟨fun h => ?tags, fun h => ?orders, fun _ _ hconf hcarts => ⟨?conf, ?carts⟩, fun h => ?lines⟩
  case tags => exact h.fresh htrays fun h0 => (tagDoubled_false htag h0).1
  case orders =>
    refine h.place (o := { tray := k, seq := s.sched.nextSeq, kind := kind, reason := reason, tag := tag }) hx hrouted htrays hys
      hyj hyo hc hsplit hd ?_ hm
    rw [Chute.fullTest_queue]
    simp
  case conf =>
    refine hconf.keep (htrays ▸ forall₂_set (.refl _) hx (.inr ⟨hdropping, by simp [hys]⟩)) ?_ rfl
    rw [hd]
    exact forall₂_set (R := fun c c' : Chute => c'.awaiting = c.awaiting) (fun _ => rfl) hc (Chute.fullTest_awaiting _)
  case carts =>
    refine (cartTagLaw_iff _).2 (((cartTagLaw_iff s).1 hcarts).shrink (gone := fun _ => False) ?_ fun i z hz => ?_)
    · rw [hd]
      refine forall₂_set (fun _ => .refl _ _) hc ?_
      rw [Chute.fullTest_cart]
      exact .refl _ _
    · rw [htrays, getElem?_set_of_get hx] at hz
      split at hz
      · rename_i hki
        cases hz
        subst hki
        refine ⟨x, hx, .inl fun c' hc' e he h0 heq => ?_⟩
        cases ((tagDoubled_false htag (heq ▸ h0)).2 c' hc' e he heq).2
      · exact ⟨z, hz, .inr ⟨rfl, fun h => ⟨h, rfl, rfl⟩, fun _ => False.elim⟩⟩
  case lines => exact h.of_tray hx htrays rfl hlined (by simp [hys, TrayState.lined])

theorem placeOrder_plain (j k : Nat) (kind : RouteKind) (reason : Option StrayReason) (tag : Nat) (s : State) :
    Plain s (placeOrder j k kind reason tag s) :=
  (withSched_calm (b := True) _ s).lawful.toPlain.trans (modifyChute_plain j _ fun _ _ => CartStands.fullTest ⟨rfl, .inl⟩)

/-- An order queued with the change of its tray to ROUTED. -/
theorem queueOrder_lawful {write : Nat → Tray} (hx : s.trays[k]? = some x) (hxs : x.state.loose) (kind : RouteKind)
    (reason : Option StrayReason) (tag : Nat)
    (hy : ∀ n, (write n).state = .routed ∧ (write n).target = some j ∧ (write n).seq = some n ∧
      s.tagDoubled k none (write n).tag = false) (hm : ¬ s.mode.orderless) :
    Lawful b s (queueOrder j k kind reason tag (fun n s => putTray k (write n) s) s) := by
  unfold queueOrder
  split
  · exact .refl _ _
  · rename_i c hc
    obtain ⟨hys, hyj, hyo, htag⟩ := hy s.sched.nextSeq
    have hplace : Lawful b s (putTray k (write s.sched.nextSeq) (placeOrder j k kind reason tag s)) :=
      Plain.lawful ((placeOrder_plain _ _ _ _ _ _).trans (putTray_plain _ _ _))
        (placeOrder_tracked hx hxs hc ⟨hys, hyj, hyo⟩ htag hm)
    exact .ite (fun _ => (hplace.trans (armHead_calm _ _).lawful).trans (evalHead_lawful _ _ _)) (fun _ => hplace)

end

end Sys2Proof.Machine
end

section
/-! # Chute frames and commands keep the laws (sections 7.5 to 7.8) -/

namespace Sys2Proof.Machine

open Sys2Proof

section
variable {b : Prop} {s t u : State} {k j : Nat} {c d : Chute}

/-! ## The STOP latch -/

theorem noticeLevel_calm (x : Bool) (s : State) : Calm b s (noticeLevel x s) := by
  unfold noticeLevel
  split
  · exact notify_calm _ _
  · exact .refl b s

theorem setLatch_lawful (c : StopCause) (s : State) : Lawful b s (setLatch c s) :=
  .ite (fun _ => .refl _ _)
    (fun _ => ((withLatch_calm _ _).lawful.trans (notify_calm _ _).lawful).trans (noticeLevel_calm _ _).lawful)

theorem releaseLatch_lawful (s : State) : Lawful b s (releaseLatch s) :=
  (withLatch_calm _ _).lawful.trans (noticeLevel_calm _ _).lawful

/-! ## Carts that close (R133, R135, R140, R143) -/

@[simp] theorem Chute.fullTest_hasCart (c : Chute) : c.fullTest.hasCart = c.hasCart := by
  unfold Chute.fullTest
  split
  · rename_i hu
    have : c.hasCart = true := by simp [Chute.hasCart, hu]
    rw [this]
    simp only [Chute.hasCart, Chute.inUse]
    split <;> rfl
  · rfl

@[simp] theorem Chute.fullTest_report (c : Chute) : c.fullTest.report = c.report := c.fullTest_stands.1

theorem Chute.unordered_report (c : Chute) : c.unordered.report = c.report := Chute.fullTest_report _

theorem Chute.unordered_hasCart (c : Chute) : c.unordered.hasCart = c.hasCart := Chute.fullTest_hasCart _

/-- A chute that eases without taking a cart: its cart, its orders and its report stand. -/
theorem ChuteEases.of_state (hcart : d.cart = c.cart) (hq : d.queue = c.queue) (ha : d.awaiting = c.awaiting)
    (hr : d.report = c.report) (hh : d.hasCart = true → c.hasCart = true) : ChuteEases c d :=
  ⟨⟨hr, fun h => .inl (hh h)⟩, hq, ha, hcart ▸ .refl _ _⟩

/-- A cart is closed at a chute that holds no pending report, which then has no current cart. -/
theorem Lawful.closeWith {f : Chute → Chute} (h : Lawful b s u) (hc : u.carts.chutes[j]? = some c)
    (hn : s.ReportLaw → c.report = .none) (he : ∀ c, ChuteEases c (f c))
    (hf : ∀ r, (f { c with cart := [], report := r }).report = r ∧ (f { c with cart := [], report := r }).hasCart = false) :
    Lawful b s (modifyChute j f (closeCart j u)) :=
  (h.closes.trans ((closeCart_closes j u).trans (modifyChute_lawful j _ fun c _ => he c).closes)).lawful
    fun hs => closeCart_reportLaw (h.reports hs) hc (hn hs) hf

/-- A cart is closed at a chute that holds no pending report and has no current cart any more. -/
theorem Lawful.close (h : Lawful b s u) (hc : u.carts.chutes[j]? = some c) (hn : s.ReportLaw → c.report = .none)
    (hh : c.hasCart = false) : Lawful b s (closeCart j u) := by
  have := h.closeWith (f := id) hc hn ChuteEases.refl fun r => ⟨rfl, hh⟩
  rwa [modifyChute, List.modify_id] at this

theorem Lawful.closeOrDiscard (h : Lawful b s u) (hc : u.carts.chutes[j]? = some c) (hn : s.ReportLaw → c.report = .none)
    (hh : c.hasCart = false) : Lawful b s (closeOrDiscard j d u) :=
  .ite (fun _ => h) (fun _ => h.close hc hn hh)

/-- A chute with a current cart holds no pending report (R133). -/
theorem State.ReportLaw.none_of_hasCart (h : s.ReportLaw) (hc : s.carts.chutes[j]? = some c) (hh : c.hasCart = true) :
    c.report = .none := by
  obtain ⟨-, -, -, -, hst⟩ := h
  exact (hst j c hc).2.2 hh

theorem Chute.hasCart_of_inUse (h : c.state = .opened ∨ c.state = .full) : c.hasCart = true := by
  rcases h with h | h <;> simp [Chute.hasCart, Chute.inUse, h]

theorem Chute.hasCart_of_prior (hs : c.state = .faulted) (h : c.prior = some .opened ∨ c.prior = some .full) :
    c.hasCart = true := by
  rcases h with h | h <;> simp [Chute.hasCart, Chute.priorInUse, hs, h]

/-- The chute after a change of its own and the cancellation of its queue. -/
theorem cancelled_chute (hc : s.carts.chutes[j]? = some c) (f : Chute → Chute) :
    (cancelQueue j (modifyChute j f s)).carts.chutes[j]? = some (f c).unordered := by
  have h : (modifyChute j f s).carts.chutes[j]? = some (f c) := by simp [modifyChute, hc]
  rw [cancelQueue_eq h]
  exact List.getElem?_set_self (List.getElem?_eq_some_iff.1 h).1

theorem beginSwap_lawful (hc : s.carts.chutes[j]? = some c) (hh : c.hasCart = true) : Lawful b s (beginSwap j s) := by
  refine Lawful.close ((modifyChute_lawful j s fun c' _ => ?_).trans (cancelQueue_lawful j _)) (cancelled_chute hc _)
    (fun hs => ?_) ?_
  · exact .of_state rfl rfl rfl rfl nofun
  · rw [Chute.unordered_report]
    exact (hs.none_of_hasCart hc hh :)
  · rw [Chute.unordered_hasCart]
    rfl

theorem beginPriorSwap_lawful (hc : s.carts.chutes[j]? = some c) (hs : c.state = .faulted) (hh : c.hasCart = true) :
    Lawful b s (beginPriorSwap j s) := by
  have hc' : (modifyChute j (fun c => { c with prior := some .swap, present := false }) s).carts.chutes[j]? =
      some { c with prior := some .swap, present := false } := by simp [modifyChute, hc]
  refine Lawful.close (modifyChute_lawful j s fun d hd => ?_) hc' (fun h => (h.none_of_hasCart hc hh :)) ?_
  · obtain rfl : c = d := Option.some.inj (hc.symm.trans hd)
    exact .of_state rfl rfl rfl rfl fun _ => hh
  · simp [Chute.hasCart, Chute.inUse, Chute.priorInUse, hs]

theorem clearPresent_lawful (j : Nat) (s : State) : Lawful b s (clearPresent j s) :=
  modifyChute_lawful j s fun _ _ => .of_state rfl rfl rfl rfl id

theorem setPresent_lawful (j : Nat) (s : State) : Lawful b s (setPresent j s) :=
  modifyChute_lawful j s fun _ _ => .of_state rfl rfl rfl rfl id

theorem cartOut_lawful (hc : s.carts.chutes[j]? = some c) : Lawful b s (cartOut j c s) := by
  unfold cartOut
  split
  · exact beginSwap_lawful hc (Chute.hasCart_of_inUse (.inl ‹_›))
  · exact beginSwap_lawful hc (Chute.hasCart_of_inUse (.inr ‹_›))
  · exact clearPresent_lawful _ _
  · exact .refl _ _
  · rename_i hs
    split
    · exact beginPriorSwap_lawful hc hs (Chute.hasCart_of_prior hs (.inl ‹_›))
    · exact beginPriorSwap_lawful hc hs (Chute.hasCart_of_prior hs (.inr ‹_›))
    · exact clearPresent_lawful _ _
    all_goals exact .refl _ _

theorem cartIn_lawful (j : Nat) (c : Chute) (s : State) : Lawful b s (cartIn j c s) := by
  unfold cartIn
  split
  · exact (setPresent_lawful _ _).trans (swapTest_lawful _ _)
  · exact .ite (fun _ => setPresent_lawful _ _) (fun _ => .refl _ _)
  all_goals exact .refl _ _

/-! ## Faults (R137, R138) -/

theorem stopOnFault_lawful (j : Nat) (c : Chute) (s : State) : Lawful b s (stopOnFault j c s) :=
  .ite (fun _ => setLatch_lawful _ _) (fun _ => .refl _ _)

/-- A chute that becomes FAULTED keeps its current cart by its prior state (R120, R137). -/
theorem faultChute_lawful (hc : s.carts.chutes[j]? = some c) : Lawful b s (faultChute j c s) := by
  refine .ite (fun _ => stopOnFault_lawful _ _ _) (fun hs => ?_)
  refine ((modifyChute_lawful j s fun d hd => ?_).trans (cancelQueue_lawful j _)).trans (stopOnFault_lawful _ _ _)
  obtain rfl : c = d := Option.some.inj (hc.symm.trans hd)
  refine .of_state rfl rfl rfl rfl fun h => ?_
  cases hst : c.state <;> simp [Chute.hasCart, Chute.inUse, Chute.priorInUse, hst] at h hs ⊢

/-- The state that a FAULTED chute takes back. -/
theorem Chute.restored_hasCart (hs : c.state = .faulted)
    (h : ({ c with state := c.prior.getD .closed, prior := none } : Chute).hasCart = true) : c.hasCart = true := by
  cases hp : c.prior with
  | none => simp [Chute.hasCart, Chute.inUse, Chute.priorInUse, hp] at h
  | some p => cases p <;> simp [Chute.hasCart, Chute.inUse, Chute.priorInUse, hp, hs] at h ⊢

theorem clearFault_lawful (hc : s.carts.chutes[j]? = some c) : Lawful b s (clearFault j c s) := by
  refine .ite (fun hs => ?_) (fun _ => .refl _ _)
  refine (modifyChute_lawful j s fun d hd => ?_).trans (swapTest_lawful _ _)
  obtain rfl : c = d := Option.some.inj (hc.symm.trans hd)
  refine .of_state (Chute.fullTest_cart _) (Chute.fullTest_queue _) (Chute.fullTest_awaiting _) (Chute.fullTest_report _) ?_
  rw [Chute.restore, Chute.fullTest_hasCart]
  exact Chute.restored_hasCart hs

/-! ## CLOSE and session close (R140, R143) -/

theorem closeInUse_lawful (hc : s.carts.chutes[j]? = some c) (hh : c.hasCart = true) : Lawful b s (closeInUse j c s) := by
  refine Lawful.closeOrDiscard ((modifyChute_lawful j s fun c' _ => ?_).trans (cancelQueue_lawful j _)) (cancelled_chute hc _)
    (fun hs => ?_) ?_
  · exact .of_state rfl rfl rfl rfl nofun
  · rw [Chute.unordered_report]
    exact (hs.none_of_hasCart hc hh :)
  · rw [Chute.unordered_hasCart]
    rfl

theorem closePrior_lawful (hc : s.carts.chutes[j]? = some c) (hs : c.state = .faulted) (hh : c.hasCart = true) :
    Lawful b s (closeOrDiscard j c (modifyChute j (fun c => { c with prior := some .closed }) s)) := by
  have hc' : (modifyChute j (fun c => { c with prior := some .closed }) s).carts.chutes[j]? =
      some { c with prior := some .closed } := by simp [modifyChute, hc]
  refine Lawful.closeOrDiscard (modifyChute_lawful j s fun d hd => ?_) hc' (fun h => (h.none_of_hasCart hc hh :)) ?_
  · obtain rfl : c = d := Option.some.inj (hc.symm.trans hd)
    exact .of_state rfl rfl rfl rfl fun _ => hh
  · simp [Chute.hasCart, Chute.inUse, Chute.priorInUse, hs]

theorem closeChute_lawful (hc : s.carts.chutes[j]? = some c) : Lawful b s (closeChute j c s) := by
  unfold closeChute
  split
  · exact closeInUse_lawful hc (Chute.hasCart_of_inUse (.inl ‹_›))
  · exact closeInUse_lawful hc (Chute.hasCart_of_inUse (.inr ‹_›))
  · exact modifyChute_lawful j s fun d _ => .of_state rfl rfl rfl rfl nofun
  · exact .refl _ _
  · rename_i hs
    split
    · exact closePrior_lawful hc hs (Chute.hasCart_of_prior hs (.inl ‹_›))
    · exact closePrior_lawful hc hs (Chute.hasCart_of_prior hs (.inr ‹_›))
    · refine modifyChute_lawful j s fun d hd => ?_
      obtain rfl : c = d := Option.some.inj (hc.symm.trans hd)
      exact .of_state rfl rfl rfl rfl fun h => by simp [Chute.hasCart, Chute.inUse, Chute.priorInUse, hs] at h
    all_goals exact .refl _ _

/-- A FAULTED chute at session close: the cart that its prior state holds is closed, and the chute is CLOSED (R143). -/
theorem closeFaulted_lawful (hc : s.carts.chutes[j]? = some c) (hs : c.state = .faulted) : Lawful b s (closeFaulted j c s) := by
  have ease : ∀ c : Chute, ChuteEases c { c with state := .closed, prior := none } := fun c => .of_state rfl rfl rfl rfl nofun
  have plain : Lawful b s (modifyChute j (fun c => { c with state := .closed, prior := none }) s) :=
    modifyChute_lawful j s fun c _ => ease c
  unfold closeFaulted
  split
  · rename_i hp
    have hh : c.hasCart = true := by simp [Chute.hasCart, hs, hp]
    unfold Machine.closeOrDiscard
    split
    · exact plain
    · exact (Lawful.refl b s).closeWith hc (fun h => (h.none_of_hasCart hc hh :)) ease fun r => ⟨rfl, rfl⟩
  · exact plain

theorem closeAtEnd_lawful (j : Nat) (s : State) : Lawful b s (closeAtEnd j s) := by
  unfold closeAtEnd
  split
  · exact .refl _ _
  · rename_i c hc
    exact .ite (fun hs => closeFaulted_lawful hc hs) (fun _ => closeChute_lawful hc)

theorem closeAllChutes_lawful (s : State) : Lawful b s (closeAllChutes s) := .foldl (fun s j => closeAtEnd_lawful j s) _ s

/-! ## Frames and commands (R127, R139 to R142) -/

/-- A chute frame names a configured chute or is dropped (R127). -/
theorem chuteFrame_lawful {entry : Nat → Chute → State → State} (src : Nat) (x : Body Nat) (s : State)
    (h : ∀ j c, s.carts.chutes[j]? = some c → Lawful b s (entry j c s)) : Lawful b s (chuteFrame src x entry s) := by
  unfold chuteFrame
  split
  · rename_i j c hf
    refine h j c ?_
    unfold State.frameChute at hf
    split at hf
    · split at hf
      · rename_i c' hc'
        split at hf
        · cases hf
          exact hc'
        · cases hf
      · cases hf
    · cases hf
  · exact (rejectChute_calm s).lawful

theorem ceyeOp_lawful (src : Nat) (x : Body Nat) (s : State) : Lawful b s (ceyeOp src x s) :=
  chuteFrame_lawful src x s fun _ _ hc => eyeSaw_lawful hc

theorem coutOp_lawful (src : Nat) (x : Body Nat) (s : State) : Lawful b s (coutOp src x s) :=
  chuteFrame_lawful src x s fun _ _ hc => cartOut_lawful hc

theorem cinOp_lawful (src : Nat) (x : Body Nat) (s : State) : Lawful b s (cinOp src x s) :=
  chuteFrame_lawful src x s fun _ _ _ => cartIn_lawful _ _ _

theorem cfltOp_lawful (src : Nat) (x : Body Nat) (s : State) : Lawful b s (cfltOp src x s) :=
  chuteFrame_lawful src x s fun _ _ hc => faultChute_lawful hc

theorem cclrOp_lawful (src : Nat) (x : Body Nat) (s : State) : Lawful b s (cclrOp src x s) :=
  chuteFrame_lawful src x s fun _ _ hc => clearFault_lawful hc

/-- A chute command reaches a configured chute or is refused. -/
theorem commandChute_lawful {action : Nat → Chute → State → Served} (j : Nat) (s : State)
    (h : ∀ c, s.carts.chutes[j]? = some c → Lawful b s (action j c s).state) : Lawful b s (commandChute j action s).state := by
  unfold commandChute
  split
  · exact .refl _ _
  · split
    · exact .refl _ _
    · split
      · exact .refl _ _
      · exact h _ ‹_›

theorem openCommand_lawful (hc : s.carts.chutes[j]? = some c) : Lawful b s (openCommand j c s).state := by
  unfold openCommand
  split
  · split
    · refine openWithCart_lawful fun c' hc' => ?_
      obtain rfl : c = c' := Option.some.inj (hc.symm.trans hc')
      assumption
    · exact .refl _ _
  all_goals exact .refl _ _

theorem forceCommand_lawful (hc : s.carts.chutes[j]? = some c) : Lawful b s (forceCommand j c s).state := by
  unfold forceCommand
  split
  · exact cartOut_lawful hc
  · exact .refl _ _

theorem serveCcmdOpen_lawful (arg : ActionArg) (s : State) : Lawful b s (serveCcmdOpen arg s).state := by
  unfold serveCcmdOpen
  split
  · exact commandChute_lawful _ _ fun _ hc => openCommand_lawful hc
  all_goals split <;> exact .refl _ _

end

end Sys2Proof.Machine
end

section
/-! # The induction lines with their trays (chapter 2) -/

namespace Sys2Proof.Machine

open Sys2Proof

/-! ## A line and a tray that change together (R29) -/

/-- A line that names no tray. -/
def LineState.alone (st : LineState) : Prop := ∀ k a b, st ≠ .reserved k a b ∧ st ≠ .launched k a b

/-- Of a tray and a line, the tray goes with no other line, and the line with no other tray. -/
def Coupled (i k : Nat) (l : Line) (x : Tray) : Prop :=
  (x.state.lined → x.source = some i) ∧ ∀ k' a b, l.state = .reserved k' a b ∨ l.state = .launched k' a b → k' = k

/-- A line and a tray satisfy the law of the lines between them. -/
structure Paired (armed : Prop) (i k : Nat) (l : Line) (x : Tray) : Prop where
  reserved : ∀ k' a b, l.state = .reserved k' a b → k' = k ∧ x.state = .reserved ∧ x.source = some i
  launched : ∀ k' a b, l.state = .launched k' a b → k' = k ∧ x.state = .launching ∧ x.source = some i
  watched : ∀ m : Monitor, l.mon = some m → ∃ a b, l.state = .reserved m.tray a b
  armed : armed → ∀ k' a b, l.state = .reserved k' a b → l.mon ≠ none
  ofReserved : x.state = .reserved → x.source = some i ∧ ∃ a b, l.state = .reserved k a b
  ofLaunching : x.state = .launching → x.source = some i ∧ ∃ a b, l.state = .launched k a b

section
variable {b : Prop} {s t u : State} {i k t1 t2 : Nat} {l m : Line} {x y : Tray} {e : TrayState} {f : Line → Line} {g : Tray → Tray}

/-- A line that names no tray and a tray that goes with no line. -/
theorem Paired.apart (hl : l.state.alone) (hm : l.mon = none) (hx : ¬ x.state.lined) : Paired b i k l x where
  reserved k' a b h := absurd h (hl k' a b).1
  launched k' a b h := absurd h (hl k' a b).2
  watched m h := by simp [hm] at h
  armed _ k' a b h := absurd h (hl k' a b).1
  ofReserved h := absurd (.inl h) hx
  ofLaunching h := absurd (.inr h) hx

theorem Paired.of_reserved (hl : l.state = .reserved k t1 t2) (hm : ∃ m : Monitor, l.mon = some m ∧ m.tray = k)
    (hx : x.state = .reserved) (hi : x.source = some i) : Paired b i k l x where
  reserved k' a b h := by
    rw [hl, LineState.reserved.injEq] at h
    exact ⟨h.1.symm, hx, hi⟩
  launched k' a b h := by simp [hl] at h
  watched m h := by
    obtain ⟨m', hm', rfl⟩ := hm
    obtain rfl : m' = m := Option.some.inj (hm'.symm.trans h)
    exact ⟨t1, t2, hl⟩
  armed _ k' a b _ := by
    obtain ⟨m, hm, -⟩ := hm
    simp [hm]
  ofReserved _ := ⟨hi, t1, t2, hl⟩
  ofLaunching h := by simp [hx] at h

theorem Paired.of_launched (hl : l.state = .launched k t1 t2) (hm : l.mon = none) (hx : x.state = .launching)
    (hi : x.source = some i) : Paired b i k l x where
  reserved k' a b h := by simp [hl] at h
  launched k' a b h := by
    rw [hl, LineState.launched.injEq] at h
    exact ⟨h.1.symm, hx, hi⟩
  watched m h := by simp [hm] at h
  armed _ k' a b h := by simp [hl] at h
  ofReserved h := by simp [hx] at h
  ofLaunching _ := ⟨hi, t1, t2, hl⟩

/-- A RESERVED line is coupled with its tray. -/
theorem State.LineLawAt.coupled_reserved (h : s.LineLawAt b) (hl : s.lines[i]? = some l) (hs : l.state = .reserved k t1 t2)
    (hx : s.trays[k]? = some x) : x.state = .reserved ∧ x.source = some i ∧ Coupled i k l x := by
  obtain ⟨x', hx', hxs, hi⟩ := h.reserved i l k t1 t2 hl hs
  obtain rfl : x = x' := Option.some.inj (hx.symm.trans hx')
  refine ⟨hxs, hi, fun _ => hi, fun k' a b h => ?_⟩
  rcases h with h | h <;> simp [hs] at h
  exact h.1.symm

/-- A LAUNCHING tray is coupled with its line. -/
theorem State.LineLawAt.coupled_launching (h : s.LineLawAt b) (hx : s.trays[k]? = some x) (hxs : x.state = .launching) :
    ∃ (i : Nat) (l : Line) (t1 t2 : Nat), x.source = some i ∧ s.lines[i]? = some l ∧ l.state = .launched k t1 t2 ∧ Coupled i k l x := by
  obtain ⟨i, l, t1, t2, hi, hl, hs⟩ := h.ofLaunching k x hx hxs
  refine ⟨i, l, t1, t2, hi, hl, hs, fun _ => hi, fun k' a b h => ?_⟩
  rcases h with h | h <;> simp [hs] at h
  exact h.1.symm

/-- The law of the lines through a change of one line with its tray. -/
theorem State.LineLawAt.pair (h : s.LineLawAt b) (hx : s.trays[k]? = some x) (hl : s.lines[i]? = some l)
    (ht : t.trays = s.trays.set k y) (hm : t.lines = s.lines.set i m) (hc : Coupled i k l x) (hp : Paired b i k m y) :
    t.LineLawAt b := by
  have getTray := getElem?_set_of_get hx y
  have getLine := getElem?_set_of_get hl m
  rw [← ht] at getTray
  rw [← hm] at getLine
  obtain ⟨hcx, hcl⟩ := hc
  -- another line names another tray
  have other : ∀ (n : Nat) (l' : Line) (k' a c : Nat), n ≠ i → s.lines[n]? = some l' → l'.state = .reserved k' a c ∨ l'.state = .launched k' a c →
      k ≠ k' := by
    rintro n l' k' a c hn hl' hst rfl
    have hsrc : ∃ z : Tray, s.trays[k]? = some z ∧ z.state.lined ∧ z.source = some n := by
      rcases hst with hst | hst
      · obtain ⟨z, hz, hzs, hzn⟩ := h.reserved n l' k a c hl' hst
        exact ⟨z, hz, .inl hzs, hzn⟩
      · obtain ⟨z, hz, hzs, hzn⟩ := h.launched n l' k a c hl' hst
        exact ⟨z, hz, .inr hzs, hzn⟩
    obtain ⟨z, hz, hzs, hzn⟩ := hsrc
    obtain rfl : x = z := Option.some.inj (hx.symm.trans hz)
    rw [hcx hzs] at hzn
    exact hn (Option.some.inj hzn).symm
  refine ⟨fun n l' k' a c hl' hst => ?_, fun n l' k' a c hl' hst => ?_, fun n l' mon hl' hmon => ?_,
    fun hb n l' k' a c hl' hst => ?_, fun k' z hz hzs => ?_, fun k' z hz hzs => ?_⟩
  · rw [getLine] at hl'
    split at hl'
    · rename_i hin
      cases hl'
      obtain ⟨rfl, hys, hyi⟩ := hp.reserved k' a c hst
      exact ⟨y, by rw [getTray, if_pos rfl], hys, hin ▸ hyi⟩
    · rename_i hin
      rw [getTray, if_neg (other n l' k' a c (Ne.symm hin) hl' (.inl hst))]
      exact h.reserved n l' k' a c hl' hst
  · rw [getLine] at hl'
    split at hl'
    · rename_i hin
      cases hl'
      obtain ⟨rfl, hys, hyi⟩ := hp.launched k' a c hst
      exact ⟨y, by rw [getTray, if_pos rfl], hys, hin ▸ hyi⟩
    · rename_i hin
      rw [getTray, if_neg (other n l' k' a c (Ne.symm hin) hl' (.inr hst))]
      exact h.launched n l' k' a c hl' hst
  · rw [getLine] at hl'
    split at hl'
    · cases hl'
      exact hp.watched mon hmon
    · exact h.watched n l' mon hl' hmon
  · rw [getLine] at hl'
    split at hl'
    · cases hl'
      exact hp.armed hb k' a c hst
    · exact h.armed hb n l' k' a c hl' hst
  · rw [getTray] at hz
    split at hz
    · rename_i hkk
      cases hz
      obtain ⟨hyi, a, c, hst⟩ := hp.ofReserved hzs
      exact ⟨i, m, a, c, hyi, by rw [getLine, if_pos rfl], hkk ▸ hst⟩
    · rename_i hkk
      obtain ⟨n, l', a, c, hn, hl', hst⟩ := h.ofReserved k' z hz hzs
      have hne : i ≠ n := by
        rintro rfl
        obtain rfl : l = l' := Option.some.inj (hl.symm.trans hl')
        exact hkk (hcl k' a c (.inl hst)).symm
      exact ⟨n, l', a, c, hn, by rw [getLine, if_neg hne, hl'], hst⟩
  · rw [getTray] at hz
    split at hz
    · rename_i hkk
      cases hz
      obtain ⟨hyi, a, c, hst⟩ := hp.ofLaunching hzs
      exact ⟨i, m, a, c, hyi, by rw [getLine, if_pos rfl], hkk ▸ hst⟩
    · rename_i hkk
      obtain ⟨n, l', a, c, hn, hl', hst⟩ := h.ofLaunching k' z hz hzs
      have hne : i ≠ n := by
        rintro rfl
        obtain rfl : l = l' := Option.some.inj (hl.symm.trans hl')
        exact hkk (hcl k' a c (.inr hst)).symm
      exact ⟨n, l', a, c, hn, by rw [getLine, if_neg hne, hl'], hst⟩

/-! ## Changes of one line (R30, R40) -/

/-- A change of one line keeps all but the law of the lines. -/
theorem modifyLine_lawful (i : Nat) (f : Line → Line) (s : State) (h : s.LineLawAt b → (modifyLine i f s).LineLawAt b) :
    Lawful b s (modifyLine i f s) :=
  Plain.lawful (modifyLine_plain i f s) ⟨id, id, fun _ _ h h' => ⟨h, h'⟩, h⟩

/-- A line that names no tray, before and after. -/
theorem State.LineLawAt.of_alone (h : s.LineLawAt b) (hl : s.lines[i]? = some l) (ht : t.trays = s.trays)
    (hm : t.lines = s.lines.set i m) (hla : l.state.alone) (hma : m.state.alone) (hmon : m.mon = none) : t.LineLawAt b := by
  have getLine := getElem?_set_of_get hl m
  rw [← hm] at getLine
  have stays : ∀ (n : Nat) (l' : Line), t.lines[n]? = some l' → l' = m ∨ s.lines[n]? = some l' := by
    intro n l' hl'
    rw [getLine] at hl'
    split at hl'
    · exact .inl (Option.some.inj hl').symm
    · exact .inr hl'
  have named : ∀ (n : Nat) (l' : Line), s.lines[n]? = some l' → ¬ l'.state.alone → t.lines[n]? = some l' := by
    intro n l' hl' hno
    rw [getLine, if_neg, hl']
    rintro rfl
    obtain rfl : l = l' := Option.some.inj (hl.symm.trans hl')
    exact hno hla
  refine ⟨fun n l' k a c hl' hst => ?_, fun n l' k a c hl' hst => ?_, fun n l' mon hl' hm' => ?_,
    fun hb n l' k a c hl' hst => ?_, fun k z hz hzs => ?_, fun k z hz hzs => ?_⟩
  · rcases stays n l' hl' with rfl | hl'
    · exact absurd hst (hma k a c).1
    · rw [ht]
      exact h.reserved n l' k a c hl' hst
  · rcases stays n l' hl' with rfl | hl'
    · exact absurd hst (hma k a c).2
    · rw [ht]
      exact h.launched n l' k a c hl' hst
  · rcases stays n l' hl' with rfl | hl'
    · simp [hmon] at hm'
    · exact h.watched n l' mon hl' hm'
  · rcases stays n l' hl' with rfl | hl'
    · exact absurd hst (hma k a c).1
    · exact h.armed hb n l' k a c hl' hst
  · rw [ht] at hz
    obtain ⟨n, l', a, c, hn, hl', hst⟩ := h.ofReserved k z hz hzs
    exact ⟨n, l', a, c, hn, named n l' hl' fun ha => (ha k a c).1 hst, hst⟩
  · rw [ht] at hz
    obtain ⟨n, l', a, c, hn, hl', hst⟩ := h.ofLaunching k z hz hzs
    exact ⟨n, l', a, c, hn, named n l' hl' fun ha => (ha k a c).2 hst, hst⟩

/-- A line that names no tray has no monitor armed. -/
theorem State.LineLawAt.disarmed (h : s.LineLawAt b) (hl : s.lines[i]? = some l) (hs : l.state.alone) : l.mon = none := by
  cases hm : l.mon with
  | none => rfl
  | some m =>
    obtain ⟨a, c, hst⟩ := h.watched i l m hl hm
    exact absurd hst (hs _ _ _).1

theorem modifyLine_alone_lawful (hl : s.lines[i]? = some l) (hla : l.state.alone) (hma : (f l).state.alone)
    (hmon : (f l).mon = l.mon ∨ (f l).mon = none) : Lawful b s (modifyLine i f s) := by
  refine modifyLine_lawful i f s fun h => h.of_alone hl rfl (set_eq_modify_of_get hl f) hla hma ?_
  rcases hmon with hm | hm
  · rw [hm, h.disarmed hl hla]
  · exact hm

theorem LineState.free_alone : LineState.free.alone := fun _ _ _ => ⟨nofun, nofun⟩

theorem LineState.held_alone (t1 t2 : Nat) : (LineState.held t1 t2).alone := fun _ _ _ => ⟨nofun, nofun⟩

theorem dropHeldLine_lawful (i : Nat) (s : State) : Lawful b s (dropHeldLine i s) := by
  unfold dropHeldLine
  split
  · rename_i t1 t2 hs
    obtain ⟨l, hl, hst⟩ := Option.map_eq_some_iff.1 hs
    refine (modifyLine_alone_lawful hl (hst ▸ LineState.held_alone _ _) ?_ (.inl rfl)).trans (raiseIref_calm _ _ _ _ _).lawful
    exact LineState.free_alone
  · exact .refl _ _

theorem dropHeld_lawful (s : State) : Lawful b s (dropHeld s) := .foldl (fun s i => dropHeldLine_lawful i s) _ s

/-! ## A line that changes with its tray -/

theorem drainWatch_modifyLine (i : Nat) (f : Line → Line) (s : State) :
    modifyLine i f (drainWatch s) = drainWatch (modifyLine i f s) := rfl

theorem changeTray_modifyLine (k : Nat) (e : TrayState) (g : Tray → Tray) (i : Nat) (f : Line → Line) (s : State) :
    changeTray k e g (modifyLine i f s) = modifyLine i f (changeTray k e g s) := by
  have settle : ∀ x, settleTray k x (modifyLine i f s) = modifyLine i f (settleTray k x s) := by
    intro x
    unfold settleTray
    split <;> rfl
  rcases changeTray_cases k e g s with ⟨x, hx, hxs, he⟩ | ⟨hno, he⟩
  · rw [he, changeTray_made (s := modifyLine i f s) hx hxs, settle]
  · rw [he, changeTray_dropped (s := modifyLine i f s) hno]

/-- A tray that takes no order, no drop and no new tag, with its line. -/
theorem settlePair_lawful (hx : s.trays[k]? = some x) (hl : s.lines[i]? = some l)
    (hxs : x.state ≠ .routed ∧ ¬ x.state.dropped) (hys : y.state ≠ .routed ∧ y.state ≠ .dropping)
    (htag : s.tagDoubled k none y.tag = false ∨ y.tag = x.tag)
    (hlines : s.LineLawAt b → Coupled i k l x ∧ Paired b i k (f l) y) : Lawful b s (modifyLine i f (settleTray k y s)) := by
  have hput : Lawful b s (modifyLine i f (putTray k y s)) := by
    refine Plain.lawful ((putTray_plain k y s).trans (modifyLine_plain i f _))
      (.of_tray (gone := fun _ => False) hx rfl (forall₂_self (ChuteShrinks.refl _) _) rfl
        ⟨hxs.1, fun h => hxs.2 (.inl h)⟩ hys (htag.imp_right fun h => ⟨h, hxs.2, fun _ => id⟩) nofun fun h => ?_)
    obtain ⟨hc, hp⟩ := hlines h
    exact h.pair hx hl rfl (set_eq_modify_of_get hl f) hc hp
  unfold settleTray
  split
  · rw [drainWatch_modifyLine]
    exact hput.trans (drainWatch_lawful _)
  · exact hput

/-- A line whose tray is to be in a state changes with it; the law of the lines says that the tray is in that state. -/
theorem changePair_lawful (hl : s.lines[i]? = some l) (he : e ≠ .routed ∧ ¬ e.dropped)
    (hg : ∀ x, ((g x).state ≠ .routed ∧ (g x).state ≠ .dropping) ∧ ((g x).tag = 0 ∨ (g x).tag = x.tag))
    (hlines : s.LineLawAt b → ∃ x, s.trays[k]? = some x ∧ x.state = e ∧ Coupled i k l x ∧ Paired b i k (f l) (g x)) :
    Lawful b s (modifyLine i f (changeTray k e g s)) := by
  rcases changeTray_cases k e g s with ⟨x, hx, rfl, he'⟩ | ⟨hno, he'⟩
  · rw [he']
    refine settlePair_lawful hx hl he (hg x).1 ((hg x).2.imp_left fun h => ?_) fun h => ?_
    · rw [h]
      rfl
    · obtain ⟨x', hx', -, hc, hp⟩ := hlines h
      obtain rfl : x = x' := Option.some.inj (hx.symm.trans hx')
      exact ⟨hc, hp⟩
  · rw [he']
    refine modifyLine_lawful i f s fun h => ?_
    obtain ⟨x, hx, hxs, -⟩ := hlines h
    exact absurd hxs (hno x hx)

/-- A RESERVED line that gives back its tray (R36, R41). -/
theorem releasePair_lawful (hl : s.lines[i]? = some l) (hs : l.state = .reserved k t1 t2) (hf : (f l).state.alone ∧ (f l).mon = none) :
    Lawful b s (modifyLine i f (changeTray k .reserved (fun _ => Tray.blank .empty) s)) := by
  refine changePair_lawful hl (by simp [TrayState.dropped]) (fun x => ⟨by simp [Tray.blank], .inl rfl⟩) fun h => ?_
  obtain ⟨x, hx, -, -⟩ := h.reserved i l k t1 t2 hl hs
  obtain ⟨hxs, -, hc⟩ := h.coupled_reserved hl hs hx
  exact ⟨x, hx, hxs, hc, .apart hf.1 hf.2 (by simp [Tray.blank, TrayState.lined])⟩

theorem releaseLine_lawful (i : Nat) (s : State) : Lawful b s (releaseLine i s) := by
  unfold releaseLine
  split
  · rename_i k t1 t2 hs
    obtain ⟨l, hl, hst⟩ := Option.map_eq_some_iff.1 hs
    have release : ∀ st : LineState, st.alone → Lawful b s (modifyLine i (fun l => { l with state := st })
        (changeTray k .reserved (fun _ => Tray.blank .empty) (modifyLine i (fun l => { l with mon := none }) s))) := by
      intro st hst'
      rw [changeTray_modifyLine]
      have := releasePair_lawful (b := b) (f := fun l => { l with state := st, mon := none }) hl hst ⟨hst', rfl⟩
      unfold modifyLine at this ⊢
      rwa [List.modify_modify_eq]
    refine .ite (fun _ => release _ (LineState.held_alone _ _)) (fun _ => ?_)
    exact (release _ LineState.free_alone).trans (raiseIref_calm _ _ _ _ _).lawful
  · exact .refl _ _

theorem releaseReservations_lawful (s : State) : Lawful b s (releaseReservations s) :=
  .foldl (fun s i => releaseLine_lawful i s) _ s

/-- LNCH sent: the tray LAUNCHING with its line LAUNCHED (R35). -/
theorem sendLaunch_lawful (hroom : s.timingRoom = true) (hl : s.lines[i]? = some l) (hs : l.state = .reserved k t1 t2) :
    Lawful b s (sendLaunch i k t1 t2 s) := by
  refine (queueTimed_calm _ _ hroom).lawful.trans (changePair_lawful (s := queueTimed _ _ s) (l := l) hl
    (by simp [TrayState.dropped]) (fun x => ⟨by simp, .inr rfl⟩) fun h => ?_)
  obtain ⟨x, hx, -, -⟩ := h.reserved i l k t1 t2 hl hs
  obtain ⟨hxs, hi, hc⟩ := h.coupled_reserved hl hs hx
  exact ⟨x, hx, hxs, hc, .of_launched rfl rfl rfl hi⟩

theorem launchFire_lawful (i : Nat) (s : State) : Lawful b s (launchFire i s) := by
  unfold launchFire
  split
  · rename_i k t1 t2 hs
    obtain ⟨l, hl, hst⟩ := Option.map_eq_some_iff.1 hs
    exact .ite (fun hroom => sendLaunch_lawful hroom hl hst) (fun _ => releaseLine_lawful _ _)
  · rename_i hno
    -- under the law of the lines such a line has no monitor to disarm
    refine modifyLine_lawful i _ s fun h => h.keep (forall₂_self (.refl _) _)
      (forall₂_modify_at (LineStands.refl b) _ _ fun l hl => ⟨rfl, .inl ?_⟩)
    cases hm : l.mon with
    | none => rfl
    | some m =>
      obtain ⟨a, c, hst⟩ := h.watched i l m hl hm
      exact absurd (by rw [hl, Option.map_some, hst]) (hno m.tray a c)

theorem evalLaunch_lawful (adv i : Nat) (s : State) : Lawful b s (evalLaunch adv i s) := by
  unfold evalLaunch
  split
  · exact .refl _ _
  · exact launchFire_lawful _ _
  · exact releaseLine_lawful _ _

theorem evalLaunches_lawful (adv : Nat) (is : List Nat) (s : State) : Lawful b s (evalLaunches adv is s) :=
  .foldl (fun s i => evalLaunch_lawful adv i s) is s

/-- An armed monitor takes its new lead on the tray that it watches. -/
theorem resampled_lineStands (v : Nat) (l : Line) : LineStands b l (l.resampled v) := by
  unfold Line.resampled
  split
  · rename_i m hm
    unfold Line.arm
    split
    · exact ⟨rfl, .inl (by simp [hm])⟩
    · exact .refl b l
  · exact .refl b l

theorem resampleLaunch_lawful (i : Nat) (s : State) : Lawful b s (resampleLaunch i s) := by
  rw [resampleLaunch_eq]
  exact (modifyLine_calm i s fun l _ => resampled_lineStands _ l).lawful.trans (evalLaunch_lawful _ _ _)

/-! ## Allocation (R32 to R34) -/

/-- A HELD line takes an EMPTY tray (R34). -/
theorem reserveTray_lawful {c : LineCfg} (hl : s.lines[i]? = some l) (hcfg : l.cfg = some c) (hs : l.state = .held t1 t2)
    (hx : s.trays[k]? = some x) (hxs : x.state = .empty) : Lawful b s (reserveTray i k t1 t2 s) := by
  refine Lawful.trans ?_ (evalLaunch_lawful _ _ _)
  refine changePair_lawful hl (by simp [TrayState.dropped]) (fun x => ⟨by simp [Tray.blank], .inl rfl⟩) fun h => ?_
  refine ⟨x, hx, hxs, ⟨fun hx => ?_, fun k' a c h => ?_⟩, .of_reserved (t1 := t1) (t2 := t2) ?_ ?_ rfl rfl⟩
  · simp [hxs, TrayState.lined] at hx
  · simp [hs] at h
  · simp [Line.arm, hcfg]
  · simp [Line.arm, hcfg]

theorem attempt_lawful (i : Nat) (s : State) : Lawful b s (attempt i s) := by
  unfold attempt
  refine .ite (fun _ => ?_) (fun _ => .refl _ _)
  split
  · rename_i g l hg hl
    split
    · rename_i c t1 t2 hc hs
      split
      · rename_i k hk
        obtain ⟨⟨⟨x, hx, hxs⟩, -⟩, -⟩ := searchTray_found rfl hk
        exact reserveTray_lawful hl hc hs hx hxs
      · exact .refl _ _
    · exact .refl _ _
  · exact .refl _ _

theorem passLine_lawful (i k : Nat) (s : State) : Lawful b s (passLine i k s) := by
  refine Lawful.trans ?_ (attempt_lawful _ _)
  refine (modifyLine_calm i s fun l _ => ?_).lawful
  exact ⟨rfl, .inl rfl⟩

theorem takeBrdy_lawful (src line t1 t2 : Nat) (s : State) : Lawful b s (takeBrdy src line t1 t2 s) := by
  unfold takeBrdy
  split
  · exact (notify_calm _ _).lawful
  · rename_i l hl
    split
    · exact (notify_calm _ _).lawful
    · refine .ite (fun _ => (notify_calm _ _).lawful) (fun _ => .ite (fun _ => (raiseIref_calm _ _ _ _ _).lawful) (fun _ =>
        .ite (fun _ => (raiseIref_calm _ _ _ _ _).lawful) (fun _ => .ite (fun _ => ?_) (fun hfree => ?_))))
      · exact (raiseIref_calm _ _ _ _ _).lawful.trans (notify_calm _ _).lawful
      · rw [ne_eq, not_not] at hfree
        exact (modifyLine_alone_lawful hl (hfree ▸ LineState.free_alone) (LineState.held_alone _ _) (.inl rfl)).trans
          (attempt_lawful _ _)

theorem brdyOp_lawful (src : Nat) (x : Body BrdyBody) (s : State) : Lawful b s (brdyOp src x s) := by
  cases x
  · exact takeBrdy_lawful _ _ _ _ _
  · exact ((drawFree_calm s).lawful.trans (drawFree_calm _).lawful).trans (notify_calm _ _).lawful

/-! ## The outcome of a launch (R37, R38) -/

theorem launchDone_lawful (hl : s.lines[i]? = some l) (hs : l.state = .launched k t1 t2) (hx : s.trays[k]? = some x)
    (hxs : x.state = .launching) (hi : x.source = some i) (gap outcome : Nat) : Lawful b s (launchDone i k t1 t2 gap outcome s) := by
  have hx' : x.state ≠ .routed ∧ ¬ x.state.dropped := by simp [hxs, TrayState.dropped]
  have coupled : Coupled i k l x := by
    refine ⟨fun _ => hi, fun k' a c h => ?_⟩
    rcases h with h | h <;> simp [hs] at h
    exact h.1.symm
  have free : ∀ (y : Tray) (bar : List Nat), ¬ y.state.lined → s.LineLawAt b →
      Coupled i k l x ∧ Paired b i k { l with state := .free, bar := bar } y := by
    intro y bar hy h
    refine ⟨coupled, .apart LineState.free_alone ?_ hy⟩
    cases hm : l.mon with
    | none => rfl
    | some m =>
      obtain ⟨a, c, hst⟩ := h.watched i l m hl hm
      simp [hs] at hst
  unfold launchDone freeWithBar
  split
  · rw [← settleTray_aboard (k := k) (t := s.loadedTray k i t1 t2) s (by simp [State.loadedTray, Tray.blank])
      (by simp [State.loadedTray, Tray.blank])]
    exact settlePair_lawful hx hl hx' (by simp [State.loadedTray, Tray.blank]) (.inl (claimTag_free _ _ _ _))
      (free _ _ (by simp [State.loadedTray, Tray.blank, TrayState.lined]))
  · exact settlePair_lawful hx hl hx' (by simp [Tray.blank]) (.inl rfl) (free _ _ (by simp [Tray.blank, TrayState.lined]))

theorem takeLdon_lawful (src : Nat) (x : LdonBody) (s : State) : Lawful b s (takeLdon src x s) := by
  unfold takeLdon
  split
  · exact (notify_calm _ _).lawful
  · rename_i l hl
    split
    · rename_i c k t1 t2 hc hs
      refine .ite (fun h => ?_) (fun _ => (notify_calm _ _).lawful)
      obtain ⟨-, -, hfrom, -⟩ := h
      obtain ⟨y, hy, hys, hi⟩ := launchingFrom_iff.1 hfrom
      exact launchDone_lawful hl hs hy hys hi _ _
    · exact (notify_calm _ _).lawful

theorem ldonOp_lawful (src : Nat) (x : Body LdonBody) (s : State) : Lawful b s (ldonOp src x s) := by
  cases x
  · exact takeLdon_lawful _ _ _
  · exact ((drawFree_calm s).lawful.trans (drawFree_calm _).lawful).trans (notify_calm _ _).lawful

/-- A line of a launch becomes FREE. -/
def Line.freed (k : Nat) (l : Line) : Line :=
  match l.state with
  | .launched k' _ _ => if k' = k then { l with state := .free } else l
  | _ => l

theorem freeLaunch_some (k i : Nat) (s : State) : freeLaunch k (some i) s = modifyLine i (Line.freed k) s := rfl

theorem Line.freed_launched (h : l.state = .launched k t1 t2) : l.freed k = { l with state := .free } := by
  simp [Line.freed, h]

/-- A launch decided at the arch: the LAUNCHING tray takes a loose record and its line is FREE (R38). -/
theorem settleLaunch_lawful (hx : s.trays[k]? = some x) (hxs : x.state = .launching) (hys : y.state.loose)
    (htag : s.tagDoubled k none y.tag = false) : Lawful b s (freeLaunch k x.source (settleTray k y s)) := by
  have hx' : x.state ≠ .routed ∧ ¬ x.state.dropped := by simp [hxs, TrayState.dropped]
  -- a LAUNCHING tray whose source is no line of the loop meets no law of the lines
  have lost : (∀ i, x.source = some i → s.lines[i]? = none) → Lawful b s (settleTray k y s) := by
    intro hno
    have hput : Lawful b s (putTray k y s) := by
      refine Plain.lawful (putTray_plain k y s)
        (.of_tray (gone := fun _ => False) hx rfl (forall₂_self (ChuteShrinks.refl _) _) rfl
          ⟨hx'.1, fun h => hx'.2 (.inl h)⟩ hys.2 (.inl htag) nofun fun h => ?_)
      obtain ⟨i, l, t1, t2, hi, hl, -⟩ := h.coupled_launching hx hxs
      simp [hno i hi] at hl
    unfold settleTray
    split
    · exact hput.trans (drainWatch_lawful _)
    · exact hput
  cases hi : x.source with
  | none => exact lost fun i h => by simp [hi] at h
  | some i =>
    rw [freeLaunch_some]
    cases hl : s.lines[i]? with
    | none =>
      have hout : ∀ u : State, u.lines = s.lines → modifyLine i (Line.freed k) u = u := by
        intro u hu
        unfold modifyLine
        rw [modify_eq_self (by simp [hu, hl])]
      rw [hout _ (by unfold settleTray; split <;> rfl)]
      exact lost fun n h => by
        rw [hi] at h
        cases h
        exact hl
    | some l =>
      refine settlePair_lawful hx hl hx' hys.2 (.inl htag) fun h => ?_
      obtain ⟨i', l', t1, t2, hi', hl', hs, hc⟩ := h.coupled_launching hx hxs
      obtain rfl : i = i' := Option.some.inj (hi.symm.trans hi')
      obtain rfl : l = l' := Option.some.inj (hl.symm.trans hl')
      rw [Line.freed_launched hs]
      refine ⟨hc, .apart LineState.free_alone ?_ hys.1⟩
      cases hm : l.mon with
      | none => rfl
      | some m =>
        obtain ⟨a, c, hst⟩ := h.watched i l m hl hm
        simp [hs] at hst

theorem TrayState.loose_empty : TrayState.empty.loose := by simp [TrayState.loose, TrayState.lined]
theorem TrayState.loose_loaded : TrayState.loaded.loose := by simp [TrayState.loose, TrayState.lined]
theorem TrayState.loose_recirculate : TrayState.recirculate.loose := by simp [TrayState.loose, TrayState.lined]
theorem TrayState.loose_doubt : TrayState.doubt.loose := by simp [TrayState.loose, TrayState.lined]
theorem TrayState.loose_disabled : TrayState.disabled.loose := by simp [TrayState.loose, TrayState.lined]

theorem loadAtArch_lawful (hx : s.trays[k]? = some x) (hxs : x.state = .launching) : Lawful b s (loadAtArch k x.source s) := by
  unfold loadAtArch
  rw [← settleTray_aboard s (by simp [Tray.blank]) (by simp [Tray.blank])]
  exact (settleLaunch_lawful hx hxs TrayState.loose_loaded (claimTag_free _ _ _ _)).trans (notify_calm _ _).lawful

theorem emptyAtArch_lawful (hx : s.trays[k]? = some x) (hxs : x.state = .launching) : Lawful b s (emptyAtArch k x.source s) :=
  (settleLaunch_lawful hx hxs TrayState.loose_empty rfl).trans (notify_calm _ _).lawful

/-- The tray of a launch decided LOADED. -/
theorem loadAtArch_get (hx : s.trays[k]? = some x) (i : Option Nat) :
    ∃ y, (loadAtArch k i s).trays[k]? = some y ∧ y.state = .loaded := by
  refine ⟨{ Tray.blank .loaded with
    tag := s.claimTag k none (s.launchTags k i).1
    tag2 := (s.launchTags k i).2
    source := i }, ?_, rfl⟩
  unfold loadAtArch
  rw [show ∀ (n : Notice) (u : State), (notify n u).trays = u.trays from fun _ _ => rfl, freeLaunch_trays]
  exact List.getElem?_set_self (List.getElem?_eq_some_iff.1 hx).1

end

end Sys2Proof.Machine
end

section
/-! # Passes at the arch and evaluations of the chain keep the laws (chapters 1 and 3) -/

namespace Sys2Proof.Machine

open Sys2Proof

section
variable {b : Prop} {s t u : State} {k j : Nat} {x y : Tray}

/-! ## Routing (R60, R87 to R92) -/

/-- What changes the Route Resolver and the notices alone is calm. -/
theorem RouterOnly.calm (h : RouterOnly s t) (hk : Kept s t) : Calm b s t := by
  obtain ⟨r, m, hn, rfl⟩ := h
  have hmgmt := hk.mgmt
  have hrep : m.replies = s.mgmt.replies := (congrArg Mgmt.replies hmgmt :)
  have hreq : m.requests = s.mgmt.requests := (congrArg Mgmt.requests hmgmt :)
  refine .write (hr := hrep) (hb := ?_)
  rintro ⟨h1, h2, h3, h4⟩
  exact ⟨hreq ▸ h1, hrep ▸ h2, hn h3, h4⟩

theorem tellDeck_lawful (k tag j : Nat) (kind : RouteKind) (s : State) : Lawful b s (tellDeck k tag j kind s) := by
  unfold tellDeck
  split
  · exact reinduct_lawful _ _ _ _
  · exact .refl _ _

theorem tellDeck_stands (k tag j : Nat) (kind : RouteKind) (s : State) :
    (tellDeck k tag j kind s).trays = s.trays ∧ (tellDeck k tag j kind s).carts = s.carts ∧
      (tellDeck k tag j kind s).mode = s.mode := by
  obtain ⟨l, m, h⟩ := tellDeck_straysOnly k tag j kind s
  rw [h]
  exact ⟨rfl, rfl, rfl⟩

/-- Whether a tag is doubled is a matter of the trays and the carts. -/
theorem tagDoubled_congr (ht : t.trays = s.trays) (hc : t.carts = s.carts) (seq : Option Nat) (tag : Nat) :
    t.tagDoubled k seq tag = s.tagDoubled k seq tag := by
  unfold State.tagDoubled State.tagOnOtherTray State.tagInCarts
  rw [ht, hc]

/-- The tag that a verdict writes stands nowhere else (R59). -/
theorem checkDoubled_free (s : State) (k : Nat) (r : Reading) : s.tagDoubled k none (s.checkDoubled k r).tag = false := by
  cases h : s.tagDoubled k none r.tag with
  | true =>
    rw [checkDoubled_doubled h]
    rfl
  | false => rwa [checkDoubled_single h]

/-- A route applied to a loose tray, with a record of a passed tray whose tag stands nowhere else. -/
theorem applyRoute_lawful (route : Route) (hx : s.trays[k]? = some x) (hxs : x.state.loose) (hy : y.state = .recirculate)
    (htag : s.tagDoubled k none y.tag = false) (hm : ¬ s.mode.orderless) : Lawful b s (applyRoute k y route s) := by
  unfold applyRoute
  split
  · exact putTray_lawful hx hxs (hy ▸ TrayState.loose_recirculate) (.inl htag)
  · rename_i j kind
    obtain ⟨htrays, hcarts, hmode⟩ := tellDeck_stands k y.tag j kind s
    refine (tellDeck_lawful _ _ _ _ _).trans (queueOrder_lawful (x := x) (htrays ▸ hx) hxs _ _ _ (fun n => ⟨rfl, rfl, rfl, ?_⟩) ?_)
    · rw [tagDoubled_congr htrays hcarts]
      exact htag
    · rwa [hmode]

theorem State.routes_mode (h : s.routes = true) : ¬ s.mode.orderless := by
  simp only [State.routes, Bool.and_eq_true, Bool.or_eq_true, beq_iff_eq] at h
  obtain ⟨⟨hm, -⟩, -⟩ := h
  rcases hm with (hm | hm) | hm <;> simp [Mode.orderless, hm]

/-- Stages 3 to 5 of a pass of a loose tray with a bag aboard (R55 to R60). -/
theorem passBag_lawful (lap : Nat) (source : Option Nat) (set : List SetTag) (hx : s.trays[k]? = some x) (hxs : x.state.loose) :
    Lawful b s (passBag k lap source set s) := by
  have hcount : Calm b s (countLookups lap set s) := by
    rw [countLookups_eq]
    exact .write
  have hfree := checkDoubled_free s k (s.reading lap set)
  cases h : s.routes with
  | false =>
    rw [passBag_unrouted h]
    refine hcount.lawful.trans (putTray_lawful (x := x) ?_ hxs TrayState.loose_recirculate (.inl ?_))
    · rwa [countLookups_trays]
    · rwa [tagDoubled_congr (countLookups_trays _ _ _) (by rw [countLookups_eq])]
  | true =>
    rw [passBag_routed h rfl rfl]
    have hroute := resolveRoute_routerOnly k (s.checkDoubled k (s.reading lap set)).tag
      (s.checkDoubled k (s.reading lap set)).verdict (countLookups lap set s)
    have hkept := resolveRoute_frame k (s.checkDoubled k (s.reading lap set)).tag
      (s.checkDoubled k (s.reading lap set)).verdict (countLookups lap set s)
    have hstands : (resolveRoute k (s.checkDoubled k (s.reading lap set)).tag (s.checkDoubled k (s.reading lap set)).verdict
        (countLookups lap set s)).1.trays = s.trays ∧ (resolveRoute k (s.checkDoubled k (s.reading lap set)).tag
        (s.checkDoubled k (s.reading lap set)).verdict (countLookups lap set s)).1.carts = s.carts ∧
        (resolveRoute k (s.checkDoubled k (s.reading lap set)).tag (s.checkDoubled k (s.reading lap set)).verdict
        (countLookups lap set s)).1.mode = s.mode := by
      obtain ⟨r, m, -, he⟩ := hroute
      rw [he, countLookups_eq]
      exact ⟨rfl, rfl, rfl⟩
    obtain ⟨htrays, hcarts, hmode⟩ := hstands
    refine (hcount.lawful.trans (hroute.calm hkept).lawful).trans (applyRoute_lawful (x := x) _ ?_ hxs rfl ?_ ?_)
    · rwa [htrays]
    · rwa [tagDoubled_congr htrays hcarts]
    · rw [hmode]
      exact s.routes_mode h

/-! ## The pass by tray state (R50 to R54) -/

theorem passEmpty_lawful (hx : s.trays[k]? = some x) (hxs : x.state = .empty) (o : Occupancy) (n1 n2 : Nat) :
    Lawful b s (passEmpty k o n1 n2 s) := by
  unfold passEmpty
  split
  · exact (notify_calm _ s).lawful.trans (passBag_lawful (x := x) _ _ _ hx (hxs ▸ TrayState.loose_empty))
  · exact .refl _ _
  · exact .refl _ _

theorem passLoaded_lawful (hx : s.trays[k]? = some x) (hxs : x.state = .loaded) (y : Tray) (o : Occupancy) (n1 n2 : Nat) :
    Lawful b s (passLoaded k y o n1 n2 s) := by
  have hloose : x.state.loose := hxs ▸ TrayState.loose_loaded
  unfold passLoaded
  split
  · exact passBag_lawful _ _ _ hx hloose
  · exact passBag_lawful _ _ _ hx hloose
  · exact (settleBlank_lawful hx hloose TrayState.loose_empty).trans (notify_calm _ _).lawful

theorem passRecirculate_lawful (hx : s.trays[k]? = some x) (hxs : x.state = .recirculate) (o : Occupancy) (n1 n2 : Nat) :
    Lawful b s (passRecirculate k x o n1 n2 s) := by
  have hloose : x.state.loose := hxs ▸ TrayState.loose_recirculate
  unfold passRecirculate
  split
  · exact passBag_lawful _ _ _ hx hloose
  · exact passBag_lawful _ _ _ hx hloose
  · exact (settleBlank_lawful hx hloose TrayState.loose_empty).trans (notify_calm _ _).lawful

theorem undoDrop_trays (j serial k seq tag : Nat) (s : State) : (undoDrop j serial k seq tag s).trays = s.trays := by
  unfold undoDrop
  split <;> rfl

theorem passDoubt_lawful (hx : s.trays[k]? = some x) (hxs : x.state = .doubt) (o : Occupancy) (n1 n2 : Nat) :
    Lawful b s (passDoubt k x o n1 n2 s) := by
  unfold passDoubt
  split
  · refine (undoDrop_lawful _ _ _ _ _ s).trans (passBag_lawful (x := x) _ _ _ ?_ (hxs ▸ TrayState.loose_doubt))
    rwa [undoDrop_trays]
  · exact presumeDrop_lawful hx hxs _ _ _
  · exact .refl _ _

theorem passLaunching_lawful (hx : s.trays[k]? = some x) (hxs : x.state = .launching) (o : Occupancy) (n1 n2 : Nat) :
    Lawful b s (passLaunching k x o n1 n2 s) := by
  obtain ⟨y, hy, hys⟩ := loadAtArch_get hx x.source
  unfold passLaunching
  split
  · exact emptyAtArch_lawful hx hxs
  · exact (loadAtArch_lawful hx hxs).trans (passLoaded_lawful hy hys _ _ _ _)
  · exact (loadAtArch_lawful hx hxs).trans (passLoaded_lawful hy hys _ _ _ _)

theorem passTray_lawful (k : Nat) (o : Occupancy) (n1 n2 : Nat) (s : State) : Lawful b s (passTray k o n1 n2 s) := by
  unfold passTray
  split
  · exact .refl _ _
  · rename_i x hx
    split
    · exact passEmpty_lawful hx ‹_› _ _ _
    · exact passLaunching_lawful hx ‹_› _ _ _
    · exact passLoaded_lawful hx ‹_› _ _ _ _
    · exact passRecirculate_lawful hx ‹_› _ _ _
    · exact passDoubt_lawful hx ‹_› _ _ _
    all_goals exact (withArch_calm _ _).lawful

/-! ## The scan monitor (R44 to R48) -/

theorem armScan_calm (k : Nat) (s : State) : Calm b s (armScan k s) := by
  unfold armScan
  split
  · exact .write
  · exact .refl b s

theorem lawful_scanParts : ScanParts (Lawful b) where
  refl := .refl b
  trans := .trans
  arch a s := (withArch_calm a s).lawful
  arm k s := (armScan_calm k s).lawful
  send h := (queueTimed_calm _ _ h).lawful
  pass k s := passTray_lawful k .unknown 0 0 s

theorem evalScan_lawful (adv : Nat) (s : State) : Lawful b s (evalScan adv s) := lawful_scanParts.evalScan adv s

theorem freshArm_lawful (s : State) : Lawful b s (freshArm s) := lawful_scanParts.freshArm s

theorem moveScan_lawful (k : Nat) (s : State) : Lawful b s (moveScan k s) := by
  unfold moveScan
  refine .ite (fun _ => ?_) (fun _ => .refl _ _)
  split
  · exact (armScan_calm _ _).lawful.trans (evalScan_lawful _ _)
  · exact (withArch_calm _ _).lawful

theorem resampleScan_lawful (s : State) : Lawful b s (resampleScan s) := by
  unfold resampleScan
  split
  · exact (armScan_calm _ _).lawful.trans (evalScan_lawful _ _)
  · exact freshArm_lawful s

theorem tscnOp_lawful (src : Nat) (x : Body TscnBody) (s : State) : Lawful b s (tscnOp src x s) := by
  unfold tscnOp takeTscn
  split
  · split
    · exact (withArch_calm _ _).lawful
    · exact .ite (fun _ => (withArch_calm _ _).lawful) (fun _ => .ite (fun _ => (withArch_calm _ _).lawful)
        (fun _ => (withArch_calm _ s).lawful.trans (passTray_lawful _ _ _ _ _)))
  · exact (withArch_calm _ _).lawful

/-! ## Movement and speed samples (R6, R11, R13) -/

theorem announceLine_lawful (adv i : Nat) (s : State) : Lawful b s (announceLine adv i s) := by
  unfold announceLine
  split
  · exact .foldl (fun s k => passLine_lawful i k s) _ s
  · exact .refl _ _

theorem announce_lawful (adv : Nat) (s : State) : Lawful b s (announce adv s) :=
  .foldl (fun s i => announceLine_lawful adv i s) _ s

theorem evalScanIf_lawful (armed : Bool) (adv : Nat) (s : State) : Lawful b s (evalScanIf armed adv s) :=
  .ite (fun _ => evalScan_lawful _ _) (fun _ => .refl _ _)

theorem evalAll_lawful (adv : Nat) (before s : State) : Lawful b s (evalAll adv before s) :=
  ((evalLaunches_lawful _ _ _).trans (evalScanIf_lawful _ _ _)).trans (evalHeads_lawful _ _ _)

theorem movedForward_lawful (adv : Nat) (s : State) : Lawful b s (movedForward adv s) :=
  (announce_lawful _ _).trans (evalAll_lawful _ _ _)

theorem resampleAll_lawful (s : State) : Lawful b s (resampleAll s) := by
  unfold resampleAll
  refine Lawful.trans ?_ (.foldl (fun s j => resampleHead_lawful j s) _ _)
  refine Lawful.trans ?_ (resampleScan_lawful _)
  exact .foldl (fun s i => resampleLaunch_lawful i s) _ s

theorem speedSample_lawful (s : State) : Lawful b s (speedSample s) :=
  .ite (fun _ => (withTracker_calm _ s).lawful.trans (resampleAll_lawful _)) (fun _ => (withTracker_calm _ s).lawful)

theorem encoderStep_lawful (ph : EncPhase) (s : State) : Lawful b s (encoderStep ph s) := by
  have h : ∀ fwd, Lawful b s (withTracker (s.tracker.count fwd) (withPins (s.pins.toggle ph) s)) := fun _ =>
    (withPins_calm _ s).lawful.trans (withTracker_calm _ _).lawful
  exact .ite (fun _ => (h _).trans (movedForward_lawful 1 _)) (fun _ => h _)

theorem stopChange_lawful (held : Bool) (s : State) : Lawful b s (stopChange held s) :=
  (withPins_calm _ s).lawful.trans (noticeLevel_calm _ _).lawful

end

end Sys2Proof.Machine
end

section
/-! # LOST, the ports and the frames keep the laws (sections 1.2 to 1.4, chapter 10) -/

namespace Sys2Proof.Machine

open Sys2Proof

/-! ## Reservations released after every monitor is disarmed (R8, R41, R183) -/

section
variable {b : Prop} {s t u : State} {i : Nat} {l : Line}

/-- A line that is not RESERVED. -/
def Line.Unreserved (l : Line) : Prop := ∀ k a b, l.state ≠ .reserved k a b

theorem changeTray_lines (k : Nat) (e : TrayState) (f : Tray → Tray) (s : State) : (changeTray k e f s).lines = s.lines := by
  rcases changeTray_cases k e f s with ⟨x, -, -, he⟩ | ⟨-, he⟩
  · rw [he]
    unfold settleTray
    split <;> rfl
  · rw [he]

/-- The release of a line's reservation changes that line alone, and leaves it without one. -/
theorem releaseLine_lines (i : Nat) (s : State) :
    ∃ f : Line → Line, (releaseLine i s).lines = s.lines.modify i f ∧ ∀ l, s.lines[i]? = some l → (f l).Unreserved := by
  unfold releaseLine
  split
  · rename_i k t1 t2 hs
    unfold holdAgain
    split
    · refine ⟨fun l => { l with state := .held t1 t2, mon := none }, ?_, fun l _ k a b => nofun⟩
      rw [modifyLine_lines, changeTray_lines, modifyLine_lines, List.modify_modify_eq]
      rfl
    · refine ⟨fun l => { l with state := .free, mon := none }, ?_, fun l _ k a b => nofun⟩
      change (modifyLine i _ _).lines = _
      rw [modifyLine_lines, changeTray_lines, modifyLine_lines, List.modify_modify_eq]
      rfl
  · rename_i hno
    refine ⟨id, (List.modify_id _ _).symm, fun l hl k a b hs => ?_⟩
    exact hno k a b (by rw [hl, Option.map_some]; exact congrArg some hs)

theorem releaseLines_unreserved (s : State) : ∀ (n : Nat), ((List.range n).foldl (fun s i => releaseLine i s) s).lines.length =
    s.lines.length ∧ ∀ (i : Nat) (l : Line), i < n →
      ((List.range n).foldl (fun s i => releaseLine i s) s).lines[i]? = some l → l.Unreserved
  | 0 => ⟨rfl, fun i l h => absurd h (Nat.not_lt_zero i)⟩
  | n + 1 => by
    obtain ⟨hlen, hun⟩ := releaseLines_unreserved s n
    rw [List.range_succ, List.foldl_append]
    obtain ⟨f, hf, hfree⟩ := releaseLine_lines n ((List.range n).foldl (fun s i => releaseLine i s) s)
    refine ⟨?_, fun i l hi hl => ?_⟩
    · rw [List.foldl_cons, List.foldl_nil, hf, List.length_modify, hlen]
    · rw [List.foldl_cons, List.foldl_nil, hf, List.getElem?_modify, Option.map_eq_map, Option.map_eq_some_iff] at hl
      obtain ⟨m, hm, rfl⟩ := hl
      by_cases hin : n = i
      · subst hin
        simpa using hfree m hm
      · simpa [hin] using hun i m (by omega) hm

theorem releaseReservations_unreserved (s : State) :
    ∀ (i : Nat) (l : Line), (releaseReservations s).lines[i]? = some l → l.Unreserved := by
  obtain ⟨hlen, hun⟩ := releaseLines_unreserved s s.lines.length
  refine fun i l hl => hun i l ?_ hl
  rw [← hlen]
  exact (List.getElem?_eq_some_iff.1 hl).1

/-- Once every reservation is released, no line is left whose monitor was disarmed under it. -/
theorem Lawful.released (h : Lawful False s u) : Lawful True s (releaseReservations u) := by
  obtain ⟨hplain, htags, horders, hcarts, hlines⟩ := h.trans (releaseReservations_lawful u)
  refine ⟨hplain, htags, horders, hcarts, fun hs => ?_⟩
  obtain ⟨h1, h2, h3, -, h5, h6⟩ := hlines ⟨hs.1, hs.2, hs.3, False.elim, hs.5, hs.6⟩
  exact ⟨h1, h2, h3, fun _ i l k a b hl hst => absurd hst (releaseReservations_unreserved u i l hl k a b), h5, h6⟩

theorem enterLost_lawful (cause : StopCause) (s : State) : Lawful True s (enterLost cause s) := by
  unfold enterLost
  refine Lawful.trans (Lawful.trans (Lawful.released ?_) (notify_calm _ _).lawful) (setLatch_lawful _ _)
  refine Lawful.trans ?_ (withdrawDrops_lawful _)
  refine Lawful.trans ?_ (cancelAll_lawful _)
  exact (withTracker_calm _ s).lawful.trans (disarmAll_calm _).lawful

theorem bothChange_lawful (s : State) : Lawful True s (bothChange s) := by
  refine (withPins_calm { s.pins with encA := !s.pins.encA, encB := !s.pins.encB } s).lawful.trans ?_
  unfold bothChange encoderFault
  split
  · exact .refl _ _
  · exact enterLost_lawful _ _
  · exact setLatch_lawful _ _
  · exact setLatch_lawful _ _

theorem resync_lawful (left : TrackState) (s : State) : Lawful b s (resync left s) :=
  ((withTracker_calm _ s).lawful.trans (notify_calm _ _).lawful).trans (freshArm_lawful _)

theorem homePulse_lawful (s : State) : Lawful True s (homePulse s) := by
  unfold homePulse
  split
  · exact .refl _ _
  · exact resync_lawful _ _
  · exact resync_lawful _ _
  · split
    · exact .ite (fun _ => (withTracker_calm _ s).lawful.trans (movedForward_lawful _ _)) (fun _ => enterLost_lawful _ _)
    · exact .refl _ _

/-! ## The ports (R175 to R178, R183, R184) -/

/-- A change of one port that keeps the limit of its forward queue. -/
theorem modifyPort_calm (p : PortId) {f : Port → Port} (s : State)
    (h : ∀ x : Port, x.forward.length ≤ Config.forwardMax → (f x).forward.length ≤ Config.forwardMax := by intro x h; exact h) :
    Calm b s (modifyPort p f s) := by
  cases p with
  | up => exact .write (hb := fun ⟨h1, h2, h3, h4, hup, hdown, rest⟩ => ⟨h1, h2, h3, h4, h _ hup, hdown, rest⟩)
  | down => exact .write (hb := fun ⟨h1, h2, h3, h4, hup, hdown, rest⟩ => ⟨h1, h2, h3, h4, hup, h _ hdown, rest⟩)

/-- A count of the Link Interface, its host station and its IREF marks. -/
theorem withLink_calm {l : Link} (s : State) (ht : l.timing = s.link.timing := by rfl)
    (hup : l.up.forward = s.link.up.forward := by rfl) (hdown : l.down.forward = s.link.down.forward := by rfl)
    (hi : l.irefs.map Iref.line = s.link.irefs.map Iref.line := by rfl) : Calm b s (withLink l s) :=
  .write (hb := by
    rintro ⟨h1, h2, h3, h4, h5, h6, h7, h8⟩
    exact ⟨h1, h2, h3, ht ▸ h4, hup ▸ h5, hdown ▸ h6, hi ▸ h7, h8⟩)

theorem Port.emptyForward_forward (x : Port) : x.emptyForward.forward.length ≤ Config.forwardMax := Nat.zero_le _

theorem abandonIref_calm (s : State) : Calm b s (abandonIref s) :=
  withLink_calm s (hi := by rw [List.map_map]; rfl)

theorem onUp_lawful (p : PortId) (s : State) : Lawful b s (onUp p s) := by
  cases p
  · exact .refl _ _
  · exact freshArm_lawful s

theorem trainingReceived_lawful (p : PortId) (s : State) : Lawful b s (trainingReceived p s) := by
  unfold trainingReceived
  split
  · exact .refl _ _
  · exact ((modifyPort_calm p s).lawful.trans (notify_calm _ _).lawful).trans (onUp_lawful p _)
  · exact (modifyPort_calm p s).lawful

theorem idleReceived_calm (p : PortId) (s : State) : Calm b s (idleReceived p s) := by
  unfold idleReceived
  split
  · exact .refl b s
  · exact .refl b s
  · exact modifyPort_calm p s

theorem fieldLinkFault_lawful (s : State) : Lawful True s (fieldLinkFault s) := by
  unfold fieldLinkFault
  refine Lawful.trans (Lawful.trans (Lawful.released ?_) (notify_calm _ _).lawful) (setLatch_lawful _ _)
  refine Lawful.trans ?_ (modifyPort_calm .down _ (fun x _ => x.emptyForward_forward)).lawful
  refine Lawful.trans ?_ (discardTimed_calm _).lawful
  refine Lawful.trans ?_ (withdrawDrops_lawful _)
  refine Lawful.trans ?_ (cancelAll_lawful _)
  exact ((modifyPort_calm .down s).lawful.trans (abandonIref_calm _).lawful).trans (disarmAll_calm _).lawful

theorem hostLinkFault_lawful (s : State) : Lawful b s (hostLinkFault s) :=
  (modifyPort_calm .up s (fun x _ => (x.enterDown s.now).emptyForward_forward)).lawful.trans (notify_calm _ _).lawful

theorem linkTimeout_lawful (p : PortId) (s : State) : Lawful True s (linkTimeout p s) := by
  unfold linkTimeout
  split
  · exact .refl _ _
  · exact .refl _ _
  · cases p
    · exact hostLinkFault_lawful s
    · exact fieldLinkFault_lawful s

theorem holdoffEnd_lawful (p : PortId) (s : State) : Lawful b s (holdoffEnd p s) := by
  unfold holdoffEnd
  split
  · exact (modifyPort_calm p s).lawful.trans (notify_calm _ _).lawful
  · exact .refl _ _
  · exact .refl _ _

theorem trainingSend_lawful (p : PortId) (s : State) : Lawful b s (trainingSend p s) := by
  unfold trainingSend
  split
  · exact (modifyPort_calm p s).lawful
  · exact .refl _ _
  · exact .refl _ _

theorem idleSend_lawful (p : PortId) (s : State) : Lawful b s (idleSend p s) :=
  .ite (fun _ => (modifyPort_calm p s).lawful) (fun _ => .refl _ _)

theorem forwardTo_calm (p : PortId) (f : Frame) (s : State) : Calm b s (forwardTo p f s) := by
  refine modifyPort_calm p s fun x hx => ?_
  split
  · rename_i h
    simpa using h.2
  · exact hx

theorem beginHead_length (l : List TimedFrame) : (beginHead l).length = l.length := by cases l <;> rfl

theorem beginIref_lines (l : List Iref) : (beginIref l).map Iref.line = l.map Iref.line := by cases l <;> rfl

theorem Port.start_forward (p : Port) (next : Option Tx) : (p.start next).forward = p.forward := by
  unfold Port.start
  split
  · rfl
  · split <;> rfl

/-- The arbiters begin frames where they stand. -/
theorem settle_calm (s : State) : Calm b s (settle s) := by
  refine .write (hb := ?_)
  rintro ⟨h1, h2, h3, h4, h5, h6, h7, h8⟩
  refine ⟨h1, h2, h3, ?_, ?_, ?_, ?_, h8⟩
  · change (if s.downStarts = some .timing then beginHead s.link.timing else s.link.timing).length ≤ _
    split
    · rwa [beginHead_length]
    · exact h4
  · exact (Port.start_forward _ _).symm ▸ h5
  · exact (Port.start_forward _ _).symm ▸ h6
  · change (List.map Iref.line (match s.downStarts with
      | some (.iref _) => beginIref s.link.irefs
      | _ => s.link.irefs)).Nodup
    split
    · rwa [beginIref_lines]
    · exact h7

/-! ## The end of a transmission (R169, R180 to R182) -/

theorem timedSent_lawful (s : State) : Lawful b s (timedSent s) := by
  unfold timedSent
  split
  · exact .refl _ _
  · rename_i f rest ht
    have hrest : Calm b s (withLink { s.link with timing := rest } s) := .write (hb := by
      rintro ⟨h1, h2, h3, h4, h5⟩
      rw [ht, List.length_cons] at h4
      exact ⟨h1, h2, h3, Nat.le_of_succ_le h4, h5⟩)
    exact .ite (fun _ => .ite (fun _ => hrest.lawful.trans (drainWatch_lawful _)) (fun _ => hrest.lawful)) (fun _ => .refl _ _)

theorem irefSent_calm (s : State) : Calm b s (irefSent s) :=
  .write (hb := by
    rintro ⟨h1, h2, h3, h4, h5, h6, h7, h8⟩
    exact ⟨h1, h2, h3, h4, h5, h6, h7.sublist (List.eraseP_sublist.map _), h8⟩)

theorem noteSent_calm (s : State) : Calm b s (noteSent s) :=
  .write (hb := by
    rintro ⟨h1, h2, h3, h4⟩
    refine ⟨h1, h2, ?_, h4⟩
    change s.mgmt.notices.tail.length ≤ _
    rw [List.length_tail]
    omega)

end

end Sys2Proof.Machine
end

section
/-! # The modes, the tables and the line reset keep the laws (chapter 9, sections 7.2, 11.5, 11.6) -/

namespace Sys2Proof.Machine

open Sys2Proof

section
variable {b : Prop} {s t u : State} {j : Nat} {c : Chute}

/-! ## Changes of mode (R163 to R171) -/

/-- A mode entered: one without orders only when no order is left, one outside SORTING and DRAINING only with no tray
DROPPING. -/
theorem withSession_lawful (x : Session) (s : State) (hsession : s.SessionLaw → (withSession x s).SessionLaw)
    (hq : s.OrderLaw → x.mode.orderless → ∀ c ∈ s.carts.chutes, c.queue = [])
    (hd : s.ConfirmationLaw → x.mode ∉ [.sorting, .draining] → ∀ y ∈ s.trays, y.state ≠ .dropping) :
    Lawful b s (withSession x s) where
  replies := rfl
  bounds := id
  session := hsession
  strays := id
  reports := id
  tags := id
  orders h := ⟨h.1, h.2.1, hq h⟩
  carts _ _ h hk := ⟨⟨h.1, h.2.1, hd h⟩, hk⟩
  lines h := ⟨h.1, h.2, h.3, h.4, h.5, h.6⟩

theorem State.OrderLaw.empty (h : s.OrderLaw) (hm : s.mode.orderless) : ∀ c ∈ s.carts.chutes, c.queue = [] := h.2.2 hm

theorem State.ConfirmationLaw.none_dropping (h : s.ConfirmationLaw) (hm : s.mode ∉ [.sorting, .draining]) :
    ∀ y ∈ s.trays, y.state ≠ .dropping := h.2.2 hm

/-- A session that is open and not draining changes to another such mode. -/
theorem SessionLaw.change {x : Session} (h : s.SessionLaw) (hi : s.mode ≠ .idle) (hd : s.mode ≠ .draining)
    (hv : x.voyage = s.session.voyage) (hw : x.watch = s.session.watch) (hxi : x.mode ≠ .idle) (hxd : x.mode ≠ .draining) :
    (withSession x s).SessionLaw := by
  obtain ⟨h1, h2, h3⟩ := h
  have hne : s.session.voyage ≠ 0 := fun h0 => hi (h1.2 h0)
  have hoff : ¬ s.session.watch = true := fun ht => hd (h3.1 ht)
  exact ⟨iff_of_false hxi (hv ▸ hne), hv ▸ h2, iff_of_false (hw ▸ hoff) hxd⟩

/-- A mode entered through the withdrawal of waiting drops, with its notice (R111, R163). -/
theorem enterQuiet_lawful {m left entered : Mode} {x : Session} (h : Lawful b s (withSession { x with mode := m } u)) :
    Lawful b s (noticeMode left entered (enterQuiet m (withSession x u))) :=
  (h.trans (withdrawDrops_lawful (withSession { x with mode := m } u))).trans (notify_calm _ _).lawful

theorem openSession_lawful {n : Nat} (hm : s.mode = .idle) (h0 : n ≠ 0) (hn : n ≤ 65535) : Lawful b s (openSession n s) := by
  -- the counters and the list that a session begins with, then the session
  have hfresh : Lawful b s
      { s with
        carts := { s.carts with nextSerial := 1 }
        strays := { s.strays with recs := [], nextSerial := 1, lost := 0 } } :=
    { replies := rfl
      bounds := fun ⟨h1, h2, h3, h4, h5, h6, h7, _, h9⟩ => ⟨h1, h2, h3, h4, h5, h6, h7, Nat.zero_le _, h9⟩
      session := id
      strays := fun _ => ⟨Nat.zero_le _, .nil, nofun, Nat.le_refl 1, (by decide : 1 ≤ 65535), .nil⟩
      reports := id
      tags := id
      orders := id
      carts := fun _ _ h hk => ⟨h, hk⟩
      lines := fun h => ⟨h.1, h.2, h.3, h.4, h.5, h.6⟩ }
  refine enterQuiet_lawful
    (u := { s with
      carts := { s.carts with nextSerial := 1 }
      strays := { s.strays with recs := [], nextSerial := 1, lost := 0 } })
    (x := { s.session with voyage := n, clock := 0, secondStart := s.now }) (hfresh.trans ?_)
  refine withSession_lawful _ _ (fun h => ?_) (fun h _ => h.empty ?_) (fun h _ => h.none_dropping ?_)
  · obtain ⟨-, -, h3⟩ := h
    have hoff : ¬ s.session.watch = true := fun ht => by
      have := h3.1 ht
      rw [show s.session.mode = .idle from hm] at this
      cases this
    exact ⟨iff_of_false nofun h0, hn, iff_of_false hoff nofun⟩
  · change s.mode.orderless
    simp [Mode.orderless, hm]
  · change s.mode ∉ _
    simp [hm]

theorem closeChuteStaging_calm (s : State) : Calm b s (closeChuteStaging s) := .write

theorem closeRuleStaging_calm (s : State) : Calm b s (closeRuleStaging s) := .write

theorem beginShadow_lawful (hm : s.mode = .setup) : Lawful b s (beginShadow s) := by
  refine enterQuiet_lawful (u := closeChuteStaging s) (x := s.session) ((closeChuteStaging_calm s).lawful.trans ?_)
  refine withSession_lawful _ _ (fun h => ?_) (fun _ h => ?_) (fun h _ => h.none_dropping ?_)
  · exact SessionLaw.change (s := closeChuteStaging s) h (by change s.mode ≠ _; simp [hm]) (by change s.mode ≠ _; simp [hm])
      rfl rfl nofun nofun
  · simp [Mode.orderless] at h
  · change s.mode ∉ _
    simp [hm]

theorem Chute.unordered_queue (c : Chute) : c.unordered.queue = [] := Chute.fullTest_queue _

theorem endShadow_lawful (hm : s.mode = .shadow) : Lawful b s (endShadow s) := by
  have hs : (cancelAll s).session = s.session := by rw [cancelAll_eq]
  have hmode : (cancelAll s).mode = .shadow := (congrArg Session.mode hs).trans hm
  refine enterQuiet_lawful (u := cancelAll s) (x := (cancelAll s).session) ((cancelAll_lawful s).trans ?_)
  refine withSession_lawful _ _ (fun h => ?_) (fun _ _ => ?_) (fun h _ => h.none_dropping (by simp [hmode]))
  · exact SessionLaw.change h (by simp [hmode]) (by simp [hmode]) rfl rfl nofun nofun
  · rw [cancelAll_eq]
    intro c hc
    obtain ⟨d, -, rfl⟩ := List.mem_map.1 hc
    exact d.unordered_queue

theorem beginSort_lawful (hm : s.mode = .setup ∨ s.mode = .drained) : Lawful b s (beginSort s) := by
  have hi : s.mode ≠ .idle ∧ s.mode ≠ .draining := by rcases hm with hm | hm <;> simp [hm]
  refine Lawful.trans ?_ (notify_calm _ _).lawful
  refine ((closeChuteStaging_calm s).lawful.trans (closeRuleStaging_calm _).lawful).trans ?_
  refine withSession_lawful _ _ (fun h => ?_) (fun _ h => ?_) (fun _ h => ?_)
  · exact SessionLaw.change (s := closeRuleStaging (closeChuteStaging s)) h hi.1 hi.2 rfl rfl nofun nofun
  · simp [Mode.orderless] at h
  · simp at h

/-- The dropping of held requests does not see the drain watch. -/
theorem dropHeld_armWatch (s : State) : armWatch (dropHeld s) = dropHeld (armWatch s) := by
  have line : ∀ (s : State) (i : Nat), armWatch (dropHeldLine i s) = dropHeldLine i (armWatch s) := by
    intro s i
    unfold dropHeldLine
    rw [show (armWatch s).lines = s.lines from rfl]
    split <;> rfl
  have all : ∀ (l : List Nat) (s : State),
      armWatch (l.foldl (fun s i => dropHeldLine i s) s) = l.foldl (fun s i => dropHeldLine i s) (armWatch s) := by
    intro l
    induction l with
    | nil => exact fun _ => rfl
    | cons i l ih => exact fun s => by rw [List.foldl_cons, List.foldl_cons, ih, line]
  exact all _ s

theorem beginDrain_lawful (hm : s.mode = .sorting) : Lawful b s (beginDrain s) := by
  unfold beginDrain
  rw [dropHeld_armWatch]
  refine Lawful.trans ?_ (drainWatch_lawful _)
  refine Lawful.trans ?_ (notify_calm _ _).lawful
  refine Lawful.trans ?_ (dropHeld_lawful _)
  have hdrain : Lawful b (closeRuleStaging s) (withSession { s.session with mode := .draining, watch := true } (closeRuleStaging s)) := by
    refine withSession_lawful _ _ (fun h => ?_) (fun _ h => ?_) (fun _ h => ?_)
    · obtain ⟨h1, h2, -⟩ := h
      have hne : s.session.voyage ≠ 0 := fun h0 => by
        have := h1.2 h0
        rw [show (closeRuleStaging s).session.mode = .sorting from hm] at this
        cases this
      exact ⟨iff_of_false nofun hne, h2, iff_of_true rfl rfl⟩
    · simp [Mode.orderless] at h
    · simp at h
  exact (closeRuleStaging_calm s).lawful.trans hdrain

/-! ### Session close (R143, R171) -/

theorem cancelQueue_session (j : Nat) (s : State) : (cancelQueue j s).session = s.session := by
  cases hc : s.carts.chutes[j]? with
  | none =>
    have hc' : s.chute? j = none := hc
    unfold cancelQueue
    rw [hc']
  | some c => rw [cancelQueue_eq hc]

theorem closeOrDiscard_session (j : Nat) (c : Chute) (s : State) : (closeOrDiscard j c s).session = s.session := by
  unfold closeOrDiscard closeCart
  split
  · rfl
  · split
    · rfl
    · split <;> rfl

theorem closeChute_session (j : Nat) (c : Chute) (s : State) : (closeChute j c s).session = s.session := by
  have inUse : (closeInUse j c s).session = s.session := by
    unfold closeInUse
    rw [closeOrDiscard_session, cancelQueue_session]
    rfl
  unfold closeChute
  split
  · exact inUse
  · exact inUse
  · rfl
  · rfl
  · split
    · exact closeOrDiscard_session _ _ _
    · exact closeOrDiscard_session _ _ _
    all_goals rfl

theorem closeAtEnd_session (j : Nat) (s : State) : (closeAtEnd j s).session = s.session := by
  unfold closeAtEnd
  split
  · rfl
  · split
    · change (if _ then closeOrDiscard j _ s else s).session = _
      split
      · exact closeOrDiscard_session _ _ _
      · rfl
    · exact closeChute_session _ _ _

theorem closeAllChutes_session (s : State) : (closeAllChutes s).session = s.session := by
  have all : ∀ (l : List Nat) (s : State), (l.foldl (fun s j => closeAtEnd j s) s).session = s.session := by
    intro l
    induction l with
    | nil => exact fun _ => rfl
    | cons j l ih => exact fun s => by rw [List.foldl_cons, ih, closeAtEnd_session]
  exact all _ s

theorem closeSession_lawful (hm : s.mode = .setup ∨ s.mode = .drained) : Lawful b s (closeSession s) := by
  have hs : (closeManifest (closeAllChutes s)).session = s.session := closeAllChutes_session s
  have hmode : (closeManifest (closeAllChutes s)).mode = s.mode := congrArg Session.mode hs
  have hclose : Lawful b s (closeManifest (closeAllChutes s)) :=
    (closeAllChutes_lawful s).trans (withManifest_calm _ (closeAllChutes s)).lawful
  refine enterQuiet_lawful (hclose.trans (withSession_lawful _ _ (fun h => ?_) (fun h _ => h.empty ?_) (fun h _ => h.none_dropping ?_)))
  · obtain ⟨-, -, h3⟩ := h
    have hoff : ¬ (closeManifest (closeAllChutes s)).session.watch = true := fun ht => by
      have hd : (closeManifest (closeAllChutes s)).mode = .draining := h3.1 ht
      rw [hmode] at hd
      rcases hm with hm | hm <;> simp [hm] at hd
    exact ⟨iff_of_true rfl rfl, Nat.zero_le _, iff_of_false hoff nofun⟩
  · rcases hm with hm | hm <;> simp [Mode.orderless, hmode, hm]
  · rcases hm with hm | hm <;> simp [hmode, hm]

/-! ## A state with every tray, line, order and confirmation cleared (R25, R42, R115, R193, R196) -/

/-- What a reset leaves of the trays, the lines and the chutes. -/
structure Cleared (s t : State) : Prop where
  trays : ∀ (k : Nat) (x : Tray), t.trays[k]? = some x → x.state.loose ∧
    (x.tag = 0 ∨ (s.trays[k]? = some x ∧ x.state = .disabled))
  lines : ∀ l ∈ t.lines, l.state = .free ∧ l.mon = none
  carts : List.Forall₂ (fun c c' : Chute => c'.cart = c.cart) s.carts.chutes t.carts.chutes
  queues : s.OrderLaw → ∀ c ∈ t.carts.chutes, c.queue = []
  awaiting : s.ConfirmationLaw → ∀ c ∈ t.carts.chutes, c.awaiting = []

/-- Empty lists stand one to one with no tray. -/
theorem Assigned.of_empty {α : Type} {st : TrayState} {list : Chute → List α} {tray seq : α → Nat}
    (hl : ∀ c ∈ t.carts.chutes, list c = []) (ht : ∀ (k : Nat) (x : Tray), t.trays[k]? = some x → x.state ≠ st) :
    Assigned st list tray seq t where
  nodup j c hc := by
    rw [hl c (List.mem_of_getElem? hc)]
    exact .nil
  named j c hc a ha := by
    rw [hl c (List.mem_of_getElem? hc)] at ha
    cases ha
  listed k x hx hs := absurd hs (ht k x hx)

theorem State.LineLawAt.of_free (hl : ∀ l ∈ t.lines, l.state = .free ∧ l.mon = none)
    (ht : ∀ (k : Nat) (x : Tray), t.trays[k]? = some x → ¬ x.state.lined) : t.LineLawAt b where
  reserved i l k m n hi hs := by simp [(hl l (List.mem_of_getElem? hi)).1] at hs
  launched i l k m n hi hs := by simp [(hl l (List.mem_of_getElem? hi)).1] at hs
  watched i l m hi hm := by simp [(hl l (List.mem_of_getElem? hi)).2] at hm
  armed _ i l k m n hi hs := by simp [(hl l (List.mem_of_getElem? hi)).1] at hs
  ofReserved k x hx hs := absurd (.inl hs) (ht k x hx)
  ofLaunching k x hx hs := absurd (.inr hs) (ht k x hx)

theorem Cleared.tracked (h : Cleared s t) : Tracked b s t where
  tags ht := by
    intro i j x y hx hy h0 he
    have hx' := ((h.trays i x hx).2.resolve_left h0).1
    have hy' := ((h.trays j y hy).2.resolve_left (he ▸ h0)).1
    exact ht i j x y hx' hy' h0 he
  orders ho := (orderLaw_iff t).2
    ⟨.of_empty (h.queues ho) fun k x hx => (h.trays k x hx).1.2.1, fun _ => h.queues ho⟩
  carts _ _ hc hk := by
    have hno : ∀ (k : Nat) (x : Tray), t.trays[k]? = some x → x.state ≠ .dropping := fun k x hx => (h.trays k x hx).1.2.2
    refine ⟨(confirmationLaw_iff t).2 ⟨.of_empty (h.awaiting hc) hno, fun _ x hx => ?_⟩, (cartTagLaw_iff t).2 ?_⟩
    · obtain ⟨k, hkx⟩ := List.mem_iff_getElem?.1 hx
      exact hno k x hkx
    · obtain ⟨hw, ha, ho⟩ := (cartTagLaw_iff s).1 hk
      refine ⟨fun j c' hc' => ?_, fun i j c' d' hij hc' hd' => ?_, fun j k c' e x hc' he hx h0 heq => ?_⟩
      · obtain ⟨c, hcj, hcart⟩ := forall₂_get_right h.carts hc'
        exact hcart ▸ hw j c hcj
      · obtain ⟨c, hci, hcart⟩ := forall₂_get_right h.carts hc'
        obtain ⟨d, hdj, hcart'⟩ := forall₂_get_right h.carts hd'
        rw [hcart, hcart']
        exact ha i j c d hij hci hdj
      · -- the tag stands in a DISABLED tray, which no open entry of that tag allows
        obtain ⟨c, hcj, hcart⟩ := forall₂_get_right h.carts hc'
        obtain ⟨hsx, hdis⟩ := (h.trays k x hx).2.resolve_left (heq ▸ h0)
        obtain ⟨hst, -⟩ := ho j k c e x hcj (hcart ▸ he) hsx h0 heq
        simp [TrayState.dropped, hdis] at hst
  lines _ := .of_free h.lines fun k x hx => (h.trays k x hx).1.1

/-- An accepted loop table clears trays and lines in a mode that holds no order and no drop (R167, R193). -/
theorem applyLoop_lawful (a : LoopArg) (hm : s.mode = .idle ∨ s.mode = .setup) : Lawful b s (applyLoop a s) := by
  have hchutes : (applyLoop a s).carts.chutes = s.carts.chutes.map (fun c => { c with mon := none }) := rfl
  have horderless : s.mode.orderless ∧ s.mode ∉ [.sorting, .draining] := by
    rcases hm with hm | hm <;> simp [Mode.orderless, hm]
  refine Plain.lawful ?plain (Cleared.tracked ⟨fun k x hx => ?trays, fun l hl => ?lines, ?carts, fun ho c hc => ?queues, fun hcl c hc => ?awaiting⟩)
  case plain =>
    refine .write (t := applyLoop a s) (hchutes ▸ forall₂_map (fun _ => ⟨rfl, .inl⟩) _) (hb := ?_)
    rintro ⟨h1, h2, h3, h4, h5, h6, -, h8, h9⟩
    exact ⟨h1, h2, h3, (List.length_filter_le _ _).trans h4, h5, h6, .nil, h8, h9⟩
  case trays =>
    obtain rfl := (List.mem_replicate.1 (List.mem_of_getElem? (l := List.replicate a.trays (Tray.blank .empty)) hx)).2
    exact ⟨TrayState.loose_empty, .inl rfl⟩
  case lines =>
    rcases List.mem_append.1 (show l ∈ configuredLines a from hl) with hl | hl
    · obtain ⟨x, -, rfl⟩ := List.mem_map.1 hl
      exact ⟨rfl, rfl⟩
    · rw [(List.mem_replicate.1 hl).2]
      exact ⟨rfl, rfl⟩
  case carts =>
    exact hchutes ▸ forall₂_map (R := fun c c' : Chute => c'.cart = c.cart) (f := fun c => { c with mon := none }) (fun _ => rfl) _
  case queues =>
    obtain ⟨d, hd, rfl⟩ := List.mem_map.1 (hchutes ▸ hc)
    exact ho.empty horderless.1 d hd
  case awaiting =>
    obtain ⟨d, hd, rfl⟩ := List.mem_map.1 (hchutes ▸ hc)
    obtain ⟨j, hj⟩ := List.mem_iff_getElem?.1 hd
    refine List.eq_nil_iff_forall_not_mem.2 fun e he => ?_
    obtain ⟨x, hx, hxs, -⟩ := (hcl.1 j d hj).2 e he
    exact hcl.none_dropping horderless.2 x (List.mem_of_getElem? hx) hxs

/-! ## The line reset (R196) -/

theorem Tray.lineReset_loose (x : Tray) : x.lineReset.state.loose ∧ (x.lineReset.tag = 0 ∨ x.lineReset = x ∧ x.state = .disabled) := by
  unfold Tray.lineReset
  split
  · rename_i h
    exact ⟨h ▸ TrayState.loose_disabled, .inr ⟨rfl, h⟩⟩
  · exact ⟨TrayState.loose_empty, .inl rfl⟩

theorem irefsReset_nodup (s : State) : ∀ (is : List Nat) (l : List Iref), (l.map Iref.line).Nodup →
    ((is.foldl s.irefsReset l).map Iref.line).Nodup
  | [], _, h => h
  | i :: is, l, h => by
    refine irefsReset_nodup s is _ ?_
    unfold State.irefsReset
    split
    · exact placeIref_lines_nodup _ h
    · exact h

/-- The blocks that a line reset clears, before the tracker and the rebuild (R25, R42, R111, R115). -/
def resetTracks (s : State) : State := resetTrays (discardTimed (resetDrops (resetChutes (resetArch (resetLines s)))))

theorem resetTracks_lawful (s : State) : Lawful b s (resetTracks s) := by
  have hlines : (resetTracks s).lines = s.lines.map Line.reset := by
    change (resetLines s).lines = _
    rw [resetLines_eq]
  have hchutes : (resetTracks s).carts = { s.carts with chutes := s.carts.chutes.map Chute.lineReset } := by
    change { (resetLines s).carts with chutes := (resetLines s).carts.chutes.map Chute.lineReset } = _
    rw [resetLines_eq]
  have htrays : (resetTracks s).trays = s.trays.map Tray.lineReset := by
    change (resetLines s).trays.map Tray.lineReset = _
    rw [resetLines_eq]
  have hfree : ∀ c ∈ (resetTracks s).carts.chutes, c.queue = [] ∧ c.awaiting = [] := by
    rw [hchutes]
    intro c hc
    obtain ⟨d, -, rfl⟩ := List.mem_map.1 hc
    exact ⟨rfl, rfl⟩
  refine Plain.lawful ?plain (Cleared.tracked ⟨fun k x hx => ?trays, fun l hl => ?lines, ?carts, fun _ c hc => (hfree c hc).1, fun _ c hc => (hfree c hc).2⟩)
  case plain =>
    refine .write (t := resetTracks s) (hchutes ▸ forall₂_map (fun _ => ⟨rfl, .inl⟩) _) (by rw [hchutes]) (by rw [hchutes])
      ?_ ?_ ?_ ?_ ?_ ?_ fun hs => ?_
    · change (resetLines s).strays.recs = _
      rw [resetLines_eq]
    · change (resetLines s).strays.nextSerial = _
      rw [resetLines_eq]
    · change (resetLines s).session.mode = _
      rw [resetLines_eq]
    · change (resetLines s).session.voyage = _
      rw [resetLines_eq]
    · change (resetLines s).session.watch = _
      rw [resetLines_eq]
    · change (resetLines s).mgmt.replies = _
      rw [resetLines_eq]
    · obtain ⟨h1, h2, h3, h4, h5, h6, h7, h8, h9⟩ := hs
      have htiming : (resetTracks s).link.timing.length ≤ (resetLines s).link.timing.length :=
        (List.length_filter_le _ _).trans (List.length_filter_le _ _)
      unfold State.BoundLaw
      rw [show (resetTracks s).mgmt = (resetLines s).mgmt from rfl, show (resetTracks s).strays = (resetLines s).strays from rfl,
        show (resetTracks s).link.up = (resetLines s).link.up from rfl, show (resetTracks s).link.down = (resetLines s).link.down from rfl,
        show (resetTracks s).link.irefs = (resetLines s).link.irefs from rfl, hchutes]
      rw [resetLines_eq] at htiming ⊢
      exact ⟨h1, h2, h3, htiming.trans h4, h5, h6, irefsReset_nodup s _ _ h7, h8, h9⟩
  case trays =>
    rw [htrays, List.getElem?_map, Option.map_eq_some_iff] at hx
    obtain ⟨y, hy, rfl⟩ := hx
    obtain ⟨hl, h0 | ⟨he, hd⟩⟩ := y.lineReset_loose
    · exact ⟨hl, .inl h0⟩
    · exact ⟨hl, .inr ⟨he.symm ▸ hy, he.symm ▸ hd⟩⟩
  case lines =>
    rw [hlines] at hl
    obtain ⟨x, -, rfl⟩ := List.mem_map.1 hl
    exact ⟨rfl, rfl⟩
  case carts =>
    rw [hchutes]
    exact forall₂_map (R := fun c c' : Chute => c'.cart = c.cart) (f := Chute.lineReset) (fun _ => rfl) _

theorem lineReset_lawful (s : State) : Lawful b s (lineReset s) := by
  refine Lawful.trans ?_ (drainWatch_lawful _)
  refine Lawful.trans ?_ (releaseLatch_lawful _)
  refine (resetTracks_lawful s).trans ?_
  exact (withManifest_calm _ (resetTracks s)).lawful.trans (withTracker_calm _ _).lawful

/-! ## The chute table (R121, R122) -/

theorem installChutes_mem : ∀ (first : Nat) (cs : List ChuteArg) (c : Chute), c ∈ installChutes first cs →
    c.queue = [] ∧ c.awaiting = [] ∧ c.cart = [] ∧ c.report = .none ∧ c.hasCart = false
  | _, [], _, h => nomatch h
  | first, x :: rest, c, h => by
    rcases List.mem_cons.1 h with rfl | h
    · exact ⟨rfl, rfl, rfl, rfl, rfl⟩
    · exact installChutes_mem _ rest c h

theorem installChutes_length : ∀ (first : Nat) (cs : List ChuteArg), (installChutes first cs).length = cs.length
  | _, [] => rfl
  | _, _ :: rest => congrArg (· + 1) (installChutes_length _ rest)

/-- A table of at most 64 chutes is installed over one that holds no report, in a mode without orders and drops. -/
theorem installTable_lawful {cs : List ChuteArg} (hm : s.mode = .idle ∨ s.mode = .setup) (hlen : cs.length ≤ 64)
    (hidle : s.carts.chutes.any Chute.holdsTable = false) : Lawful b s (installTable cs s) := by
  have hrouted : s.OrderLaw → ∀ (k : Nat) (x : Tray), s.trays[k]? = some x → x.state ≠ .routed := by
    intro ho k x hx hs
    obtain ⟨j, c, -, hcj, o, hoc, -⟩ := ho.2.1 k x hx hs
    rw [ho.empty (by rcases hm with hm | hm <;> simp [Mode.orderless, hm]) c (List.mem_of_getElem? hcj)] at hoc
    cases hoc
  have hfresh := installChutes_mem 0 cs
  have hqueue : ∀ c ∈ installChutes 0 cs, c.queue = [] := fun c hc => (hfresh c hc).1
  have hawait : ∀ c ∈ installChutes 0 cs, c.awaiting = [] := fun c hc => (hfresh c hc).2.1
  have hcart : ∀ c ∈ installChutes 0 cs, c.cart = [] := fun c hc => (hfresh c hc).2.2.1
  have hreport : ∀ c ∈ s.carts.chutes, c.report = .none := by
    intro c hc
    have hno := List.any_eq_false.1 hidle c hc
    simp only [Chute.holdsTable, Bool.or_eq_true, not_or, bne_iff_ne, ne_eq, not_not] at hno
    exact hno.1.2
  exact
    { replies := rfl
      bounds := id
      session := id
      strays := id
      reports := by
        intro h
        obtain ⟨-, -, -, hlt, -⟩ := id h
        have hempty : s.carts.reports ++ s.carts.waiting = [] := by
          refine List.eq_nil_iff_forall_not_mem.2 fun r hr => ?_
          have hc : s.carts.chutes[r.chute]? = some (s.carts.chutes[r.chute]'(hlt r hr)) :=
            List.getElem?_eq_getElem (hlt r hr)
          exact (reportLaw_pending h hc).1 (hreport _ (List.getElem_mem _)) r hr rfl
        obtain ⟨hq, hw⟩ := List.append_eq_nil_iff.1 hempty
        refine ⟨hw ▸ Nat.zero_le 64, (installChutes_length 0 cs).symm ▸ hlen, ?_, ?_, fun j c hc => ?_⟩
        · change ((s.carts.reports ++ s.carts.waiting).map Report.chute).Nodup
          rw [hempty]
          exact .nil
        · change ∀ r ∈ s.carts.reports ++ s.carts.waiting, _
          rw [hempty]
          exact nofun
        · change (c.report = .queued ↔ ∃ r ∈ s.carts.reports, r.chute = j) ∧
            (c.report = .waiting ↔ ∃ r ∈ s.carts.waiting, r.chute = j) ∧ _
          obtain ⟨-, -, -, hr, hh⟩ := hfresh c (List.mem_of_getElem? hc)
          rw [hq, hw, hr, hh]
          simp
      tags := id
      orders := fun ho => (orderLaw_iff _).2 ⟨.of_empty hqueue (hrouted ho), fun _ => hqueue⟩
      carts := fun _ _ hc _ => by
        have hno := hc.none_dropping (by rcases hm with hm | hm <;> simp [hm])
        refine ⟨(confirmationLaw_iff _).2 ⟨.of_empty hawait fun k x hx => hno x (List.mem_of_getElem? hx), fun _ => hno⟩,
          (cartTagLaw_iff _).2 ⟨fun j c hc => ?_, fun i j c d _ hc _ e he => ?_, fun j k c e x hc he => ?_⟩⟩
        · rw [hcart c (List.mem_of_getElem? hc)]
          exact .nil
        · rw [hcart c (List.mem_of_getElem? hc)] at he
          cases he
        · rw [hcart c (List.mem_of_getElem? hc)] at he
          cases he
      lines := fun h => ⟨h.1, h.2, h.3, h.4, h.5, h.6⟩ }

end

end Sys2Proof.Machine
end

section
/-! # The Stray List through the fires that a manifest change sets off (R71, R107, R112, R156) -/

namespace Sys2Proof.Machine

open Sys2Proof

/-- A tag is the tag of a tray that an order names. -/
def State.Ordered (s : State) (tag : Nat) : Prop :=
  ∃ c ∈ s.carts.chutes, ∃ o ∈ c.queue, ∃ x : Tray, s.trays[o.tray]? = some x ∧ x.tag = tag

/-- What fires do to orders, trays and strays: orders leave, tags are cleared, and a record holds a nonzero tag that it held
before, or that of a tray that an order named. -/
structure StrayStep (s t : State) : Prop where
  queues : ∀ c' ∈ t.carts.chutes, ∀ o ∈ c'.queue, ∃ c ∈ s.carts.chutes, o ∈ c.queue
  trays : ∀ (k : Nat) (x' : Tray), t.trays[k]? = some x' → ∃ x, s.trays[k]? = some x ∧ (x'.tag = x.tag ∨ x'.tag = 0)
  recs : ∀ r' ∈ t.strays.recs, ∀ tag, tag ≠ 0 → r'.Bears tag →
    (∃ r ∈ s.strays.recs, r.serial = r'.serial ∧ r.Bears tag) ∨ s.Ordered tag

section
variable {s t u : State} {k j : Nat} {x : Tray} {c : Chute} {o : Order}

theorem StrayStep.ordered (h : StrayStep s t) {tag : Nat} (h0 : tag ≠ 0) (ho : t.Ordered tag) : s.Ordered tag := by
  obtain ⟨c', hc', o, ho, x', hx', rfl⟩ := ho
  obtain ⟨c, hc, hoc⟩ := h.queues c' hc' o ho
  obtain ⟨x, hx, ht⟩ := h.trays _ x' hx'
  exact ⟨c, hc, o, hoc, x, hx, (ht.resolve_right h0).symm⟩

theorem StrayStep.trans (h : StrayStep s t) (h' : StrayStep t u) : StrayStep s u where
  queues c'' hc'' o ho := by
    obtain ⟨c', hc', hoc'⟩ := h'.queues c'' hc'' o ho
    exact h.queues c' hc' o hoc'
  trays k x'' hx'' := by
    obtain ⟨x', hx', ht'⟩ := h'.trays k x'' hx''
    obtain ⟨x, hx, ht⟩ := h.trays k x' hx'
    refine ⟨x, hx, ht'.elim (fun he => he ▸ ht) .inr⟩
  recs r'' hr'' tag h0 hb := by
    rcases h'.recs r'' hr'' tag h0 hb with ⟨r', hr', hs', hb'⟩ | ho
    · rcases h.recs r' hr' tag h0 hb' with ⟨r, hr, hs, hb⟩ | ho
      · exact .inl ⟨r, hr, hs.trans hs', hb⟩
      · exact .inr ho
    · exact .inr (h.ordered h0 ho)

/-- A step that tells the Stray List nothing. -/
theorem StrayStep.of_quiet (hq : ∀ c' ∈ t.carts.chutes, ∀ o ∈ c'.queue, ∃ c ∈ s.carts.chutes, o ∈ c.queue)
    (ht : ∀ (k : Nat) (x' : Tray), t.trays[k]? = some x' → ∃ x, s.trays[k]? = some x ∧ (x'.tag = x.tag ∨ x'.tag = 0))
    (hr : t.strays = s.strays) : StrayStep s t :=
  ⟨hq, ht, fun r' hr' _ _ hb => .inl ⟨r', hr ▸ hr', rfl, hb⟩⟩

/-- A step that leaves the trays, the chutes and the strays. -/
theorem StrayStep.of_same (ht : t.trays = s.trays) (hc : t.carts.chutes = s.carts.chutes) (hr : t.strays = s.strays) :
    StrayStep s t :=
  .of_quiet (fun c' hc' _ ho => ⟨c', hc ▸ hc', ho⟩) (fun _ x' hx' => ⟨x', ht ▸ hx', .inl rfl⟩) hr

theorem StrayStep.refl (s : State) : StrayStep s s := .of_same rfl rfl rfl

theorem modifyChute_strayStep {f : Chute → Chute} (j : Nat) (s : State) (h : ∀ c, (f c).queue ⊆ c.queue) :
    StrayStep s (modifyChute j f s) := by
  refine .of_quiet (fun c' hc' o ho => ?_) (fun k x' hx' => ⟨x', hx', .inl rfl⟩) rfl
  rcases mem_modify hc' with hc' | ⟨c, hc, rfl⟩
  · exact ⟨c', hc', ho⟩
  · exact ⟨c, hc, h c ho⟩

theorem changeTray_strayStep {g : Tray → Tray} (k : Nat) (e : TrayState) (hg : ∀ x, (g x).tag = x.tag ∨ (g x).tag = 0) (s : State) :
    StrayStep s (changeTray k e g s) := by
  rcases changeTray_cases k e g s with ⟨x, hx, -, he⟩ | ⟨-, he⟩
  · have hput : StrayStep s (putTray k (g x) s) := by
      refine .of_quiet (fun c' hc' o ho => ⟨c', hc', ho⟩) (fun i x' hx' => ?_) rfl
      rw [show (putTray k (g x) s).trays = s.trays.set k (g x) from rfl, getElem?_set_of_get hx] at hx'
      split at hx'
      · rename_i hki
        cases hx'
        exact ⟨x, hki ▸ hx, hg x⟩
      · exact ⟨x', hx', .inl rfl⟩
    rw [he]
    unfold settleTray
    split
    · exact hput.trans (.of_same rfl rfl rfl)
    · exact hput
  · rw [he]
    exact .refl s

theorem Chute.leave_queue (k : Nat) (c : Chute) : (c.leave k).queue ⊆ c.queue := List.eraseP_subset

theorem missOrder_strayStep (j k : Nat) (s : State) : StrayStep s (missOrder j k s) := by
  refine StrayStep.trans ?_ (changeTray_strayStep k .routed (g := Tray.unroute) (fun _ => .inl rfl) _)
  refine modifyChute_strayStep j s fun c => ?_
  rw [Chute.fullTest_queue]
  exact c.leave_queue k

theorem shadowFire_strayStep (j k : Nat) (s : State) : StrayStep s (shadowFire j k s) := by
  refine StrayStep.trans ?_ (changeTray_strayStep k .routed (g := Tray.unroute) (fun _ => .inl rfl) _)
  refine modifyChute_strayStep j s fun c => ?_
  rw [Chute.fullTest_queue]
  exact c.leave_queue k

theorem fireRefused_strayStep (j k : Nat) (s : State) : StrayStep s (fireRefused j k s) := by
  refine StrayStep.trans ?_ (missOrder_strayStep j k _)
  exact .of_same rfl rfl rfl

theorem armHead_strayStep (j : Nat) (s : State) : StrayStep s (armHead j s) := by
  unfold armHead
  split
  · refine modifyChute_strayStep j s fun c => ?_
    split
    · exact fun _ h => h
    · exact fun _ h => h
  · exact .refl s

theorem expireOldest_strayStep (j : Nat) (s : State) : StrayStep s (expireOldest j s) := by
  unfold expireOldest
  split
  · exact .refl s
  · split
    · exact .refl s
    · refine StrayStep.trans ?_ (changeTray_strayStep _ .dropping (g := fun t => { t with state := .doubt }) (fun _ => .inl rfl) _)
      exact modifyChute_strayStep j s fun c _ h => h

theorem openConfirmation_strayStep (j k seq : Nat) (s : State) : StrayStep s (openConfirmation j k seq s) := by
  have append : ∀ s, StrayStep s (appendConfirmation j k seq s) := fun s => modifyChute_strayStep j s fun c _ h => h
  unfold openConfirmation
  split
  · exact .refl s
  · split
    · exact append s
    · exact (expireOldest_strayStep j s).trans (append _)

theorem enterDrop_strayStep (j k seq tag cabin : Nat) (s : State) : StrayStep s (enterDrop j k seq tag cabin s) := by
  have warn : ∀ s, StrayStep s (warnNearFull j s) := by
    intro s
    unfold warnNearFull
    split
    · exact .refl s
    · split
      · refine StrayStep.trans (modifyChute_strayStep j s fun c => ?_) (.of_same rfl rfl rfl)
        exact fun _ h => h
      · exact .refl s
  refine StrayStep.trans (StrayStep.trans ?_ (warn _)) (modifyChute_strayStep j _ fun c => by rw [Chute.fullTest_queue]; exact fun _ h => h)
  exact modifyChute_strayStep j s fun c _ h => h

theorem recordDrop_strayStep (j k seq tag cabin : Nat) (s : State) : StrayStep s (recordDrop j k seq tag cabin s) := by
  cases hc : s.carts.chutes[j]? with
  | none =>
    have hc' : s.chute? j = none := hc
    unfold recordDrop
    rw [hc']
    exact .refl s
  | some c =>
    rw [recordDrop_eq hc]
    split
    · exact enterDrop_strayStep _ _ _ _ _ _
    · exact (enterDrop_strayStep _ _ _ _ _ _).trans (openConfirmation_strayStep _ _ _ _)

theorem sendDrop_strayStep (j : Nat) (c : Chute) (o : Order) (x : Tray) (s : State) : StrayStep s (sendDrop j c o x s) := by
  refine StrayStep.trans (t := queueTimed _ _ s) (.of_same rfl rfl rfl) (modifyChute_strayStep j _ fun c => ?_)
  exact c.leave_queue o.tray

/-! ## The stray of a fire (R107, R148 to R151) -/

/-- A record of the list after a stray drop was one of the list before, or holds no tag but the drop's. -/
theorem recordStray_recs (d : StrayDrop) (s : State) : ∀ r' ∈ (recordStray d s).strays.recs, ∀ tag, tag ≠ 0 → r'.Bears tag →
    r' ∈ s.strays.recs ∨ tag = d.tag := by
  intro r' hr' tag h0 hb
  have stored : ∀ l : StrayList, l.recs ⊆ s.strays.recs → r' ∈ (l.store d s.session.clock).recs → r' ∈ s.strays.recs ∨ tag = d.tag := by
    intro l hl hr'
    rcases List.mem_append.1 (show r' ∈ l.recs ++ [d.record l.nextSerial s.session.clock] from hr') with hr' | hr'
    · exact .inl (hl hr')
    · rw [List.mem_singleton.1 hr'] at hb
      rcases hb with hb | hb
      · exact .inr hb.symm
      · exact absurd hb.symm h0
  unfold recordStray at hr'
  split at hr'
  · rcases updateFirst_cases (StrayRec.holds d.tag) (StrayRec.again d s.session.clock) s.strays.recs with
      ⟨he, -⟩ | ⟨before, r, after, hl, -, he⟩
    · exact .inl (he ▸ (show r' ∈ updateFirst _ _ _ from hr'))
    · have hm : r' ∈ before ++ r.again d s.session.clock :: after := he ▸ (show r' ∈ updateFirst _ _ _ from hr')
      rw [hl]
      rcases List.mem_append.1 hm with hm | hm
      · exact .inl (List.mem_append_left _ hm)
      · rcases List.mem_cons.1 hm with rfl | hm
        · exact .inr (StrayRec.again_bears h0 hb)
        · exact .inl (List.mem_append_right _ (List.mem_cons_of_mem _ hm))
  · split at hr'
    · exact stored s.strays (fun _ h => h) hr'
    · split at hr'
      · exact .inl hr'
      · exact stored { s.strays with recs := s.strays.recs.tail, lost := _ } (List.tail_subset _) hr'

/-- A fire hands the stray of a tray that an order names. -/
theorem StrayStep.handStray (h : StrayStep s u) {d : Option StrayDrop} (hd : ∀ e, d = some e → s.Ordered e.tag) :
    StrayStep s (handStray d u) := by
  cases d with
  | none => exact h
  | some d =>
    obtain ⟨l, m, he⟩ := recordStray_straysOnly d u
    have htrays : (recordStray d u).trays = u.trays := by rw [he]
    have hcarts : (recordStray d u).carts = u.carts := by rw [he]
    refine ⟨fun c' hc' => h.queues c' (hcarts ▸ hc'), fun k x' hx' => h.trays k x' (htrays ▸ hx'), fun r' hr' tag h0 hb => ?_⟩
    rcases recordStray_recs d u r' hr' tag h0 hb with hr | rfl
    · exact h.recs r' hr tag h0 hb
    · exact .inr (hd d rfl)

theorem Order.stray_tag {e : StrayDrop} (h : o.stray x j = some e) : e.tag = x.tag := by
  unfold Order.stray at h
  split at h
  · cases h
    rfl
  · cases h

theorem dropFire_strayStep (j : Nat) (c : Chute) (ho : ∃ d ∈ s.carts.chutes, o ∈ d.queue) : StrayStep s (dropFire j c o s) := by
  unfold dropFire
  split
  · rename_i x hx
    have stray : ∀ e, o.stray x j = some e → s.Ordered e.tag := by
      intro e he
      obtain ⟨d, hd, hod⟩ := ho
      exact ⟨d, hd, o, hod, x, hx, (Order.stray_tag he).symm⟩
    split
    · unfold fireWithoutEye
      refine StrayStep.trans (StrayStep.handStray ?_ stray) (changeTray_strayStep _ _ (fun _ => .inr rfl) _)
      exact (sendDrop_strayStep _ _ _ _ _).trans (recordDrop_strayStep _ _ _ _ _ _)
    · unfold fireWithEye
      refine StrayStep.handStray ?_ stray
      refine StrayStep.trans ?_ (recordDrop_strayStep _ _ _ _ _ _)
      exact (sendDrop_strayStep _ _ _ _ _).trans (changeTray_strayStep _ _ (g := Tray.drop c.serial) (fun _ => .inl rfl) _)
  · exact .refl s

theorem fireOrder_strayStep (j : Nat) (c : Chute) (ho : ∃ d ∈ s.carts.chutes, o ∈ d.queue) : StrayStep s (fireOrder j c o s) := by
  have fire : StrayStep s (if s.timingRoom then dropFire j c o s else fireRefused j o.tray s) := by
    split
    · exact dropFire_strayStep j c ho
    · exact fireRefused_strayStep _ _ _
  unfold fireOrder
  split
  · exact shadowFire_strayStep _ _ _
  · exact fire
  · exact fire
  all_goals exact missOrder_strayStep _ _ _

theorem strayStep_headParts : HeadParts StrayStep where
  refl := .refl
  trans := .trans
  disarm j s := modifyChute_strayStep j s fun _ _ h => h
  arm := armHead_strayStep
  miss _ _ := missOrder_strayStep _ _ _
  fire {j s c o} hc ho := by
    have disarm : StrayStep s (modifyChute j (fun c => { c with mon := none }) s) := modifyChute_strayStep j s fun _ _ h => h
    have hc' : s.carts.chutes[j]? = some c := hc
    have ho' : o ∈ c.queue := Chute.watched_mem ho
    refine disarm.trans (fireOrder_strayStep j c ⟨{ c with mon := none }, ?_, ho'⟩)
    refine List.mem_of_getElem? (i := j) ?_
    change (s.carts.chutes.modify j _)[j]? = _
    rw [List.getElem?_modify_eq, hc']
    rfl

/-! ## The record that SRES resolves (R71, R156) -/

/-- The records that hold a tag bear one serial. -/
def State.HeldBy (s : State) (tag serial : Nat) : Prop := ∀ r ∈ s.strays.recs, r.Bears tag → r.serial = serial

theorem StrayStep.heldBy (h : StrayStep s t) {tag serial : Nat} (h0 : tag ≠ 0) (hs : s.HeldBy tag serial) (ho : ¬ s.Ordered tag) :
    t.HeldBy tag serial := by
  intro r' hr' hb
  obtain ⟨r, hr, he, hrb⟩ := (h.recs r' hr' tag h0 hb).resolve_right ho
  exact he.symm.trans (hs r hr hrb)

/-- An order cancelled because of a tag leaves no order whose tray bears the tag. -/
theorem cancelTray_unordered (hT : s.TagLaw) (hO : s.OrderLaw) (hc : s.carts.chutes[j]? = some c) (ho : o ∈ c.queue)
    (hx : s.trays[o.tray]? = some x) (h0 : x.tag ≠ 0) :
    ¬ (cancelTray o.tray (modifyChute j (Chute.cancel o.tray) s)).Ordered x.tag := by
  have hcancel := cancelTray_lawful (b := True) hc ho
  have hxs : x.state = .routed := by
    obtain ⟨y, hy, hys, -⟩ := (hO.1 j c hc).2 o ho
    obtain rfl : x = y := Option.some.inj (hx.symm.trans hy)
    exact hys
  have hget : (cancelTray o.tray (modifyChute j (Chute.cancel o.tray) s)).trays[o.tray]? = some x.unroute := by
    rw [cancelTray_eq]
    change (s.trays.modify o.tray Tray.recirculated)[o.tray]? = _
    rw [List.getElem?_modify_eq, hx]
    exact congrArg some (x.recirculated_of_eq hxs)
  rintro ⟨d, hd, p, hp, y, hy, hyt⟩
  obtain ⟨i, hi⟩ := List.mem_iff_getElem?.1 hd
  have horders := hcancel.orders hO
  obtain ⟨z, hz, hzs, -⟩ := (horders.1 i d hi).2 p hp
  obtain rfl : y = z := Option.some.inj (hy.symm.trans hz)
  have hsame : p.tray = o.tray := hcancel.tags hT _ _ y x.unroute hy hget (hyt ▸ h0) hyt
  rw [hsame, hget] at hy
  cases hy
  simp [Tray.unroute] at hzs

theorem cancelTray_strays (k : Nat) (s : State) : (cancelTray k s).strays = s.strays := by rw [cancelTray_eq]

/-- A change of the manifest that is answered late tells the Stray List nothing. -/
theorem answerLate_strays (kind : ChangeKind) (k tag j serial seq : Nat) (s : State) :
    (answerLate kind k tag j serial seq s).strays = s.strays := rfl

theorem changeInCarts_strays (kind : ChangeKind) (tag : Nat) (s : State) : (changeInCarts kind tag s).strays = s.strays := by
  unfold changeInCarts
  split <;> rfl

/-- The fires that a change of a tag's entry sets off record no stray of that tag. -/
theorem manifestChange_heldBy (hT : s.TagLaw) (hO : s.OrderLaw) {tag serial : Nat} (h0 : tag ≠ 0) (hs : s.HeldBy tag serial)
    (kind : ChangeKind) : (manifestChange kind tag s).HeldBy tag serial := by
  have same : ∀ t : State, t.strays = s.strays → t.HeldBy tag serial := by
    intro t ht
    rwa [State.HeldBy, ht]
  unfold manifestChange
  split
  · exact same _ (changeInCarts_strays _ _ _)
  · rename_i k x hk
    obtain ⟨hx, rfl, -⟩ := trayOfTag_some hk
    split
    · unfold cancelOne
      split
      · exact hs
      · rename_i c hc
        split
        · rename_i hq
          obtain ⟨o, ho, hok⟩ := List.any_eq_true.1 hq
          obtain rfl := Order.isOf_iff.1 hok
          have hun := cancelTray_unordered hT hO hc ho hx h0
          have hheld := same (cancelTray o.tray (modifyChute (x.target.getD 0) (Chute.cancel o.tray) s)) (cancelTray_strays _ _)
          split
          · exact ((armHead_strayStep _ _).trans (strayStep_headParts.evalHead _ _ _)).heldBy h0 hheld hun
          · exact hheld
        · exact hs
    · exact same _ (answerLate_strays _ _ _ _ _ _ _)
    · exact same _ (answerLate_strays _ _ _ _ _ _ _)
    all_goals exact same _ (changeInCarts_strays _ _ _)

/-- A record resolved with a tag that no record of another serial holds (R156). -/
theorem resolveRecord_strayLaw {tag serial : Nat} (cabin : Nat) (h : s.StrayLaw) (hs : s.HeldBy tag serial) :
    (resolveRecord serial tag cabin s).StrayLaw := by
  rcases updateFirst_cases (fun r => r.serial == serial) (StrayRec.resolve tag cabin) s.strays.recs with
    ⟨he, -⟩ | ⟨before, r, after, hr, hp, he⟩
  · exact h.sublist (t := resolveRecord serial tag cabin s) (he ▸ .refl _) rfl
  · have hser : r.serial = serial := by simpa using hp
    refine h.change (t := resolveRecord serial tag cabin s) hr he rfl rfl fun tag' h0 hb => ?_
    rcases hb with hb | hb
    · exact .inl (.inl hb)
    · obtain rfl : tag = tag' := hb
      refine .inr fun x hx hxb => ?_
      have hnd := h.2.1
      rw [hr, List.map_append, List.map_cons, List.nodup_middle, List.nodup_cons, ← List.map_append] at hnd
      refine hnd.1 (List.mem_map.2 ⟨x, hx, ?_⟩)
      rw [hs x ?_ hxb, hser]
      rw [hr]
      rcases List.mem_append.1 hx with hx | hx
      · exact List.mem_append_left _ hx
      · exact List.mem_append_right _ (List.mem_cons_of_mem _ hx)

end

end Sys2Proof.Machine
end

section
/-! # The laws through every step (R24, R29, R100, R129, R133, R146, R161) -/

namespace Sys2Proof.Machine

open Sys2Proof

/-! ## What an event keeps -/

/-- What every event keeps; a stray resolved by SRES leans on the laws of the tags and of the orders. -/
structure Keeps (s t : State) : Prop where
  bounds : s.BoundLaw → t.BoundLaw
  session : s.SessionLaw → t.SessionLaw
  reports : s.ReportLaw → t.ReportLaw
  tags : s.TagLaw → t.TagLaw
  orders : s.OrderLaw → t.OrderLaw
  carts : s.TagLaw → s.OrderLaw → s.ConfirmationLaw → s.CartTagLaw → t.ConfirmationLaw ∧ t.CartTagLaw
  lines : s.LineLaw → t.LineLaw
  strays : s.TagLaw → s.OrderLaw → s.StrayLaw → t.StrayLaw

/-- What the owner of a request keeps: the laws, and the replies that wait. -/
structure Serves (s t : State) : Prop extends Keeps s t where
  replies : t.mgmt.replies = s.mgmt.replies

section
variable {s t u : State}

theorem Lawful.keeps (h : Lawful True s t) : Keeps s t where
  bounds := h.bounds
  session := h.session
  reports := h.reports
  tags := h.tags
  orders := h.orders
  carts := h.carts
  lines hs := (lineLaw_iff t).2 (h.lines ((lineLaw_iff s).1 hs))
  strays _ _ := h.strays

theorem Lawful.serves (h : Lawful True s t) : Serves s t := { h.keeps with replies := h.replies }

theorem Keeps.trans (h : Keeps s t) (k : Keeps t u) : Keeps s u where
  bounds := k.bounds ∘ h.bounds
  session := k.session ∘ h.session
  reports := k.reports ∘ h.reports
  tags := k.tags ∘ h.tags
  orders := k.orders ∘ h.orders
  carts ht ho hc hk := by
    obtain ⟨hc', hk'⟩ := h.carts ht ho hc hk
    exact k.carts (h.tags ht) (h.orders ho) hc' hk'
  lines := k.lines ∘ h.lines
  strays ht ho hs := k.strays (h.tags ht) (h.orders ho) (h.strays ht ho hs)

/-- A write of the Management Unit's values, the time, the queue of commands or the count of free values. -/
theorem Keeps.write (ht : t.trays = s.trays := by rfl) (hl : t.lines = s.lines := by rfl) (hc : t.carts = s.carts := by rfl)
    (hx : t.strays = s.strays := by rfl) (hm : t.session = s.session := by rfl)
    (hb : s.BoundLaw → t.BoundLaw := by exact id) : Keeps s t where
  bounds := hb
  session h := by rwa [State.SessionLaw, hm]
  reports h := by rwa [State.ReportLaw, hc]
  tags h := by rwa [State.TagLaw, ht]
  orders h := by rwa [State.OrderLaw, ht, hc, State.mode, hm]
  carts _ _ h k := by
    rw [State.ConfirmationLaw, State.CartTagLaw, ht, hc, State.mode, hm]
    exact ⟨h, k⟩
  lines h := by rwa [State.LineLaw, ht, hl]
  strays _ _ h := by rwa [State.StrayLaw, hx]

theorem Keeps.refl (s : State) : Keeps s s := .write

theorem done_keeps {f : State → State} (h : Keeps s (f s)) (he : done (f s) = .next t) : Keeps s t := by
  rw [done_eq, Host.Outcome.next.injEq] at he
  exact he ▸ h.trans (settle_calm (b := True) _).lawful.keeps

/-! ## Frames (R177 to R179) and the end of a transmission (R180 to R182) -/

theorem takeRequest_keeps (hdr : ReqHdr) (r : Request) (s : State) : Keeps s (takeRequest hdr r s) := by
  unfold takeRequest
  split
  · rename_i hq
    exact .write (hb := fun ⟨_, h2⟩ => ⟨by simpa [queueRequest] using hq, h2⟩)
  · split
    · rename_i hroom
      have hroom' : s.mgmt.replies.length < Config.repliesMax := by simpa [State.replyRoom] using hroom
      exact .write (hb := fun ⟨h1, _, h3⟩ => ⟨h1, by simpa [pushReply] using hroom', h3⟩)
    · exact .write

theorem fieldFrame_lawful (f : Frame) (s : State) : Lawful True s (fieldFrame f s) := by
  unfold fieldFrame
  split
  · exact brdyOp_lawful _ _ _
  · exact ldonOp_lawful _ _ _
  · exact tscnOp_lawful _ _ _
  · exact ceyeOp_lawful _ _ _
  · exact coutOp_lawful _ _ _
  · exact cinOp_lawful _ _ _
  · exact cfltOp_lawful _ _ _
  · exact cclrOp_lawful _ _ _
  · exact .refl _ _

theorem intake_keeps (p : PortId) (f : Frame) (s : State) : Keeps s (intake p f s) := by
  unfold intake
  split
  · cases p
    · exact (withLink_calm s).lawful.keeps
    · exact Lawful.keeps (.ite (fun _ => fieldFrame_lawful _ _) (fun _ => (withLink_calm s).lawful))
  · split
    · cases p
      · exact (withLink_calm s).lawful.keeps.trans (takeRequest_keeps _ _ _)
      · exact (withLink_calm s).lawful.keeps
    · exact (withLink_calm s).lawful.keeps

theorem decideFrame_keeps (p : PortId) (f : Frame) (s : State) : Keeps s (decideFrame p f s) := by
  unfold decideFrame
  split
  · exact (trainingReceived_lawful p s).keeps
  · split
    · exact .refl s
    · split
      · exact (withLink_calm s).lawful.keeps
      · split
        · exact intake_keeps p f s
        · split
          · exact (forwardTo_calm _ f s).lawful.keeps.trans (intake_keeps p f _)
          · exact (forwardTo_calm _ f s).lawful.keeps

theorem frameReceived_keeps (p : PortId) (r : Received) (s : State) : Keeps s (frameReceived p r s) := by
  unfold frameReceived
  split
  · exact .refl s
  · unfold receiveTraining
    split
    · exact .refl s
    · exact .refl s
    · split
      · exact (trainingReceived_lawful p s).keeps
      · exact .refl s
  · unfold receiveUp
    split
    · exact (modifyPort_calm p s).lawful.keeps
    · exact (modifyPort_calm p s).lawful.keeps
    · exact (modifyPort_calm p s).lawful.keeps.trans (decideFrame_keeps p _ _)

theorem leavePlace_keeps (cls : TxClass) (s : State) : Keeps s (leavePlace cls s) := by
  cases cls with
  | timing => exact (timedSent_lawful s).keeps
  | iref => exact (irefSent_calm s).lawful.keeps
  | cart => exact (cartFrameSent_lawful s).keeps
  | note => exact (noteSent_calm s).lawful.keeps
  | reply =>
    refine .write (hb := fun ⟨h1, h2, h3⟩ => ⟨h1, ?_, h3⟩)
    change s.mgmt.replies.tail.length ≤ _
    rw [List.length_tail]
    omega
  | training => exact .refl s
  | idle => exact .refl s
  | answer => exact .refl s
  | forward => exact .refl s

theorem frameSent_keeps (p : PortId) (s : State) : Keeps s (frameSent p s) := by
  unfold frameSent
  split
  · exact .refl s
  · rename_i x hx
    refine (modifyPort_calm p s fun y hy => ?_).lawful.keeps.trans (leavePlace_keeps _ _)
    unfold Port.sent
    dsimp only
    split
    · rw [List.length_tail]
      omega
    · exact hy

/-! ## Requests (R187, R188) -/

theorem dropRequest_keeps (s : State) : Keeps s (dropRequest s) := by
  refine .write (hb := fun ⟨h1, h2⟩ => ⟨?_, h2⟩)
  change s.mgmt.requests.tail.length ≤ _
  rw [List.length_tail]
  omega

/-- A reply joins the list that had room for it when the request's turn came. -/
theorem pushReply_keeps (hdr : ReqHdr) (r : Request) (x : Status) (d : List Datum) (hroom : s.replyRoom = true)
    (h : Serves (dropRequest s) u) : Keeps s (pushReply hdr r x d u) := by
  have hk := (dropRequest_keeps s).trans h.toKeeps
  refine ⟨fun hs => ?_, hk.session, hk.reports, hk.tags, hk.orders, hk.carts, hk.lines, hk.strays⟩
  obtain ⟨h1, -, h3⟩ := hk.bounds hs
  have hroom' : s.mgmt.replies.length < Config.repliesMax := by simpa [State.replyRoom] using hroom
  refine ⟨h1, ?_, h3⟩
  change (u.mgmt.replies ++ [_]).length ≤ _
  rw [List.length_append, h.replies]
  exact hroom'

theorem mayServe_room {hdr : ReqHdr} {r : Request} (h : s.mayServe hdr r = true) : s.replyRoom = true := by
  unfold State.mayServe at h
  rw [Bool.and_eq_true] at h
  exact h.1

/-- A served request keeps the laws if its owner does. -/
theorem serve_keeps {hdr : ReqHdr} {r : Request} {owner : State → Served} (ho : ∀ s, Serves s (owner s).state)
    (he : serve hdr r owner s = .next t) : Keeps s t := by
  rw [serve_eq, Host.Outcome.next.injEq] at he
  rw [← he]
  refine Keeps.trans ?_ (settle_calm (b := True) _).lawful.keeps
  split
  · rename_i hm
    exact pushReply_keeps _ _ _ _ (mayServe_room hm) (ho _)
  · exact .refl s

theorem serve_lawful {hdr : ReqHdr} {r : Request} {owner : State → Served} (ho : ∀ s, Lawful True s (owner s).state)
    (he : serve hdr r owner s = .next t) : Keeps s t := serve_keeps (fun s => (ho s).serves) he

/-! ### Modes (R163 to R171) -/

theorem serveOpen_lawful (arg : ModeOpenArg) (s : State) : Lawful True s (serveOpen arg s).state := by
  unfold serveOpen
  split
  · exact .refl _ _
  · split <;> exact .refl _ _
  · split
    · exact .refl _ _
    · rename_i hm
      split
      · exact .refl _ _
      · rename_i hn
        rw [not_or, Nat.not_lt] at hn
        exact openSession_lawful (not_not.1 hm) hn.1 hn.2

theorem serveShadow_lawful (s : State) : Lawful True s (serveShadow s).state := by
  unfold serveShadow
  split
  · exact .refl _ _
  · rename_i hm
    split
    · exact beginShadow_lawful (not_not.1 hm)
    · exact .refl _ _

theorem serveSetup_lawful (s : State) : Lawful True s (serveSetup s).state := by
  unfold serveSetup
  split
  · exact .refl _ _
  · rename_i hm
    exact endShadow_lawful (not_not.1 hm)

theorem serveSort_lawful (s : State) : Lawful True s (serveSort s).state := by
  unfold serveSort
  split
  · exact .refl _ _
  · rename_i hm
    split
    · exact beginSort_lawful (by tauto)
    · exact .refl _ _

theorem serveDrain_lawful (s : State) : Lawful True s (serveDrain s).state := by
  unfold serveDrain
  split
  · exact .refl _ _
  · rename_i hm
    exact beginDrain_lawful (not_not.1 hm)

theorem serveClose_lawful (s : State) : Lawful True s (serveClose s).state := by
  unfold serveClose
  split
  · exact .refl _ _
  · rename_i hm
    exact closeSession_lawful (by tauto)

theorem serveClrs_lawful (s : State) : Lawful True s (serveClrs s).state := by
  unfold serveClrs
  split
  · exact releaseLatch_lawful s
  · exact .refl _ _

/-! ### Trays (R26, R27) -/

theorem disableTray_lawful (k : Nat) (s : State) : Lawful True s (disableTray k s).state := by
  unfold disableTray
  split
  · exact .refl _ _
  · rename_i x hx
    split
    · rename_i hs
      exact (settleBlank_lawful hx (hs ▸ TrayState.loose_empty) TrayState.loose_disabled).trans (moveScan_lawful _ _)
    · split <;> exact .refl _ _

theorem enableTray_lawful (k : Nat) (s : State) : Lawful True s (enableTray k s).state := by
  unfold enableTray
  split
  · exact .refl _ _
  · rename_i x hx
    split
    · rename_i hs
      exact (settleBlank_lawful hx (hs ▸ TrayState.loose_disabled) TrayState.loose_empty).trans (freshArm_lawful _)
    · exact .refl _ _

theorem serveTcmdDisable_lawful (arg : ActionArg) (s : State) : Lawful True s (serveTcmdDisable arg s).state := by
  cases arg
  · exact disableTray_lawful _ _
  · exact .refl _ _
  · exact .refl _ _

/-! ### Tables (R82, R94 to R96, R121, R122, R192) -/

theorem tablesMode {m : Mode} (h : ¬ (m ≠ .idle ∧ m ≠ .setup)) : m = .idle ∨ m = .setup := by tauto

theorem serveLcfg_lawful (arg : Option LoopArg) (s : State) : Lawful True s (serveLcfg arg s).state := by
  unfold serveLcfg
  split
  · exact .refl _ _
  · rename_i hm
    split
    · exact .refl _ _
    · split
      · exact .refl _ _
      · split
        · exact .refl _ _
        · exact applyLoop_lawful _ (tablesMode hm)

theorem setChuteStaging_calm (cs : List ChuteArg) (s : State) : Calm True s (setChuteStaging cs s) := .write

theorem refuseInstall_lawful (x : Status) (n : Nat) (s : State) : Lawful True s (refuseInstall x n s).state := by
  unfold refuseInstall
  split
  · exact (setChuteStaging_calm _ _).lawful
  · exact .refl _ _

theorem installStaged_lawful {cs : List ChuteArg} (g : Geometry) (n : Nat) (hm : s.mode = .idle ∨ s.mode = .setup)
    (hlen : cs.length ≤ 64) : Lawful True s (installStaged g n cs s).state := by
  unfold installStaged
  split
  · exact refuseInstall_lawful _ _ _
  · rename_i hidle
    split
    · exact refuseInstall_lawful _ _ _
    · split
      · exact refuseInstall_lawful _ _ _
      · split
        · exact refuseInstall_lawful _ _ _
        · exact installTable_lawful hm hlen (Bool.eq_false_iff.2 hidle)

/-- A part that fits the staging list leaves at most 64 items in it (R94, R121). -/
theorem stagePart_length {α : Type} {first count final : Nat} {staged items : List α}
    (h : partOk first count final items.length = true) (hgap : partGap first staged ≠ true) :
    (stagePart first staged items).length ≤ 64 := by
  simp only [partOk, Bool.and_eq_true, decide_eq_true_eq, beq_iff_eq] at h
  simp only [partGap, Bool.and_eq_true, bne_iff_ne, ne_eq, not_and, not_not] at hgap
  unfold stagePart
  split
  · omega
  · rename_i h0
    rw [List.length_append, hgap h0]
    omega

theorem serveCcfg_lawful (arg : Option CcfgArg) (s : State) : Lawful True s (serveCcfg arg s).state := by
  unfold serveCcfg
  split
  · exact .refl _ _
  · rename_i hm
    split
    · exact .refl _ _
    · split
      · exact .refl _ _
      · unfold takeChutes
        split
        · exact .refl _ _
        · rename_i hpart
          split
          · exact .refl _ _
          · split
            · exact .refl _ _
            · rename_i hgap
              split
              · exact installStaged_lawful _ _ (tablesMode hm) (stagePart_length (by simpa using hpart) hgap)
              · exact (setChuteStaging_calm _ _).lawful

theorem serveZload_lawful (arg : Option (List Zone)) (s : State) : Lawful True s (serveZload arg s).state := by
  unfold serveZload
  split
  · exact .refl _ _
  · split
    · exact .refl _ _
    · split
      · exact (withRouter_calm _ _).lawful
      · exact .refl _ _

theorem serveRload_lawful (arg : Option RloadArg) (s : State) : Lawful True s (serveRload arg s).state := by
  unfold serveRload
  split
  · exact .refl _ _
  · split
    · exact .refl _ _
    · split
      · exact .refl _ _
      · split
        · exact .refl _ _
        · split
          · exact .refl _ _
          · unfold takeRules
            split
            · exact (withRouter_calm _ _).lawful
            · exact (withRouter_calm _ _).lawful

theorem serveRset_lawful (arg : Option RsetArg) (s : State) : Lawful True s (serveRset arg s).state := by
  unfold serveRset
  split
  · exact .refl _ _
  · split
    · exact .refl _ _
    · split
      · exact .refl _ _
      · split
        · exact .refl _ _
        · exact (withRouter_calm _ _).lawful

/-! ### Entries (R65 to R73) and strays (R154 to R157) -/

theorem handAmend_lawful (old new tag : Nat) (s : State) : Lawful True s (handAmend old new tag s) :=
  .ite (fun _ => .refl _ _) (fun _ => manifestChange_lawful _ _ _)

theorem insertEntry_calm {e : Entry} (h : insertEntry e s = some t) : Calm True s t := by
  unfold insertEntry at h
  obtain ⟨k, -, rfl⟩ := Option.map_eq_some_iff.1 h
  exact withManifest_calm _ _

theorem putOne_lawful (p : PutArg) (s : State) : Lawful True s (putOne p s).1 := by
  unfold putOne
  split
  · exact .refl _ _
  · split
    · exact (withManifest_calm _ _).lawful.trans (handAmend_lawful _ _ _ _)
    · split
      · exact (insertEntry_calm ‹_›).lawful
      · exact .refl _ _

theorem putAll_lawful : ∀ (l : List PutArg) (s : State), Lawful True s (putAll l s).1
  | [], s => .refl _ s
  | p :: rest, s => (putOne_lawful p s).trans (putAll_lawful rest _)

theorem serveMput_lawful (arg : Option MputArg) (s : State) : Lawful True s (serveMput arg s).state := by
  unfold serveMput
  split
  · split <;> exact .refl _ _
  · split
    · exact .refl _ _
    · split
      · exact .refl _ _
      · split
        · exact .refl _ _
        · exact putAll_lawful _ _

theorem deleteOne_lawful (tag : Nat) (s : State) : Lawful True s (deleteOne tag s).1 := by
  unfold deleteOne
  split
  · exact .refl _ _
  · split
    · exact (withManifest_calm _ _).lawful.trans (manifestChange_lawful _ _ _)
    · exact .refl _ _

theorem deleteAll_lawful : ∀ (l : List Nat) (s : State), Lawful True s (deleteAll l s).1
  | [], s => .refl _ s
  | n :: rest, s => (deleteOne_lawful n s).trans (deleteAll_lawful rest _)

theorem serveMdel_lawful (arg : Option MdelArg) (s : State) : Lawful True s (serveMdel arg s).state := by
  unfold serveMdel
  split
  · exact .refl _ _
  · split
    · exact .refl _ _
    · split
      · exact .refl _ _
      · exact deleteAll_lawful _ _

theorem holdTag_lawful (tag : Nat) (s : State) : Lawful True s (holdTag tag s).state := by
  unfold holdTag
  split
  · split
    · exact .refl _ _
    · exact (withManifest_calm _ _).lawful.trans (manifestChange_lawful _ _ _)
  · split
    · exact (insertEntry_calm ‹_›).lawful.trans (manifestChange_lawful _ _ _)
    · exact .refl _ _

theorem serveHold_lawful (arg : Option Nat) (s : State) : Lawful True s (serveHold arg s).state := by
  unfold serveHold
  split
  · exact .refl _ _
  · split
    · exact .refl _ _
    · split
      · exact holdTag_lawful _ _
      · exact .refl _ _

theorem serveRlse_lawful (arg : Option Nat) (s : State) : Lawful True s (serveRlse arg s).state := by
  unfold serveRlse
  split
  · exact .refl _ _
  · split
    · exact .refl _ _
    · split
      · unfold releaseTag
        split
        · exact (withManifest_calm _ _).lawful.trans (releaseStray_lawful _ _ _)
        · exact .refl _ _
      · exact .refl _ _

theorem serveFbld_lawful (s : State) : Lawful True s (serveFbld s).state := by
  unfold serveFbld
  split
  · exact .refl _ _
  · split
    · exact .refl _ _
    · exact (withManifest_calm _ _).lawful

theorem serveMget_state (arg : Option Nat) (s : State) : (serveMget arg s).state = s := by
  unfold serveMget
  split
  · rfl
  · split
    · rfl
    · split <;> rfl

theorem serveSrd_state (arg : Option SrdArg) (s : State) : (serveSrd arg s).state = s := by
  unfold serveSrd
  split
  · rfl
  · split
    · rfl
    · split <;> rfl

theorem serveSdel_lawful (arg : Option Nat) (s : State) : Lawful True s (serveSdel arg s).state := by
  unfold serveSdel
  split
  · exact .refl _ _
  · split
    · exact .refl _ _
    · split
      · exact withStrays_lawful (fun h => (List.eraseP_sublist.length_le).trans h) fun h => h.sublist List.eraseP_sublist rfl
      · exact .refl _ _

/-- A record resolved after a change that keeps the laws and lets no other record hold the tag. -/
theorem resolveRecord_serves {tag serial : Nat} (cabin : Nat) (h : Lawful True s u)
    (hheld : s.TagLaw → s.OrderLaw → u.HeldBy tag serial) : Serves s (resolveRecord serial tag cabin u) where
  bounds hs := BoundLaw.strays (by simp [updateFirst_length]) (h.bounds hs)
  session := h.session
  reports := h.reports
  tags := h.tags
  orders := h.orders
  carts := h.carts
  lines := h.keeps.lines
  strays ht ho hs := resolveRecord_strayLaw cabin (h.strays hs) (hheld ht ho)
  replies := h.replies

theorem heldBy_of_heldByOther {tag serial : Nat} (h0 : tag ≠ 0) (h : ¬ s.strays.heldByOther serial tag = true) :
    s.HeldBy tag serial := by
  intro r hr hb
  by_contra hne
  refine h (List.any_eq_true.2 ⟨r, hr, ?_⟩)
  rw [Bool.and_eq_true]
  exact ⟨by simpa using hne, StrayRec.holds_iff_bears.2 ⟨h0, hb⟩⟩

theorem resolveStray_serves (a : SresArg) (s : State) (h : ¬ s.strays.heldByOther a.serial a.tag = true) :
    Serves s (resolveStray a s).state := by
  have refl : Serves s s := (Lawful.refl True s).serves
  unfold resolveStray
  split
  · exact refl
  · split
    · exact refl
    · rename_i hok
      rw [not_or, Bool.not_eq_false] at hok
      have h0 : a.tag ≠ 0 := by
        have := hok.1
        simp only [tagOk, Bool.and_eq_true, decide_eq_true_eq] at this
        omega
      have hheld := heldBy_of_heldByOther h0 h
      split
      · rename_i key e _
        have hwith : Lawful True s (withManifest (s.manifest.amendAt key { e with cabin := a.cabin }) s) :=
          (withManifest_calm _ _).lawful
        refine resolveRecord_serves a.cabin (hwith.trans (handAmend_lawful _ _ _ _)) fun ht ho => ?_
        unfold handAmend
        split
        · exact hheld
        · exact manifestChange_heldBy (hwith.tags ht) (hwith.orders ho) h0 hheld _
      · split
        · rename_i u hu
          refine resolveRecord_serves a.cabin (insertEntry_calm hu).lawful fun _ _ => ?_
          have hsame : u.strays = s.strays := by
            unfold insertEntry at hu
            obtain ⟨k, -, rfl⟩ := Option.map_eq_some_iff.1 hu
            rfl
          rwa [State.HeldBy, hsame]
        · exact refl

theorem serveSres_serves (arg : Option SresArg) (s : State) : Serves s (serveSres arg s).state := by
  have refl : Serves s s := (Lawful.refl True s).serves
  unfold serveSres
  split
  · exact refl
  · split
    · exact refl
    · split
      · exact refl
      · split
        · exact refl
        · rename_i h
          exact resolveStray_serves _ s h

theorem serveCrd_state (arg : Option CrdArg) (s : State) : (serveCrd arg s).state = s := by
  unfold serveCrd
  split
  · rfl
  · split
    · rfl
    · split <;> rfl

theorem serveStat_state (arg : Option StatArg) (s : State) : (serveStat arg s).state = s := by
  unfold serveStat
  split
  · rfl
  · split <;> rfl

/-- A request that changes nothing but by its reply. -/
theorem Lawful.of_state (h : t = s) : Lawful True s t := h ▸ .refl _ _

/-! ## Time -/

theorem bucketScan_lawful (s : State) : Lawful True s (bucketScan s) := by
  have hscan : ∀ m, Lawful True s { s with manifest := m } := fun m => (withManifest_calm m s).lawful
  unfold bucketScan
  split
  · exact .refl _ _
  · split
    · exact hscan _
    · exact (hscan _).trans (notify_calm _ _).lawful

theorem clockTick_lawful (s : State) : Lawful True s (clockTick s) := Calm.lawful .write

theorem expireDue_lawful (j : Nat) (s : State) : Lawful True s (expireDue j s) := by
  unfold expireDue
  split
  · exact .refl _ _
  · exact .foldl (fun s _ => expireOldest_lawful j s) _ s

theorem whenDue_lawful (due : Bool) {event : State → State} (s : State) (h : Lawful True s (event s)) :
    Lawful True s (whenDue due event s) := .ite (fun _ => h) (fun _ => .refl _ _)

theorem portDue_lawful (p : PortId) (s : State) : Lawful True s (portDue p s) := by
  unfold portDue
  split
  · exact (whenDue_lawful _ s (linkTimeout_lawful p s)).trans (whenDue_lawful _ _ (idleSend_lawful p _))
  · exact whenDue_lawful _ s (holdoffEnd_lawful p s)
  · exact whenDue_lawful _ s (trainingSend_lawful p s)

theorem tick_lawful (s : State) : Lawful True s (tick s) := by
  have h0 : Lawful True s { s with now := s.now + 1 } := Calm.lawful .write
  refine Lawful.trans ?_ (settle_calm _).lawful
  refine Lawful.trans (Lawful.trans ?_ (portDue_lawful .up _)) (portDue_lawful .down _)
  refine Lawful.trans ?_ (Lawful.foldl (fun s j => expireDue_lawful j s) _ _)
  refine Lawful.trans ?_ (whenDue_lawful _ _ (clockTick_lawful _))
  exact (h0.trans (bucketScan_lawful _)).trans (whenDue_lawful _ _ (speedSample_lawful _))

/-- Power-on leaves every list and table empty. -/
theorem powerOn_keeps (straps : Nat) (s : State) :
    Keeps s { State.powerOn straps s.pins with free := s.free, pending := s.pending } := by
  obtain ⟨-, htags, -, hbounds, hsession, hreports, -, hcarts, horders, hconf, hlines, hstrays⟩ := lawsHoldAtReset
  exact ⟨fun _ => hbounds, fun _ => hsession, fun _ => hreports, fun _ => htags, fun _ => horders, fun _ _ _ _ => ⟨hconf, hcarts⟩,
    fun _ => hlines, fun _ _ _ => hstrays⟩

/-! ## Every step -/

theorem exec_keeps (c : Instr) (he : exec c s = .next t) : Keeps s t := by
  cases c with
  | encoderStep ph => exact done_keeps (encoderStep_lawful ph s).keeps he
  | homePulse => exact done_keeps (homePulse_lawful s).keeps he
  | stopLevelChange held => exact done_keeps (stopChange_lawful held s).keeps he
  | powerOnReset straps =>
    exact done_keeps (f := fun s => { State.powerOn straps s.pins with free := s.free, pending := s.pending })
      (powerOn_keeps straps s) he
  | speedSample => exact done_keeps (speedSample_lawful s).keeps he
  | sessionClockTick => exact done_keeps (clockTick_lawful s).keeps he
  | confirmationExpiry j => exact done_keeps (expireOldest_lawful j s).keeps he
  | bucketScan => exact done_keeps (bucketScan_lawful s).keeps he
  | frameReceived p broken bytes => exact done_keeps (frameReceived_keeps p _ s) he
  | trainingFrame p => exact done_keeps (trainingReceived_lawful p s).keeps he
  | idleFrame p => exact done_keeps (idleReceived_calm p s).lawful.keeps he
  | linkTimeout p => exact done_keeps (linkTimeout_lawful p s).keeps he
  | linkHoldoffEnd p => exact done_keeps (holdoffEnd_lawful p s).keeps he
  | trainingSend p => exact done_keeps (trainingSend_lawful p s).keeps he
  | idleSend p => exact done_keeps (idleSend_lawful p s).keeps he
  | downFrameTransmitted => exact done_keeps (frameSent_keeps .down s) he
  | upFrameTransmitted => exact done_keeps (frameSent_keeps .up s) he
  | brdy src x => exact done_keeps (brdyOp_lawful src x s).keeps he
  | ldon src x => exact done_keeps (ldonOp_lawful src x s).keeps he
  | tscn src x => exact done_keeps (tscnOp_lawful src x s).keeps he
  | ceye src x => exact done_keeps (ceyeOp_lawful src x s).keeps he
  | cout src x => exact done_keeps (coutOp_lawful src x s).keeps he
  | cin src x => exact done_keeps (cinOp_lawful src x s).keeps he
  | cflt src x => exact done_keeps (cfltOp_lawful src x s).keeps he
  | cclr src x => exact done_keeps (cclrOp_lawful src x s).keeps he
  | requestIntake hdr r => exact done_keeps (takeRequest_keeps hdr r s) he
  | stat hdr arg => exact serve_lawful (fun s => .of_state (serveStat_state arg s)) he
  | modeOpen hdr arg => exact serve_lawful (serveOpen_lawful arg) he
  | modeShadow hdr => exact serve_lawful serveShadow_lawful he
  | modeSetup hdr => exact serve_lawful serveSetup_lawful he
  | modeSort hdr => exact serve_lawful serveSort_lawful he
  | modeDrain hdr => exact serve_lawful serveDrain_lawful he
  | modeClose hdr => exact serve_lawful serveClose_lawful he
  | lcfg hdr arg => exact serve_lawful (serveLcfg_lawful arg) he
  | ccfg hdr arg => exact serve_lawful (serveCcfg_lawful arg) he
  | zload hdr arg => exact serve_lawful (serveZload_lawful arg) he
  | rload hdr arg => exact serve_lawful (serveRload_lawful arg) he
  | rset hdr arg => exact serve_lawful (serveRset_lawful arg) he
  | mput hdr arg => exact serve_lawful (serveMput_lawful arg) he
  | mdel hdr arg => exact serve_lawful (serveMdel_lawful arg) he
  | mget hdr arg => exact serve_lawful (fun s => .of_state (serveMget_state arg s)) he
  | hold hdr arg => exact serve_lawful (serveHold_lawful arg) he
  | rlse hdr arg => exact serve_lawful (serveRlse_lawful arg) he
  | fbld hdr => exact serve_lawful serveFbld_lawful he
  | ccmdOpen hdr arg => exact serve_lawful (serveCcmdOpen_lawful arg) he
  | ccmdClose hdr j => exact serve_lawful (fun s => commandChute_lawful j s fun _ hc => closeChute_lawful hc) he
  | ccmdForceClose hdr j => exact serve_lawful (fun s => commandChute_lawful j s fun _ hc => forceCommand_lawful hc) he
  | ccmdClearFault hdr j => exact serve_lawful (fun s => commandChute_lawful j s fun _ hc => clearFault_lawful hc) he
  | tcmdDisable hdr arg => exact serve_lawful (serveTcmdDisable_lawful arg) he
  | tcmdEnable hdr k => exact serve_lawful (enableTray_lawful k) he
  | crd hdr arg => exact serve_lawful (fun s => .of_state (serveCrd_state arg s)) he
  | srd hdr arg => exact serve_lawful (fun s => .of_state (serveSrd_state arg s)) he
  | sres hdr arg => exact serve_keeps (serveSres_serves arg) he
  | sdel hdr arg => exact serve_lawful (serveSdel_lawful arg) he
  | sstp hdr => exact serve_lawful (setLatch_lawful .sstp) he
  | clrs hdr => exact serve_lawful serveClrs_lawful he
  | lrst hdr =>
    refine done_keeps (f := fun s => if s.mayServe hdr .lrst then lineReset (pushReply hdr .lrst .done [] (dropRequest s)) else s)
      ?_ he
    split
    · rename_i hm
      exact (pushReply_keeps hdr .lrst .done [] (mayServe_room hm) (Lawful.refl True _).serves).trans (lineReset_lawful _).keeps
    · exact .refl s
  | bothPhasesChangeTogether => exact done_keeps (bothChange_lawful s).keeps he

theorem step_keeps (h : step s = .next t) : Keeps s t := by
  unfold step at h
  split at h
  · rw [Host.Outcome.next.injEq] at h
    exact h ▸ (tick_lawful s).keeps
  · refine Keeps.trans ?_ (exec_keeps _ h)
    exact .write

end

/-- Settles O21: every operation writes a tag only where it stands nowhere else, and every order, drop and cart entry moves with
its tray. -/
theorem tagLawIsKept : Obligations.TagLawIsKept := by
  unfold Obligations.TagLawIsKept
  intro s t h
  have hk := step_keeps h
  exact ⟨hk.tags, hk.carts⟩

/-- Settles O51: every operation keeps the limit of the list that it writes, every line changes with its tray and every report
with its chute; SRES resolves a record whose tag the fires of its own amend put in no other. -/
theorem queueAndSessionLawsAreKept : Obligations.QueueAndSessionLawsAreKept := by
  unfold Obligations.QueueAndSessionLawsAreKept
  intro s t h
  have hk := step_keeps h
  exact ⟨fun hb hs => ⟨hk.bounds hb, hk.session hs⟩, hk.reports, hk.lines, hk.strays⟩

end Sys2Proof.Machine
end

section
/-! # A TSCN dropped, and the tag set with its verdict (sections 3.2, 3.4 and 3.5) -/

namespace Sys2Proof.Machine

open Sys2Proof

/-! ## A TSCN dropped (R48, R179) -/

section
variable {src : Nat} {b : TscnBody} {s : State}

theorem takeTscn_rejected
    (h : ∀ g ∈ s.tracker.geo, src = g.archStation → b.tray < s.trays.length → b.occupancy ≠ 1 ∧ b.occupancy ≠ 2) :
    takeTscn src b s = rejectScan s := by
  unfold takeTscn
  cases hg : s.tracker.geo with
  | none => rfl
  | some g =>
    refine if_pos ?_
    by_cases hsrc : src = g.archStation
    · by_cases hk : b.tray < s.trays.length
      · exact .inr (.inr (h g hg hsrc hk))
      · exact .inr (.inl (Nat.le_of_not_lt hk))
    · exact .inl hsrc

theorem takeTscn_stale {g : Geometry} (hg : s.tracker.geo = some g) (hsrc : src = g.archStation)
    (hk : b.tray < s.trays.length) (hocc : b.occupancy = 1 ∨ b.occupancy = 2) (ho : s.arch.outstanding ≠ some b.tray) :
    takeTscn src b s = staleScan s := by
  have hvalid : ¬ (src ≠ g.archStation ∨ s.trays.length ≤ b.tray ∨ (b.occupancy ≠ 1 ∧ b.occupancy ≠ 2)) := by omega
  simp only [takeTscn, hg, if_neg hvalid, if_pos ho]

end

/-- Settles O22, by the two checks of R48 in their order. -/
theorem tscnDropped : Obligations.TscnDropped := by
  unfold Obligations.TscnDropped
  intro src b s
  refine ⟨fun hbad => ?rejected, fun g hg hsrc hk hocc ho => ?stale, fun bytes => ?short⟩
  case rejected => exact congrArg done (takeTscn_rejected hbad)
  case stale => exact congrArg done (takeTscn_stale hg hsrc hk hocc ho)
  case short => rfl

/-! ## The tag set (R55) -/

section
variable {set : List SetTag} {tag : Nat} {scanned : Bool} {read : List Nat}

/-- A source joins the tags of the set at their end, unless it is 0 or stands there. -/
theorem addTag_tags (set : List SetTag) (tag : Nat) (scanned : Bool) :
    (addTag set tag scanned).map SetTag.tag =
      if tag = 0 ∨ tag ∈ set.map SetTag.tag then set.map SetTag.tag else set.map SetTag.tag ++ [tag] := by
  have hany : set.any (fun x => x.tag == tag) = true ↔ tag ∈ set.map SetTag.tag := by simp
  unfold addTag
  simp only [hany]
  by_cases h0 : tag = 0
  · simp [h0]
  · by_cases hmem : tag ∈ set.map SetTag.tag
    · simp only [h0, hmem, if_true, if_false, or_true, List.map_map]
      refine List.map_congr_left fun x _ => ?_
      rw [Function.comp_apply]
      split <;> rfl
    · simp [h0, hmem]

/-- A set that holds the first appearances of the sources before holds those of one source more. -/
theorem addTag_firstAppearances {sources : List Nat}
    (h : set.map SetTag.tag = (sources.filter (fun x => x != 0)).eraseDups) :
    (addTag set tag scanned).map SetTag.tag = ((sources ++ [tag]).filter (fun x => x != 0)).eraseDups := by
  rw [addTag_tags, List.filter_append]
  by_cases h0 : tag = 0
  · simp [h0, h]
  · have htag : [tag].filter (fun x => x != 0) = [tag] := by simp [h0]
    rw [htag, List.eraseDups_append, ← h]
    by_cases hin : tag ∈ sources.filter (fun x => x != 0)
    · have hset : tag ∈ set.map SetTag.tag := by rwa [h, List.mem_eraseDups]
      rw [if_pos (.inr hset), List.removeAll, List.filter_cons_of_neg (by simpa using hin)]
      simp
    · have hset : tag ∉ set.map SetTag.tag := by rwa [h, List.mem_eraseDups]
      rw [if_neg (by tauto), List.removeAll, List.filter_cons_of_pos (by simp [hin]), List.filter_nil]
      rfl

/-- The tags of a set are not 0, and those that the scan read are marked. -/
def MarkedScanned (read : List Nat) (set : List SetTag) : Prop :=
  ∀ x ∈ set, x.tag ≠ 0 ∧ (x.scanned = true ↔ x.tag ∈ read)

theorem mem_addTag {x : SetTag} (h : x ∈ addTag set tag scanned) :
    (x ∈ set ∧ (tag = 0 ∨ x.tag ≠ tag)) ∨
      (tag ≠ 0 ∧ x.tag = tag ∧ ((∃ y ∈ set, y.tag = tag ∧ x.scanned = (y.scanned || scanned)) ∨ x.scanned = scanned)) := by
  unfold addTag at h
  split_ifs at h with h0 hany
  · exact .inl ⟨h, .inl h0⟩
  · obtain ⟨y, hy, rfl⟩ := List.mem_map.1 h
    split
    · rename_i ht
      exact .inr ⟨h0, ht, .inl ⟨y, hy, ht, rfl⟩⟩
    · rename_i ht
      exact .inl ⟨hy, .inr ht⟩
  · rcases List.mem_append.1 h with hx | hx
    · refine .inl ⟨hx, .inr fun ht => hany ?_⟩
      exact List.any_eq_true.2 ⟨x, hx, beq_iff_eq.2 ht⟩
    · obtain rfl := List.mem_singleton.1 hx
      exact .inr ⟨h0, rfl, .inr rfl⟩

/-- An induction tag or a stored tag joins before the scan has read any. -/
theorem addTag_marked_unread (h : MarkedScanned [] set) : MarkedScanned [] (addTag set tag false) := by
  intro x hx
  rcases mem_addTag hx with ⟨hx, -⟩ | ⟨h0, ht, ⟨y, hy, hyt, hxs⟩ | hxs⟩
  · exact h x hx
  · obtain ⟨-, hys⟩ := h y hy
    exact ⟨ht ▸ h0, by simp_all⟩
  · exact ⟨ht ▸ h0, by simp [hxs]⟩

/-- A tag that the scan read joins, or marks the equal tag that stands in the set. -/
theorem addTag_marked_read (h : MarkedScanned read set) : MarkedScanned (read ++ [tag]) (addTag set tag true) := by
  intro x hx
  rcases mem_addTag hx with ⟨hx, hne⟩ | ⟨h0, ht, hxs⟩
  · obtain ⟨hx0, hxs⟩ := h x hx
    refine ⟨hx0, ?_⟩
    have : x.tag ≠ tag := by
      rcases hne with rfl | hne
      · exact hx0
      · exact hne
    simp [hxs, this]
  · have : x.scanned = true := by
      rcases hxs with ⟨y, -, -, hy⟩ | hy
      · simp [hy]
      · exact hy
    exact ⟨ht ▸ h0, by simp [this, ht]⟩

theorem tagSet_tags (t1 t2 s1 s2 : Nat) :
    (tagSet t1 t2 s1 s2).map SetTag.tag = ([t1, t2, s1, s2].filter (fun x => x != 0)).eraseDups := by
  have h0 : ([] : List SetTag).map SetTag.tag = (([] : List Nat).filter (fun x => x != 0)).eraseDups := rfl
  exact addTag_firstAppearances (addTag_firstAppearances (addTag_firstAppearances (addTag_firstAppearances h0)))

theorem tagSet_marked (t1 t2 s1 s2 : Nat) : MarkedScanned [s1, s2] (tagSet t1 t2 s1 s2) := by
  have h0 : MarkedScanned [] [] := fun x hx => nomatch hx
  exact addTag_marked_read (addTag_marked_read (addTag_marked_unread (addTag_marked_unread h0)))

end

/-! ## The verdict (R56 to R58) -/

@[simp] theorem Lookup.entry_of (e : Entry) : (Lookup.of e).entry = some e := by
  unfold Lookup.of
  split_ifs <;> rfl

@[simp] theorem Lookup.entry_notOnManifest : Lookup.notOnManifest.entry = none := rfl

/-- The verdict of one tag whose entry is found (R57). -/
theorem readOne_of (tag : Nat) (e : Entry) :
    readOne tag (.of e) =
      { verdict :=
          if e.hold then .stray .screeningHold else if e.cabin = 0 then .stray .cabinUnassigned
          else .identified tag e.cabin e.group e.priority e.oversize
        tag := tag, tag2 := 0 } := by
  unfold Lookup.of
  split_ifs <;> rfl

section
variable {a b : SetTag} {la lb : Lookup} {ea eb : Entry}

/-- Two tags whose entries give one cabin that is assigned are one bag (R58). -/
theorem readTwo_bag (ha : la.entry = some ea) (hb : lb.entry = some eb) (hc : ea.cabin = eb.cabin) (h0 : ea.cabin ≠ 0) :
    readTwo a b la lb = readBag a b ea eb := by
  simp only [readTwo, ha, hb, if_pos (And.intro hc h0)]

/-- Two tags that are no one bag are in conflict (R58). -/
theorem readTwo_conflict (h : ∀ ea eb, la.entry = some ea → lb.entry = some eb → ea.cabin ≠ eb.cabin ∨ ea.cabin = 0) :
    readTwo a b la lb = .ofStray .tagConflict a.tag b.tag := by
  unfold readTwo
  split
  · rename_i ea eb ha hb
    have := h ea eb ha hb
    exact if_neg (by tauto)
  · rfl

end

section
variable {s : State} {lap : Nat} {set : List SetTag}

theorem reading_over {limit : Nat} (hl : s.arch.lapLimit = some limit) (h : limit < lap) :
    s.reading lap set = .ofStray .lapLimit ((set.head?.map SetTag.tag).getD 0) 0 :=
  if_pos (by simpa [State.overLimit, hl] using h)

theorem reading_within (h : ∀ limit ∈ s.arch.lapLimit, lap ≤ limit) : s.reading lap set = identify s.manifest set := by
  refine if_neg fun hover => ?_
  obtain ⟨limit, hl, hlt⟩ := (Option.any_eq_true _ _).1 hover
  exact absurd (h limit hl) (Nat.not_le_of_lt (of_decide_eq_true hlt))

end

/-- Settles O24: the tag set by its sources in turn, the verdict by the length of the set. -/
theorem verdictOfTags : Obligations.VerdictOfTags := by
  unfold Obligations.VerdictOfTags
  refine ⟨fun t1 t2 s1 s2 => ⟨tagSet_tags t1 t2 s1 s2, fun x hx => ?marked⟩,
    fun s lap a b c rest => ⟨fun limit set hl h => reading_over hl h, fun hlap => ?within⟩⟩
  case marked =>
    obtain ⟨-, hx⟩ := tagSet_marked t1 t2 s1 s2 x hx
    simpa using hx
  case within =>
    simp only [reading_within hlap]
    refine ⟨rfl, rfl, fun ha => ?absent, fun e ha => ?one, fun ea eb ha hb hc h0 => ?bag, fun h => ?conflict⟩
    case absent =>
      rw [identify, ha]
      rfl
    case one => rw [identify, ha, readOne_of]
    case bag =>
      have htwo : identify s.manifest [a, b] = readBag a b ea eb :=
        readTwo_bag (by rw [ha, Lookup.entry_of]) (by rw [hb, Lookup.entry_of]) hc h0
      rw [htwo, readBag]
      refine ⟨fun h => ?_, fun h h' => ?_, fun h h' hs => ?_, fun h h' hs hs' => ?_⟩
      · rw [if_pos h]
        rfl
      · rw [if_neg (by simp [h]), if_pos h']
        rfl
      · rw [if_neg (by simp [h]), if_neg (by simp [h']), if_pos (by simpa using hs)]
        rfl
      · rw [if_neg (by simp [h]), if_neg (by simp [h']), if_neg (by simp [hs, hs'])]
        rfl
    case conflict =>
      refine readTwo_conflict fun ea eb hea heb => ?_
      rcases h with h | h | ⟨fa, fb, ha, hb, hc⟩
      · simp [h] at hea
      · simp [h] at heb
      · rw [ha, Lookup.entry_of, Option.some.injEq] at hea
        rw [hb, Lookup.entry_of, Option.some.injEq] at heb
        rwa [← hea, ← heb]

end Sys2Proof.Machine
end

section
/-! # The link states of a port (sections 10.3 and 3.1) -/

namespace Sys2Proof.Machine

open Sys2Proof

section
variable {p : PortId} {s : State}

/-- A change of a port writes what it makes of the port as it stands. -/
theorem modifyPort_written (p : PortId) (f : Port → Port) (s : State) :
    modifyPort p f s = modifyPort p (fun _ => f (s.link.port p)) s := by
  cases p <;> rfl

theorem noticeLink_eq (p : PortId) (left entered : LinkState) (s : State) :
    noticeLink p left entered s =
      { s with
        mgmt :=
          s.mgmt.push
            (s.stamp
              { Notice.of .linkState with
                detail1 := if p = .up then 1 else 2, detail2 := (left.code : Nat), detail3 := (entered.code : Nat) }) } := by
  cases p <;> rfl

/-! ## What an event makes of a port in each link state (R175, R176, R184) -/

theorem trainingReceived_down (h : (s.link.port p).state = .down) : trainingReceived p s = s := by
  simp only [trainingReceived, State.port, h]

theorem trainingReceived_training (h : (s.link.port p).state = .training) :
    trainingReceived p s = onUp p (noticeLink p .training .up (modifyPort p (Port.enterUp s.now) s)) := by
  simp only [trainingReceived, State.port, h]

theorem trainingReceived_up (h : (s.link.port p).state = .up) :
    trainingReceived p s = modifyPort p (fun x => { x with lastValid := s.now, answer := true }) s := by
  simp only [trainingReceived, State.port, h]
  rfl

theorem idleReceived_up (h : (s.link.port p).state = .up) :
    idleReceived p s = modifyPort p (fun x => { x with lastValid := s.now }) s := by
  simp only [idleReceived, State.port, h]
  rfl

theorem idleReceived_not_up (h : (s.link.port p).state ≠ .up) : idleReceived p s = s := by
  unfold idleReceived State.port
  split
  · rfl
  · rfl
  · contradiction

theorem holdoffEnd_down (h : (s.link.port p).state = .down) :
    holdoffEnd p s = noticeLink p .down .training (modifyPort p (Port.enterTraining s.now) s) := by
  simp only [holdoffEnd, State.port, h]

theorem holdoffEnd_not_down (h : (s.link.port p).state ≠ .down) : holdoffEnd p s = s := by
  unfold holdoffEnd State.port
  split
  · contradiction
  · rfl
  · rfl

theorem trainingSend_training (h : (s.link.port p).state = .training) :
    trainingSend p s = modifyPort p (fun x => { x with trainFrom := s.now, trainDue := true }) s := by
  simp only [trainingSend, State.port, h]

theorem trainingSend_not_training (h : (s.link.port p).state ≠ .training) : trainingSend p s = s := by
  unfold trainingSend State.port
  split
  · contradiction
  · rfl
  · rfl

theorem nextFor_eq (p : PortId) (s : State) : s.nextFor p = if p = .up then s.nextUp else s.nextDown := by
  cases p <;> rfl

end

/-- Settles O53, event by event and link state by link state; what returns with the DOWN port is a fresh arming. -/
theorem linkStates : Obligations.LinkStates := by
  unfold Obligations.LinkStates
  rintro p s x put rfl hput
  have hwrite : ∀ f : Port → Port, modifyPort p f s = put (f (s.link.port p)) := by
    intro f
    rw [modifyPort_written, hput]
    cases p <;> rfl
  refine ⟨⟨trainingReceived p s, rfl, trainingReceived_down, fun h => ?answers, fun h => ⟨fun hp => ?hostUp, fun hp => ?fieldUp⟩⟩,
    ⟨idleReceived p s, rfl, fun h => ?heard, idleReceived_not_up⟩,
    ⟨holdoffEnd p s, rfl, holdoffEnd_not_down, fun h => ?trains⟩,
    ⟨trainingSend p s, rfl, trainingSend_not_training, fun h => ?due⟩,
    ⟨idleSend p s, rfl, fun h htx hn => ?idles, fun h => ?waits⟩⟩
  case answers => rw [trainingReceived_up h, hwrite]
  case hostUp =>
    subst hp
    rw [trainingReceived_training h, hwrite, noticeLink_eq, hput]
    rfl
  case fieldUp =>
    subst hp
    rintro u hu
    have hreturn : trainingReceived .down s = freshArm u := by
      rw [trainingReceived_training h, hwrite, noticeLink_eq, hu, hput]
      rfl
    rw [hreturn]
    exact ⟨freshArm_frame u, freshArm_freshlyArmed u⟩
  case heard => rw [idleReceived_up h, hwrite]
  case trains =>
    rw [holdoffEnd_down h, hwrite, noticeLink_eq, hput]
    rfl
  case due => rw [trainingSend_training h, hwrite]
  case idles =>
    rw [← nextFor_eq] at hn
    rw [idleSend, if_pos ⟨h, htx, hn⟩, hwrite]
    rfl
  case waits =>
    rw [← nextFor_eq] at h
    exact if_neg fun ⟨hup, htx, hn⟩ => by tauto

end Sys2Proof.Machine
end

section
/-! # A fire of the scan monitor and its run (sections 3.1 and 3.3) -/

namespace Sys2Proof.Machine

open Sys2Proof

/-! ## What a pass within a fire keeps of the arch and of the timing queue (R45, R50, R180)

A pass may route its tray, so that heads of the chutes' queues fire: their DROP frames join the timing queue behind the SCAN. -/

/-- The arch stands but for its tally of skipped passes; frames join the timing queue at its end, and none where it is full. -/
structure TimingJoined (s t : State) : Prop where
  arch : { t.arch with skipped := s.arch.skipped } = s.arch
  joins : s.link.timing <+: t.link.timing
  full : Config.timingMax ≤ s.link.timing.length → t.link.timing = s.link.timing

section
variable {s t u : State}

theorem TimingJoined.of_same (ha : t.arch = s.arch := by rfl) (hl : t.link = s.link := by rfl) : TimingJoined s t :=
  ⟨by rw [ha], by rw [hl], fun _ => by rw [hl]⟩

theorem TimingJoined.refl (s : State) : TimingJoined s s := .of_same

theorem TimingJoined.trans (h : TimingJoined s t) (h' : TimingJoined t u) : TimingJoined s u where
  arch := by
    have h1 := h.arch
    rw [← h'.arch] at h1
    exact h1
  joins := h.joins.trans h'.joins
  full hs := (h'.full (by rw [h.full hs]; exact hs)).trans (h.full hs)

theorem TimingJoined.outstanding (h : TimingJoined s t) : t.arch.outstanding = s.arch.outstanding :=
  (congrArg Arch.outstanding h.arch :)

theorem TimingJoined.sent (h : TimingJoined s t) : t.arch.sent = s.arch.sent := (congrArg Arch.sent h.arch :)

theorem TimingJoined.missed (h : TimingJoined s t) : t.arch.missed = s.arch.missed := (congrArg Arch.missed h.arch :)

theorem TimingJoined.replaced (h : TimingJoined s t) : t.arch.replaced = s.arch.replaced :=
  (congrArg Arch.replaced h.arch :)

theorem RouterOnly.timingJoined (h : RouterOnly s t) : TimingJoined s t := by
  obtain ⟨r, m, -, rfl⟩ := h
  exact .of_same

theorem StraysOnly.timingJoined (h : StraysOnly s t) : TimingJoined s t := by
  obtain ⟨l, m, rfl⟩ := h
  exact .of_same

theorem settleTray_timingJoined (k : Nat) (x : Tray) (s : State) : TimingJoined s (settleTray k x s) := by
  unfold settleTray
  split <;> exact .of_same

theorem changeTray_timingJoined (k : Nat) (e : TrayState) (f : Tray → Tray) (s : State) :
    TimingJoined s (changeTray k e f s) := by
  unfold changeTray
  split
  · split
    · exact settleTray_timingJoined _ _ _
    · exact .refl _
  · exact .refl _

theorem modifyChute_timingJoined (j : Nat) (f : Chute → Chute) (s : State) : TimingJoined s (modifyChute j f s) := .of_same

/-! ### A drop and its fire (R105 to R110, R128) -/

theorem expireOldest_timingJoined (j : Nat) (s : State) : TimingJoined s (expireOldest j s) := by
  unfold expireOldest
  split
  · exact .refl _
  · split
    · exact .refl _
    · exact (modifyChute_timingJoined _ _ _).trans (changeTray_timingJoined _ _ _ _)

theorem openConfirmation_timingJoined (j k seq : Nat) (s : State) : TimingJoined s (openConfirmation j k seq s) := by
  unfold openConfirmation
  split
  · exact .refl _
  · split
    · exact modifyChute_timingJoined _ _ _
    · exact (expireOldest_timingJoined _ _).trans (modifyChute_timingJoined _ _ _)

theorem warnNearFull_timingJoined (j : Nat) (s : State) : TimingJoined s (warnNearFull j s) := by
  unfold warnNearFull
  split
  · exact .refl _
  · split <;> exact .of_same

theorem recordDrop_timingJoined (j k seq tag cabin : Nat) (s : State) : TimingJoined s (recordDrop j k seq tag cabin s) := by
  have hentry : ∀ (f : Chute → Chute) (g : Chute → Chute),
      TimingJoined s (modifyChute j g (warnNearFull j (modifyChute j f s))) := fun f g =>
    ((modifyChute_timingJoined j f s).trans (warnNearFull_timingJoined _ _)).trans (modifyChute_timingJoined _ _ _)
  unfold recordDrop
  split
  · exact .refl _
  · dsimp only
    split
    · exact hentry _ _
    · exact (hentry _ _).trans (openConfirmation_timingJoined _ _ _ _)

theorem missOrder_timingJoined (j k : Nat) (s : State) : TimingJoined s (missOrder j k s) :=
  (modifyChute_timingJoined _ _ _).trans (changeTray_timingJoined _ _ _ _)

theorem fireRefused_timingJoined (j k : Nat) (s : State) : TimingJoined s (fireRefused j k s) := by
  refine TimingJoined.trans ?_ (missOrder_timingJoined _ _ _)
  exact .of_same

/-- A frame joins a timing queue that has room. -/
theorem queueTimed_timingJoined (h : s.timingRoom = true) (dst : Nat) (x : TimedBody) :
    TimingJoined s (queueTimed dst x s) where
  arch := rfl
  joins := List.prefix_append _ _
  full hfull := absurd (of_decide_eq_true h) (Nat.not_lt_of_le hfull)

theorem sendDrop_timingJoined (h : s.timingRoom = true) (j : Nat) (c : Chute) (o : Order) (x : Tray) :
    TimingJoined s (sendDrop j c o x s) :=
  (queueTimed_timingJoined h _ _).trans (modifyChute_timingJoined _ _ _)

theorem dropFire_timingJoined (h : s.timingRoom = true) (j : Nat) (c : Chute) (o : Order) :
    TimingJoined s (dropFire j c o s) := by
  unfold dropFire
  split
  · rename_i x _
    have hsend := sendDrop_timingJoined h j c o x
    split
    · exact ((hsend.trans (recordDrop_timingJoined _ _ _ _ _ _)).trans (handStray_straysOnly _ _).timingJoined).trans
        (changeTray_timingJoined _ _ _ _)
    · exact ((hsend.trans (changeTray_timingJoined _ _ _ _)).trans (recordDrop_timingJoined _ _ _ _ _ _)).trans
        (handStray_straysOnly _ _).timingJoined
  · exact .refl _

theorem fireOrder_timingJoined (j : Nat) (c : Chute) (o : Order) (s : State) : TimingJoined s (fireOrder j c o s) := by
  have hdrop : TimingJoined s (if s.timingRoom then dropFire j c o s else fireRefused j o.tray s) := by
    split
    · exact dropFire_timingJoined ‹_› _ _ _
    · exact fireRefused_timingJoined _ _ _
  unfold fireOrder
  split
  · exact (modifyChute_timingJoined _ _ _).trans (changeTray_timingJoined _ _ _ _)
  · exact hdrop
  · exact hdrop
  all_goals exact missOrder_timingJoined _ _ _

theorem armHead_timingJoined (j : Nat) (s : State) : TimingJoined s (armHead j s) := by
  unfold armHead
  split <;> exact .of_same

theorem timingJoined_headParts : HeadParts TimingJoined where
  refl := .refl
  trans := .trans
  disarm _ _ := modifyChute_timingJoined _ _ _
  arm _ _ := armHead_timingJoined _ _
  miss _ _ := missOrder_timingJoined _ _ _
  fire _ _ := (modifyChute_timingJoined _ _ _).trans (fireOrder_timingJoined _ _ _ _)

/-! ### A pass with UNKNOWN (R50 to R60, R101) -/

theorem applyRoute_timingJoined (k : Nat) (x : Tray) (route : Route) (s : State) : TimingJoined s (applyRoute k x route s) := by
  unfold applyRoute
  split
  · exact .of_same
  · rename_i j kind
    refine (tellDeck_straysOnly k x.tag j kind s).timingJoined.trans ?_
    unfold queueOrder
    split
    · exact .refl _
    · split
      · refine TimingJoined.trans ?_ (timingJoined_headParts.evalHead _ _ _)
        refine TimingJoined.trans ?_ (armHead_timingJoined _ _)
        exact .of_same
      · exact .of_same

theorem countLookups_timingJoined (lap : Nat) (set : List SetTag) (s : State) : TimingJoined s (countLookups lap set s) := by
  unfold countLookups
  split
  · exact .refl _
  · split <;> exact .of_same

theorem passBag_timingJoined (k lap : Nat) (source : Option Nat) (set : List SetTag) (s : State) :
    TimingJoined s (passBag k lap source set s) := by
  refine (countLookups_timingJoined lap set s).trans ?_
  unfold passBag handOn
  split
  · exact (resolveRoute_routerOnly _ _ _ _).timingJoined.trans (applyRoute_timingJoined _ _ _ _)
  · exact .of_same

theorem loadAtArch_timingJoined (k : Nat) (i : Option Nat) (s : State) : TimingJoined s (loadAtArch k i s) := by
  unfold loadAtArch freeLaunch
  split <;> exact .of_same

theorem passUnknown_timingJoined (k : Nat) (s : State) : TimingJoined s (passTray k .unknown 0 0 s) := by
  cases hx : s.trays[k]? with
  | none =>
    simp only [passTray, hx]
    exact .refl _
  | some x =>
    rw [passTray_of hx]
    split
    · exact .refl _
    · exact (loadAtArch_timingJoined _ _ _).trans (passBag_timingJoined _ _ _ _ _)
    · exact passBag_timingJoined _ _ _ _ _
    · exact passBag_timingJoined _ _ _ _ _
    · exact .refl _
    · exact ⟨rfl, List.prefix_refl _, fun _ => rfl⟩

end

/-! ## A fire (R45) -/

section
variable {s : State} {k : Nat}

/-- SCAN for tray k at the tail of the timing queue. -/
def State.scanQueued (s : State) (k : Nat) : State :=
  { s with
    link :=
      { s.link with timing := s.link.timing ++ [{ dst := s.archStation, body := .scan k, begun := false }] } }

/-- The outstanding scan given up: none is outstanding, and SCAN_REPLACED rises. -/
def State.scanReplaced (s : State) : State :=
  { s with arch := { s.arch with outstanding := none, replaced := satInc 65535 s.arch.replaced } }

theorem fireScan_room (h : s.link.timing.length < 16) : fireScan k s = markScan k (replaceScan (s.scanQueued k)) :=
  if_pos (decide_eq_true h)

theorem fireScan_full (h : 16 ≤ s.link.timing.length) : fireScan k s = missScan k s :=
  if_neg fun hroom => absurd (of_decide_eq_true hroom) (Nat.not_lt_of_le h)

theorem replaceScan_none (h : s.arch.outstanding = none) : replaceScan s = s := by
  unfold replaceScan
  rw [h]

theorem replaceScan_some {old : Nat} (h : s.arch.outstanding = some old) :
    replaceScan s = passTray old .unknown 0 0 s.scanReplaced := by
  unfold replaceScan
  rw [h]
  rfl

/-- A replacement takes SCAN_REPLACED up where a scan was outstanding, and leaves the tallies of the fire. -/
theorem replaceScan_kept (s : State) :
    s.link.timing <+: (replaceScan s).link.timing ∧ (replaceScan s).arch.sent = s.arch.sent ∧
      (replaceScan s).arch.missed = s.arch.missed ∧
      (replaceScan s).arch.replaced =
        if s.arch.outstanding.isSome then satInc 65535 s.arch.replaced else s.arch.replaced := by
  cases ho : s.arch.outstanding with
  | none =>
    rw [replaceScan_none ho]
    exact ⟨List.prefix_refl _, rfl, rfl, rfl⟩
  | some old =>
    have hpass := passUnknown_timingJoined old s.scanReplaced
    rw [replaceScan_some ho]
    exact ⟨hpass.joins, hpass.sent, hpass.missed, hpass.replaced⟩

end

/-! ## The run of the monitor after a decision (R45, R46) -/

section
variable {s : State} {g : Geometry} {m : Monitor} {k n start : Nat}

/-- The first tray after tray k that is in service is the following one. -/
theorem Following_of_followingTray (h : s.followingTray k = some n) : s.Following k n := by
  unfold State.followingTray at h
  rw [List.find?_map, Option.map_eq_some_iff] at h
  obtain ⟨i, hi, rfl⟩ := h
  obtain ⟨hin, hlt, hout⟩ := List.find?_range_eq_some.1 hi
  refine ⟨i, List.mem_range.1 hlt, rfl, ?_, fun h hh => ?_⟩
  · rwa [Function.comp_apply, Bool.not_eq_true', ← Bool.not_eq_true, trayDisabled_iff] at hin
  · have := hout h hh
    rwa [Function.comp_apply, Bool.not_not, trayDisabled_iff] at this

theorem armFollowing_ends (h : ∀ n, s.Following k n → n = start) : armFollowing start k s = disarmScan s := by
  unfold armFollowing
  split
  · rename_i n hn
    exact if_pos (h n (Following_of_followingTray hn))
  · rfl

theorem armFollowing_goes_on (hg : s.tracker.geo = some g) (h : s.Following k n) (hne : n ≠ start) :
    armFollowing start k s = s.scanArmed g n := by
  simp only [armFollowing, followingTray_of_Following h, if_neg hne, armScan_eq hg]

theorem runScan_disarmed (fuel adv start : Nat) (h : s.arch.mon = none) : runScan fuel adv start s = s := by
  cases fuel with
  | zero => rfl
  | succ fuel => simp only [runScan, h]

theorem runScan_stays (fuel start : Nat) {adv : Nat} (h : s.scanDecision adv = .stay) : runScan fuel adv start s = s := by
  cases fuel with
  | zero => rfl
  | succ fuel =>
    unfold runScan
    split
    · rfl
    · simp only [h]

/-- A monitor armed on a tray farther away than its lead stays armed at an evaluation without movement. -/
theorem scanDecision_scanArmed (hg : s.tracker.geo = some g) (h : (s.scanArmed g k).ScanStays g k) :
    (s.scanArmed g k).scanDecision 0 = .stay := by
  have hg' : (s.scanArmed g k).tracker.geo = some g := hg
  have hdecision : (s.scanArmed g k).scanDecision 0 =
      decideMonitor (g.evalApproach s.tracker.disp 0 k g.archLoc) (leadAt s.tracker.speed g.archDelay) g.centre := by
    rw [State.scanDecision, hg']
    rfl
  rw [hdecision, evalApproach_zero, decideMonitor_stay]
  exact h

/-- An evaluation that decides its tray goes on at the following one. -/
theorem evalScan_decided {adv : Nat} {w : State} (hm : s.arch.mon = some m) (hlen : 0 < s.trays.length)
    (h : (s.scanDecision adv = .fire ∧ w = fireScan m.tray s) ∨ (s.scanDecision adv = .miss ∧ w = missScan m.tray s)) :
    evalScan adv s = runScan (s.trays.length - 1) 0 m.tray (armFollowing m.tray m.tray w) := by
  obtain ⟨len, hlen⟩ := Nat.exists_eq_add_one.2 hlen
  rw [evalScan, hm]
  dsimp only
  rw [hlen, Nat.add_sub_cancel, runScan, hm]
  rcases h with ⟨hd, rfl⟩ | ⟨hd, rfl⟩ <;> simp only [hd]

end

/-- Settles O27: the fire by the room of the timing queue, the frames of the passes within it joining behind SCAN; then the
move of the monitor by the following tray. -/
theorem scanFired : Obligations.ScanFired := by
  unfold Obligations.ScanFired
  refine ⟨fun k s => ⟨fireScan_frame k s, fun hroom => ?sent, fun hfull => ?missed⟩, fun adv s w g m hg hm hlen =>
    ⟨evalScan_of_stay, fun hw => ?decided⟩⟩
  case sent =>
    obtain ⟨hjoins, hsent, hmissed, hreplaced⟩ := replaceScan_kept (s.scanQueued k)
    rw [fireScan_room hroom]
    refine ⟨hjoins, rfl, congrArg (satInc 65535) hsent, hmissed, hreplaced, fun u hu => ?_⟩
    obtain rfl : u = s.scanQueued k := hu
    refine ⟨fun ho => ?_, fun old w ho hw => ?_⟩
    · rw [replaceScan_none (s := s.scanQueued k) ho]
      rfl
    · obtain rfl : w = replaceScan (s.scanQueued k) := hw.trans (replaceScan_some (s := s.scanQueued k) ho).symm
      rw [markScan, hsent]
      rfl
  case missed =>
    have hpass := passUnknown_timingJoined k { s with arch := { s.arch with missed := satInc 65535 s.arch.missed } }
    rw [fireScan_full hfull]
    exact ⟨hpass.full hfull, hpass.outstanding, hpass.sent, hpass.missed, rfl⟩
  case decided =>
    have hkept : Kept s w := by
      rcases hw with ⟨-, rfl⟩ | ⟨-, rfl⟩
      · exact fireScan_frame _ _
      · exact missScan_frame _ _
    have hgw : w.tracker.geo = some g := (congrArg Tracker.geo hkept.tracker).trans hg
    rw [evalScan_decided hm hlen hw]
    refine ⟨fun hend => ?_, fun n hn hne => ?_⟩
    · rw [armFollowing_ends hend]
      exact runScan_disarmed _ _ _ rfl
    · rw [armFollowing_goes_on hgw hn hne]
      exact ⟨rfl, fun hstay => runScan_stays _ _ (scanDecision_scanArmed hgw hstay)⟩

end Sys2Proof.Machine
end

section
/-! # The tables of the Manifest Store: ways, tags and filter counters (sections 4.1 to 4.3) -/

namespace Sys2Proof.Machine

open Sys2Proof

/-! ## The sparse tables as lists of their pairs -/

section
variable {α : Type} {t : List (Nat × α)} {k : Nat} {a : α}

theorem Table.get_eq_none_iff : Table.get t k = none ↔ ∀ x ∈ t, x.1 ≠ k := by
  induction t with
  | nil => simp [Table.get]
  | cons x rest ih =>
    by_cases hk : x.1 = k
    · simp [Table.get, hk]
    · simp [Table.get, hk, ih]

/-- A key that is listed stands once before the table without it. -/
theorem Table.perm_cons_del : ∀ {t : List (Nat × α)}, Table.get t k = some a → t.Perm ((k, a) :: Table.del t k)
  | (k', v) :: rest, h => by
    by_cases hk : k' = k
    · obtain rfl : v = a := by simpa [Table.get, hk] using h
      simp [Table.del, hk]
    · have hrest : Table.get rest k = some a := by simpa [Table.get, hk] using h
      rw [Table.del, if_neg hk]
      exact ((Table.perm_cons_del hrest).cons _).trans (.swap _ _ _)

theorem Table.del_of_absent (h : Table.get t k = none) : Table.del t k = t := by
  induction t with
  | nil => rfl
  | cons x rest ih =>
    rw [Table.get_eq_none_iff, List.forall_mem_cons] at h
    rw [Table.del, if_neg h.1, ih (Table.get_eq_none_iff.2 h.2)]

/-- What a write lists beside its key is what the table without the key lists. -/
theorem Table.del_put (a : α) (h : Table.wf t) : Table.del (Table.put t k a) k = Table.del t k := by
  induction t with
  | nil => simp [Table.put, Table.del]
  | cons x rest ih =>
    obtain ⟨hx, hrest⟩ := List.pairwise_cons.1 h
    rcases Nat.lt_trichotomy k x.1 with hk | hk | hk
    · have habsent : Table.get (x :: rest) k = none :=
        Table.get_below fun y hy => by
          rcases List.mem_cons.1 hy with rfl | hy
          · exact hk
          · exact hk.trans (hx y hy)
      rw [Table.del_of_absent habsent, Table.put, if_pos hk, Table.del, if_pos rfl]
    · simp [Table.put, Table.del, hk]
    · simp [Table.put, Table.del, hk.ne, hk.ne', hk.not_gt, ih hrest]

theorem Table.put_perm (a : α) (h : Table.wf t) : (Table.put t k a).Perm ((k, a) :: Table.del t k) :=
  Table.del_put a h ▸ Table.perm_cons_del (Table.get_put_same t k a)

/-- The values read under distinct keys are those of the pairs listed under them. -/
theorem Table.filterMap_get_perm {keys : List Nat} (h : Table.wf t) (hk : keys.Nodup) :
    (keys.filterMap (Table.get t)).Perm ((t.filter (fun x => decide (x.1 ∈ keys))).map Prod.snd) := by
  have hpairs : (keys.filterMap fun k => (Table.get t k).map (Prod.mk k)).Perm (t.filter fun x => decide (x.1 ∈ keys)) := by
    refine (List.perm_ext_iff_of_nodup (hk.filterMap ?_) ?_).2 fun x => ?_
    · intro k k' x hx hx'
      obtain ⟨_, -, rfl⟩ := Option.mem_map.1 hx
      obtain ⟨_, -, heq⟩ := Option.mem_map.1 hx'
      exact (congrArg Prod.fst heq).symm
    · exact (h.imp fun hlt heq => Nat.ne_of_lt hlt (congrArg Prod.fst heq)).filter _
    · simp only [List.mem_filterMap, Option.map_eq_some_iff, List.mem_filter, decide_eq_true_eq]
      constructor
      · rintro ⟨k, hmem, v, hv, rfl⟩
        exact ⟨Table.mem_of_get hv, hmem⟩
      · rintro ⟨hx, hmem⟩
        exact ⟨x.1, hmem, x.2, Table.get_of_mem h hx, rfl⟩
  have := hpairs.map Prod.snd
  rw [List.map_filterMap] at this
  simpa [Function.comp_def] using this

end

/-! ## Filter counters (R63) -/

section
variable {f : List (Nat × Nat)}

theorem counterAt_le (h : FilterForm f) (cell : Nat) : counterAt f cell ≤ Config.counterMax := by
  unfold counterAt
  cases hc : Table.get f cell with
  | none => simp
  | some n => exact (h.2 _ (Table.mem_of_get hc)).2

theorem counterAt_countUp (f : List (Nat × Nat)) (cell c : Nat) :
    counterAt (countUp f cell) c =
      if c = cell then min Config.counterMax (counterAt f c + 1) else counterAt f c := by
  have hpos : min Config.counterMax (counterAt f cell + 1) ≠ 0 := by
    unfold Config.counterMax
    omega
  split
  · rename_i hc
    rw [hc, countUp, setCounter, if_neg hpos, counterAt, Table.get_put_same, Option.getD_some]
  · rename_i hc
    exact counterAt_setCounter_other f _ hc

theorem counterAt_countDown (h : Table.wf f) (cell c : Nat) :
    counterAt (countDown f cell) c =
      if c = cell ∧ counterAt f c < Config.counterMax then counterAt f c - 1 else counterAt f c := by
  unfold countDown
  by_cases hc : c = cell
  · subst hc
    by_cases hlt : counterAt f c < Config.counterMax
    · rw [if_pos hlt, if_pos ⟨rfl, hlt⟩, counterAt_setCounter_same _ _ h]
    · rw [if_neg hlt, if_neg (fun x => hlt x.2)]
  · refine Eq.trans ?_ (if_neg (fun x => hc x.1)).symm
    split
    · exact counterAt_setCounter_other f _ hc
    · rfl

/-- A run of counts up adds the entries of each cell, up to 15. -/
theorem counterAt_foldl_countUp (cell : Nat) : ∀ (l : List Entry) {f : List (Nat × Nat)}, FilterForm f →
    counterAt (l.foldl (fun f e => countUp f (cellOf e.tag)) f) cell =
      min Config.counterMax (counterAt f cell + (l.filter (fun e => cellOf e.tag == cell)).length)
  | [], f, h => (min_eq_right (counterAt_le h cell)).symm
  | e :: rest, f, h => by
    rw [List.foldl_cons, counterAt_foldl_countUp cell rest (filterForm_countUp _ h), counterAt_countUp]
    by_cases hc : cellOf e.tag = cell
    · simp only [hc, if_true, List.filter_cons, beq_self_eq_true, List.length_cons]
      omega
    · rw [if_neg (Ne.symm hc), List.filter_cons_of_neg (by simpa using hc)]

theorem filterForm_foldl_countUp (l : List Entry) (h : FilterForm f) :
    FilterForm (l.foldl (fun f e => countUp f (cellOf e.tag)) f) := by
  induction l generalizing f with
  | nil => exact h
  | cons e rest ih => exact ih (filterForm_countUp _ h)

end

/-! ## The ways of a bucket (R62) -/

section
variable {m : Manifest} {tag key : Nat} {e : Entry}

theorem mem_ways (key bucket : Nat) :
    key ∈ (List.range Config.ways).map (wayKey bucket) ↔ key / Config.ways = bucket := by
  simp only [List.mem_map, List.mem_range, wayKey, Config.ways]
  constructor
  · rintro ⟨w, hw, rfl⟩
    omega
  · rintro rfl
    exact ⟨key % 8, by omega, by omega⟩

theorem ways_nodup (bucket : Nat) : ((List.range Config.ways).map (wayKey bucket)).Nodup :=
  List.nodup_range.map fun _ _ h => Nat.add_left_cancel h

theorem bucketOf_lt (tag : Nat) : bucketOf tag < Config.buckets := Nat.mod_lt _ (by decide)

/-- A live entry stands under its key and bears the tag. -/
theorem Manifest.live_some (h : m.live tag = some (key, e)) :
    m.findKey tag = some key ∧ Table.get m.entries key = some e ∧ e.tag = tag := by
  obtain ⟨k, hk, hmap⟩ := Option.bind_eq_some_iff.1 h
  obtain ⟨x, hget, heq⟩ := Option.map_eq_some_iff.1 hmap
  obtain ⟨rfl, rfl⟩ := Prod.mk.inj heq
  have hp := List.find?_some hk
  rw [hget] at hp
  exact ⟨hk, hget, by simpa using hp⟩

/-- The bucket search finds a way only with an entry in it. -/
theorem Manifest.live_of_findKey (h : m.findKey tag = some key) : ∃ e, m.live tag = some (key, e) := by
  have hp := List.find?_some h
  obtain ⟨e, he, -⟩ := (Option.any_eq_true _ _).1 hp
  exact ⟨e, by simp [Manifest.live, h, he]⟩

theorem Manifest.live_none_iff_findKey : m.live tag = none ↔ m.findKey tag = none := by
  constructor
  · intro h
    cases hk : m.findKey tag with
    | none => rfl
    | some key =>
      obtain ⟨e, he⟩ := Manifest.live_of_findKey hk
      rw [h] at he
      cases he
  · intro h
    simp [Manifest.live, h]

theorem Manifest.find_eq_live (m : Manifest) (tag : Nat) : m.find tag = (m.live tag).map Prod.snd := by
  unfold Manifest.find Manifest.live
  cases m.findKey tag with
  | none => rfl
  | some key => simp

theorem Manifest.freeKey_some_iff :
    m.freeKey tag = some key ↔
      ∃ way, way < Config.ways ∧ key = wayKey (bucketOf tag) way ∧ Table.get m.entries key = none ∧
        ∀ w, w < way → Table.get m.entries (wayKey (bucketOf tag) w) ≠ none := by
  unfold Manifest.freeKey
  rw [List.find?_map, Option.map_eq_some_iff]
  simp only [List.find?_range_eq_some, List.mem_range, Function.comp_apply, Option.isNone_iff_eq_none,
    Bool.not_eq_true', Option.isNone_eq_false_iff, Option.isSome_iff_ne_none]
  constructor
  · rintro ⟨way, ⟨hfree, hway, hbefore⟩, rfl⟩
    exact ⟨way, hway, rfl, hfree, hbefore⟩
  · rintro ⟨way, hway, rfl, hfree, hbefore⟩
    exact ⟨way, ⟨hfree, hway, hbefore⟩, rfl⟩

end

end Sys2Proof.Machine
end

section
/-! # The law of the Manifest Store through its own operations (R61 to R63, R73 to R75, R77, R78) -/

namespace Sys2Proof.Machine

open Sys2Proof

/-! ## The law by the tags of the entries -/

/-- The tags of the live entries, in key order. -/
def Manifest.tags (m : Manifest) : List Nat := m.entries.map (fun x => x.2.tag)

/-- A counted tag: of this cell, its bucket below the limit. -/
def counted (limit cell tag : Nat) : Bool := cellOf tag == cell && decide (bucketOf tag < limit)

/-- What the law says of a running rebuild (R74, R75). -/
def Manifest.RebuildLaw (m : Manifest) (r : Rebuild) : Prop :=
  r.scanPoint < Config.buckets ∧ FilterForm r.fresh ∧ m.Counts r.fresh r.scanPoint

/-- An entry in a way of its tag's bucket, its tag in range (R61, R62). -/
def Placement (x : Nat × Entry) : Prop := x.1 / Config.ways = bucketOf x.2.tag ∧ tagOk x.2.tag = true

section
variable {m m' : Manifest} {f : List (Nat × Nat)} {limit tag key : Nat} {e : Entry}

theorem Manifest.cellCount_eq (m : Manifest) (limit cell : Nat) :
    m.cellCount limit cell = m.tags.countP (counted limit cell) := by
  rw [Manifest.cellCount, Manifest.tags, List.countP_map, List.countP_eq_length_filter]
  rfl

theorem Manifest.cellCount_perm (h : m'.tags.Perm m.tags) (limit cell : Nat) :
    m'.cellCount limit cell = m.cellCount limit cell := by
  rw [Manifest.cellCount_eq, Manifest.cellCount_eq, h.countP_eq]

/-- One tag more counts in its own cell, where its bucket is below the limit. -/
theorem Manifest.cellCount_cons (h : m'.tags.Perm (tag :: m.tags)) (limit cell : Nat) :
    m'.cellCount limit cell = m.cellCount limit cell + if counted limit cell tag then 1 else 0 := by
  rw [Manifest.cellCount_eq, Manifest.cellCount_eq, h.countP_eq, List.countP_cons]

theorem counted_iff (limit cell tag : Nat) : counted limit cell tag = true ↔ cell = cellOf tag ∧ bucketOf tag < limit := by
  rw [counted, Bool.and_eq_true, beq_iff_eq, decide_eq_true_eq, eq_comm]

theorem Manifest.Counts.perm (h : m.Counts f limit) (ht : m'.tags.Perm m.tags) : m'.Counts f limit := fun cell =>
  Manifest.cellCount_perm ht limit cell ▸ h cell

/-- An insert counts its cell up in a filter that counts its bucket. -/
theorem Manifest.Counts.up (h : m.Counts f limit) (ht : m'.tags.Perm (tag :: m.tags)) (hb : bucketOf tag < limit) :
    m'.Counts (countUp f (cellOf tag)) limit := by
  intro cell
  have hcell := h cell
  rw [counterAt_countUp, Manifest.cellCount_cons ht]
  by_cases hc : cell = cellOf tag
  · subst hc
    rw [if_pos rfl, if_pos ((counted_iff _ _ _).2 ⟨rfl, hb⟩)]
    omega
  · rwa [if_neg hc, if_neg (fun x => hc ((counted_iff _ _ _).1 x).1)]

/-- A removal counts its cell down in a filter that counts its bucket; a sticky counter stands. -/
theorem Manifest.Counts.down (hf : FilterForm f) (h : m.Counts f limit) (ht : m.tags.Perm (tag :: m'.tags))
    (hb : bucketOf tag < limit) : m'.Counts (countDown f (cellOf tag)) limit := by
  intro cell
  have hcell := h cell
  rw [Manifest.cellCount_cons ht] at hcell
  rw [counterAt_countDown hf.1]
  by_cases hc : cell = cellOf tag
  · subst hc
    rw [if_pos ((counted_iff _ _ _).2 ⟨rfl, hb⟩)] at hcell
    have := counterAt_le hf (cellOf tag)
    split <;> omega
  · rw [if_neg (fun x => hc ((counted_iff _ _ _).1 x).1)] at hcell
    rwa [if_neg (fun x => hc x.1)]

/-- A tag whose bucket a filter does not count changes none of its counts. -/
theorem Manifest.cellCount_uncounted (ht : m'.tags.Perm (tag :: m.tags)) (hb : ¬ bucketOf tag < limit) (cell : Nat) :
    m'.cellCount limit cell = m.cellCount limit cell := by
  rw [Manifest.cellCount_cons ht, if_neg fun x => hb ((counted_iff _ _ _).1 x).2, Nat.add_zero]

theorem Manifest.RebuildLaw.perm {r : Rebuild} (h : m.RebuildLaw r) (ht : m'.tags.Perm m.tags) : m'.RebuildLaw r := by
  obtain ⟨hpoint, hform, hcounts⟩ := h
  exact ⟨hpoint, hform, hcounts.perm ht⟩

theorem Manifest.RebuildLaw.up {r : Rebuild} (h : m.RebuildLaw r) (ht : m'.tags.Perm (tag :: m.tags)) :
    m'.RebuildLaw (r.change countUp tag) := by
  obtain ⟨hpoint, hform, hcounts⟩ := h
  unfold Rebuild.change
  split
  · rename_i hb
    exact ⟨hpoint, filterForm_countUp _ hform, hcounts.up ht hb⟩
  · rename_i hb
    exact ⟨hpoint, hform, fun cell => Manifest.cellCount_uncounted ht hb cell ▸ hcounts cell⟩

theorem Manifest.RebuildLaw.down {r : Rebuild} (h : m.RebuildLaw r) (ht : m.tags.Perm (tag :: m'.tags)) :
    m'.RebuildLaw (r.change countDown tag) := by
  obtain ⟨hpoint, hform, hcounts⟩ := h
  unfold Rebuild.change
  split
  · rename_i hb
    exact ⟨hpoint, filterForm_countDown _ hform, hcounts.down hform ht hb⟩
  · rename_i hb
    exact ⟨hpoint, hform, fun cell => Manifest.cellCount_uncounted ht hb cell ▸ hcounts cell⟩

/-- The law depends on the entries, the filter and the rebuild alone. -/
theorem Manifest.Law.congr (h : m.Law) (he : m'.entries = m.entries) (hf : m'.filter = m.filter)
    (hr : m'.rebuild = m.rebuild) : m'.Law := by
  unfold Manifest.Law Manifest.Counts Manifest.cellCount at h ⊢
  rwa [he, hf, hr]

/-! ## The ways that a search finds -/

/-- Every listed entry is found by its tag. -/
theorem Manifest.Law.live_of_mem (h : m.Law) (hx : (key, e) ∈ m.entries) : m.live e.tag = some (key, e) := by
  obtain ⟨hwf, -, htags, -⟩ := id h
  cases hl : m.live e.tag with
  | none =>
    have hnone : m.find e.tag = none := by rw [Manifest.find_eq_live, hl]; rfl
    exact absurd rfl (Manifest.find_none h hnone _ hx)
  | some x =>
    obtain ⟨k, e'⟩ := x
    obtain ⟨-, hget, htag⟩ := Manifest.live_some hl
    rw [List.inj_on_of_nodup_map htags (Table.mem_of_get hget) hx htag]

theorem Manifest.Law.live_none_iff (h : m.Law) : m.live tag = none ↔ ∀ x ∈ m.entries, x.2.tag ≠ tag := by
  constructor
  · rintro hl ⟨k, e⟩ hx rfl
    rw [h.live_of_mem hx] at hl
    cases hl
  · intro hx
    refine Option.eq_none_iff_forall_not_mem.2 fun ⟨k, e⟩ hl => ?_
    obtain ⟨-, hget, htag⟩ := Manifest.live_some hl
    exact hx _ (Table.mem_of_get hget) htag

/-- A way of the tag's bucket. -/
theorem Manifest.freeKey_way (h : m.freeKey tag = some key) :
    key / Config.ways = bucketOf tag ∧ Table.get m.entries key = none := by
  obtain ⟨way, hway, rfl, hfree, -⟩ := Manifest.freeKey_some_iff.1 h
  exact ⟨(mem_ways _ _).1 (List.mem_map.2 ⟨way, List.mem_range.2 hway, rfl⟩), hfree⟩

/-! ## Insert, removal and amend (R61 to R63, R75) -/

theorem Manifest.insertAt_tags (h : m.Law) (hfree : Table.get m.entries key = none) (e : Entry) :
    (m.insertAt key e).tags.Perm (e.tag :: m.tags) :=
  (Table.del_of_absent hfree ▸ Table.put_perm e h.1).map fun x : Nat × Entry => x.2.tag

theorem Manifest.removeAt_tags (hget : Table.get m.entries key = some e) (tag : Nat) :
    m.tags.Perm (e.tag :: (m.removeAt key tag).tags) := (Table.perm_cons_del hget).map fun x : Nat × Entry => x.2.tag

theorem Manifest.amendAt_tags {e' : Entry} (h : m.Law) (hget : Table.get m.entries key = some e) (htag : e'.tag = e.tag) :
    (m.amendAt key e').tags.Perm m.tags := by
  have hput := (Table.put_perm (k := key) e' h.1).map fun x : Nat × Entry => x.2.tag
  rw [List.map_cons, htag] at hput
  exact hput.trans ((Table.perm_cons_del hget).map fun x : Nat × Entry => x.2.tag).symm

/-- What a written table holds meets a condition that the value written and every value before it meet. -/
theorem Table.forall_mem_put {α : Type} {P : Nat × α → Prop} {t : List (Nat × α)} {k : Nat} {a : α} (ha : P (k, a))
    (ht : ∀ x ∈ t, P x) : ∀ x ∈ Table.put t k a, P x := fun x hx =>
  (Table.mem_put hx).elim (fun h => h ▸ ha) (ht x)

theorem Manifest.Law.insertAt (h : m.Law) (hfree : Table.get m.entries key = none)
    (hway : key / Config.ways = bucketOf e.tag) (hok : tagOk e.tag = true) (hnew : ∀ x ∈ m.entries, x.2.tag ≠ e.tag) :
    (m.insertAt key e).Law := by
  have htags := Manifest.insertAt_tags h hfree e
  obtain ⟨hwf, hplaced, hnodup, hform, hcounts, hrebuild⟩ := h
  refine ⟨Table.wf_put _ _ hwf, Table.forall_mem_put (P := Placement) ⟨hway, hok⟩ hplaced, ?tags,
    filterForm_countUp _ hform, hcounts.up htags (bucketOf_lt _), fun r' hr' => ?rebuild⟩
  case tags =>
    refine htags.nodup_iff.2 (List.nodup_cons.2 ⟨fun hmem => ?_, hnodup⟩)
    obtain ⟨x, hx, htag⟩ := List.mem_map.1 hmem
    exact hnew x hx htag
  case rebuild =>
    obtain ⟨r, hr, rfl⟩ := Option.mem_map.1 hr'
    exact Manifest.RebuildLaw.up (hrebuild r hr) htags

theorem Manifest.Law.removeAt (h : m.Law) (hget : Table.get m.entries key = some e) : (m.removeAt key e.tag).Law := by
  have htags := Manifest.removeAt_tags hget e.tag
  obtain ⟨hwf, hplaced, hnodup, hform, hcounts, hrebuild⟩ := h
  refine ⟨Table.wf_del _ hwf, fun x hx => hplaced x (Table.mem_del hx), (List.nodup_cons.1 (htags.nodup_iff.1 hnodup)).2,
    filterForm_countDown _ hform, hcounts.down hform htags (bucketOf_lt _), fun r' hr' => ?_⟩
  obtain ⟨r, hr, rfl⟩ := Option.mem_map.1 hr'
  exact Manifest.RebuildLaw.down (hrebuild r hr) htags

theorem Manifest.Law.amendAt {e' : Entry} (h : m.Law) (hget : Table.get m.entries key = some e) (htag : e'.tag = e.tag) :
    (m.amendAt key e').Law := by
  have htags := Manifest.amendAt_tags h hget htag
  obtain ⟨hwf, hplaced, hnodup, hform, hcounts, hrebuild⟩ := h
  have hwritten : Placement (key, e') := by
    unfold Placement
    rw [htag]
    exact hplaced _ (Table.mem_of_get hget)
  exact ⟨Table.wf_put _ _ hwf, Table.forall_mem_put hwritten hplaced, htags.nodup_iff.2 hnodup, hform, hcounts.perm htags,
    fun r hr => Manifest.RebuildLaw.perm (hrebuild r hr) htags⟩

/-! ## Bucket scans (R74, R77) -/

/-- The live entries of a bucket are those whose tags lie in it. -/
theorem Manifest.Law.bucket_tags (h : m.Law) (b : Nat) :
    ((m.bucket b).map Entry.tag).Perm (m.tags.filter (fun tag => bucketOf tag == b)) := by
  obtain ⟨hwf, hplaced, -⟩ := h
  have hperm := (Table.filterMap_get_perm hwf (ways_nodup b)).map Entry.tag
  rw [List.filterMap_map] at hperm
  have hsame : m.entries.filter (fun x => decide (x.1 ∈ (List.range Config.ways).map (wayKey b))) =
      m.entries.filter ((fun tag => bucketOf tag == b) ∘ fun x => x.2.tag) :=
    List.filter_congr fun x hx => by simp only [mem_ways, (hplaced x hx).1, Function.comp_apply, beq_eq_decide]
  rw [hsame, List.map_map] at hperm
  rw [Manifest.tags, List.filter_map]
  exact hperm

theorem counted_succ (limit cell tag : Nat) :
    (if counted (limit + 1) cell tag then 1 else 0) =
      (if counted limit cell tag then 1 else 0) + if bucketOf tag = limit ∧ cellOf tag = cell then 1 else 0 := by
  by_cases hc : cellOf tag = cell
  · rcases Nat.lt_trichotomy (bucketOf tag) limit with hb | hb | hb
    · simp [counted, hc, hb, hb.ne, Nat.lt_succ_of_lt hb]
    · simp [counted, hc, hb]
    · simp [counted, hc, hb.ne', hb.not_gt, Nat.not_lt.2 (Nat.succ_le_of_lt hb)]
  · simp [counted, hc]

/-- One bucket more counts that bucket's entries. -/
theorem Manifest.Law.cellCount_succ (h : m.Law) (limit cell : Nat) :
    m.cellCount (limit + 1) cell =
      m.cellCount limit cell + ((m.bucket limit).filter (fun e => cellOf e.tag == cell)).length := by
  have hbucket : ((m.bucket limit).filter (fun e => cellOf e.tag == cell)).length =
      m.tags.countP (fun tag => decide (bucketOf tag = limit ∧ cellOf tag = cell)) := by
    have hp := (h.bucket_tags limit).countP_eq (fun tag => cellOf tag == cell)
    rw [List.countP_map, List.countP_filter, List.countP_eq_length_filter] at hp
    rw [show (fun e : Entry => cellOf e.tag == cell) = (fun tag => cellOf tag == cell) ∘ Entry.tag from rfl, hp]
    exact List.countP_congr fun tag _ => by simp [and_comm]
  rw [hbucket, Manifest.cellCount_eq, Manifest.cellCount_eq]
  induction m.tags with
  | nil => rfl
  | cons tag rest ih =>
    have htag := counted_succ limit cell tag
    simp only [List.countP_cons, decide_eq_true_eq]
    omega

/-- The fresh filter after a bucket scan counts that bucket too. -/
theorem Manifest.Law.scanBucket_counts {r : Rebuild} (h : m.Law) (hr : m.RebuildLaw r) :
    m.Counts (scanBucket m r) (r.scanPoint + 1) := by
  obtain ⟨-, hform, hcounts⟩ := hr
  intro cell
  have hcell := hcounts cell
  rw [scanBucket, counterAt_foldl_countUp cell _ hform, h.cellCount_succ]
  omega

theorem Manifest.Law.scan {r : Rebuild} (h : m.Law) (hr : m.rebuild = some r) : (m.scan r).Law := by
  obtain ⟨hwf, hplaced, hnodup, hform, hcounts, hrebuild⟩ := id h
  obtain ⟨hpoint, hform', -⟩ := hrebuild r hr
  have hfresh : FilterForm (scanBucket m r) := filterForm_foldl_countUp _ hform'
  have hscanned := h.scanBucket_counts (hrebuild r hr)
  unfold Manifest.scan
  split
  · rename_i hnext
    refine ⟨hwf, hplaced, hnodup, hform, hcounts, fun r' hr' => ?_⟩
    obtain rfl := Option.mem_some.1 hr'
    exact ⟨hnext, hfresh, hscanned⟩
  · rename_i hlast
    have hend : r.scanPoint + 1 = Config.buckets := Nat.le_antisymm hpoint (Nat.not_lt.1 hlast)
    exact ⟨hwf, hplaced, hnodup, hfresh, hend ▸ hscanned, nofun⟩

/-- A rebuild starts with no bucket scanned and every counter of the fresh filter 0 (R73). -/
theorem Manifest.Law.startRebuild (h : m.Law) : { m with rebuild := some { scanPoint := 0, fresh := [] } }.Law := by
  obtain ⟨hwf, hplaced, hnodup, hform, hcounts, -⟩ := h
  refine ⟨hwf, hplaced, hnodup, hform, hcounts, fun r hr => ?_⟩
  obtain rfl := Option.mem_some.1 hr
  refine ⟨by decide, ⟨.nil, nofun⟩, fun cell => .inr ?_⟩
  rw [Manifest.cellCount_eq, eq_comm]
  exact List.countP_eq_zero.2 fun tag _ hcounted => Nat.not_lt_zero _ ((counted_iff _ _ _).1 hcounted).2

theorem Manifest.Law.abandon (h : m.Law) : m.abandon.Law := by
  obtain ⟨hwf, hplaced, hnodup, hform, hcounts, -⟩ := h
  rw [Manifest.abandon_eq]
  exact ⟨hwf, hplaced, hnodup, hform, hcounts, nofun⟩

/-- A store without entries, counters and rebuild (R78). -/
theorem Manifest.law_of_empty (he : m.entries = []) (hf : m.filter = []) (hr : m.rebuild = none) : m.Law :=
  reset_manifestLaw.congr he hf hr

theorem Manifest.close_law (m : Manifest) : m.close.Law :=
  Manifest.law_of_empty rfl rfl (by rw [Manifest.close, Manifest.abandon_eq])

end

end Sys2Proof.Machine
end

section
/-! # The law of the Manifest Store through every step (R61 to R63, R73 to R75, R77, R78) -/

namespace Sys2Proof.Machine

open Sys2Proof

/-! ## The relation -/

/-- The law of the store passes from s to t. -/
def StoreKept (s t : State) : Prop := s.manifest.Law → t.manifest.Law

section
variable {s t u : State}

theorem StoreKept.refl (s : State) : StoreKept s s := id

theorem StoreKept.trans (h : StoreKept s t) (k : StoreKept t u) : StoreKept s u := k ∘ h

/-- An operation that leaves the store as it stands. -/
theorem StoreKept.same (h : t.manifest = s.manifest) : StoreKept s t := fun hs => h ▸ hs

/-- The frame of the operations inside an event: they write the tallies of the store alone. -/
theorem Kept.storeKept (h : Kept s t) : StoreKept s t := fun hs => hs.congr h.entries h.filter h.rebuild

theorem StoreKept.foldl {α : Type} {f : State → α → State} (h : ∀ s x, StoreKept s (f s x)) :
    ∀ (l : List α) (s : State), StoreKept s (l.foldl f s)
  | [], s => .refl s
  | x :: rest, s => (h s x).trans (StoreKept.foldl h rest (f s x))

theorem StoreKept.ite {p : Prop} [Decidable p] {x y : State} (hx : StoreKept s x) (hy : StoreKept s y) :
    StoreKept s (if p then x else y) := by
  split
  · exact hx
  · exact hy

theorem done_storeKept {f : State → State} (h : StoreKept s (f s)) (he : done (f s) = .next t) : StoreKept s t := by
  rw [done_eq, Host.Outcome.next.injEq] at he
  exact he ▸ h.trans (.same rfl)

/-- A served request keeps the law of the store if its owner does. -/
theorem serve_storeKept {hdr : ReqHdr} {r : Request} {owner : State → Served} (ho : ∀ s, StoreKept s (owner s).state)
    (he : serve hdr r owner s = .next t) : StoreKept s t := by
  rw [serve_eq, Host.Outcome.next.injEq] at he
  rw [← he]
  refine StoreKept.trans ?_ (.same rfl)
  split
  · exact (ho (dropRequest s) : StoreKept s _).trans (.same rfl)
  · exact .refl s

/-! ## The chain and the STOP latch (chapter 1) -/

theorem noticeLevel_storeKept (before : Bool) (s : State) : StoreKept s (noticeLevel before s) :=
  .same (by rw [noticeLevel_eq])

theorem setLatch_storeKept (c : StopCause) (s : State) : StoreKept s (setLatch c s) := .same (by rw [setLatch_eq])

theorem releaseLatch_storeKept (s : State) : StoreKept s (releaseLatch s) := .same (by rw [releaseLatch_eq])

/-- A movement of the chain on a state that holds the same store. -/
theorem movedForward_storeKept (adv : Nat) (h : u.manifest = s.manifest) : StoreKept s (movedForward adv u) :=
  (StoreKept.same h).trans (movedForward_frame adv u).storeKept

theorem encoderStep_storeKept (ph : EncPhase) (s : State) : StoreKept s (encoderStep ph s) :=
  .ite (movedForward_storeKept _ rfl) (.same rfl)

theorem enterLost_storeKept (cause : StopCause) (s : State) : StoreKept s (enterLost cause s) := by
  refine StoreKept.trans ?_ (setLatch_storeKept _ _)
  refine StoreKept.trans ?_ (notify_frame (lostNotice cause) _).storeKept
  exact (((StoreKept.same (t := disarmAll (withTracker { s.tracker with state := .lost } s)) rfl).trans
    (cancelAll_frame _).storeKept).trans (withdrawDrops_frame _).storeKept).trans (releaseReservations_frame _).storeKept

theorem bothChange_storeKept (s : State) : StoreKept s (bothChange s) := by
  refine StoreKept.trans (t := withPins { s.pins with encA := !s.pins.encA, encB := !s.pins.encB } s) (.same rfl) ?_
  unfold bothChange encoderFault
  split
  · exact .refl _
  · exact enterLost_storeKept _ _
  · exact setLatch_storeKept _ _
  · exact setLatch_storeKept _ _

theorem resync_storeKept (left : TrackState) (s : State) : StoreKept s (resync left s) :=
  (StoreKept.same (t := withTracker { s.tracker with disp := 0, state := .tracking } s) rfl).trans
    ((notify_frame _ _).trans (freshArm_frame _)).storeKept

theorem homePulse_storeKept (s : State) : StoreKept s (homePulse s) := by
  unfold homePulse
  split
  · exact .refl s
  · exact resync_storeKept _ s
  · exact resync_storeKept _ s
  · split
    · exact .ite (movedForward_storeKept _ rfl) (enterLost_storeKept _ s)
    · exact .refl s

theorem speedSample_storeKept (s : State) : StoreKept s (speedSample s) :=
  .ite ((StoreKept.same (t := withTracker (s.tracker.sample s.now) s) rfl).trans (resampleAll_frame _).storeKept) (.same rfl)

theorem stopChange_storeKept (held : Bool) (s : State) : StoreKept s (stopChange held s) :=
  (StoreKept.same (t := withPins { s.pins with stopHeld := held } s) rfl).trans (noticeLevel_storeKept _ _)

/-! ## Field frames -/

theorem brdyOp_storeKept (src : Nat) (b : Body BrdyBody) (s : State) : StoreKept s (brdyOp src b s) := by
  cases b
  · exact (takeBrdy_frame _ _ _ _ _).storeKept
  · exact .same rfl

theorem ldonOp_storeKept (src : Nat) (b : Body LdonBody) (s : State) : StoreKept s (ldonOp src b s) := by
  cases b
  · exact (takeLdon_frame _ _ _).storeKept
  · exact .same rfl

theorem chuteFrame_storeKept (src : Nat) (b : Body Nat) {entry : Nat → Chute → State → State} (s : State)
    (h : ∀ j c s, StoreKept s (entry j c s)) : StoreKept s (chuteFrame src b entry s) := by
  unfold chuteFrame
  split
  · exact h _ _ _
  · exact .same rfl

theorem stopOnFault_storeKept (j : Nat) (c : Chute) (s : State) : StoreKept s (stopOnFault j c s) :=
  .ite (setLatch_storeKept _ s) (.refl s)

theorem faultChute_storeKept (j : Nat) (c : Chute) (s : State) : StoreKept s (faultChute j c s) :=
  .ite (stopOnFault_storeKept j c s)
    (((modifyChute_frame _ _ _).trans (cancelQueue_frame _ _)).storeKept.trans (stopOnFault_storeKept j c _))

theorem fieldFrame_storeKept (f : Frame) (s : State) : StoreKept s (fieldFrame f s) := by
  unfold fieldFrame
  split
  · exact brdyOp_storeKept _ _ s
  · exact ldonOp_storeKept _ _ s
  · exact (tscnOp_frame _ _ s).storeKept
  · exact chuteFrame_storeKept _ _ s fun _ _ _ => (eyeSaw_frame _ _ _).storeKept
  · exact chuteFrame_storeKept _ _ s fun _ _ _ => (cartOut_frame _ _ _).storeKept
  · exact chuteFrame_storeKept _ _ s fun _ _ _ => (cartIn_frame _ _ _).storeKept
  · exact chuteFrame_storeKept _ _ s faultChute_storeKept
  · exact chuteFrame_storeKept _ _ s fun _ _ _ => (clearFault_frame _ _ _).storeKept
  · exact .refl s

/-! ## The ports (chapter 10) -/

theorem takeRequest_storeKept (hdr : ReqHdr) (r : Request) (s : State) : StoreKept s (takeRequest hdr r s) :=
  .ite (.same rfl) (.ite (.same rfl) (.same rfl))

theorem trainingReceived_storeKept (p : PortId) (s : State) : StoreKept s (trainingReceived p s) := by
  unfold trainingReceived
  split
  · exact .refl s
  · refine StoreKept.trans (t := noticeLink p .training .up (modifyPort p (Port.enterUp s.now) s)) (.same rfl) ?_
    cases p
    · exact .refl _
    · exact (freshArm_frame _).storeKept
  · exact .same rfl

theorem fieldLinkFault_storeKept (s : State) : StoreKept s (fieldLinkFault s) := by
  refine StoreKept.trans ?_ (setLatch_storeKept _ _)
  refine StoreKept.trans ?_ ((releaseReservations_frame _).trans (notify_frame (linkNotice .down .up .down) _)).storeKept
  refine StoreKept.trans (t := withdrawDrops (cancelAll (disarmAll (abandonIref (modifyPort .down (Port.enterDown s.now) s))))) ?_
    (.same rfl)
  exact (StoreKept.same (t := disarmAll (abandonIref (modifyPort .down (Port.enterDown s.now) s))) rfl).trans
    ((cancelAll_frame _).trans (withdrawDrops_frame _)).storeKept

theorem linkTimeout_storeKept (p : PortId) (s : State) : StoreKept s (linkTimeout p s) := by
  unfold linkTimeout
  split
  · exact .refl s
  · exact .refl s
  · cases p
    · exact .same rfl
    · exact fieldLinkFault_storeKept s

theorem idleReceived_storeKept (p : PortId) (s : State) : StoreKept s (idleReceived p s) := by
  unfold idleReceived
  split <;> exact .same rfl

theorem holdoffEnd_storeKept (p : PortId) (s : State) : StoreKept s (holdoffEnd p s) := by
  unfold holdoffEnd
  split <;> exact .same rfl

theorem trainingSend_storeKept (p : PortId) (s : State) : StoreKept s (trainingSend p s) := by
  unfold trainingSend
  split <;> exact .same rfl

theorem idleSend_storeKept (p : PortId) (s : State) : StoreKept s (idleSend p s) := .ite (.same rfl) (.same rfl)

theorem intake_storeKept (p : PortId) (f : Frame) (s : State) : StoreKept s (intake p f s) := by
  unfold intake
  split
  · cases p
    · exact .same rfl
    · exact .ite (fieldFrame_storeKept f s) (.same rfl)
  · split
    · cases p
      · exact takeRequest_storeKept _ _ (withLink { s.link with host := some f.src } s)
      · exact .same rfl
    · exact .same rfl

theorem decideFrame_storeKept (p : PortId) (f : Frame) (s : State) : StoreKept s (decideFrame p f s) :=
  .ite (trainingReceived_storeKept p s)
    (.ite (.refl s)
      (.ite (.same rfl)
        (.ite (intake_storeKept p f s) (.ite (intake_storeKept p f (forwardTo (otherPort p) f s)) (.same rfl)))))

theorem frameReceived_storeKept (p : PortId) (r : Received) (s : State) : StoreKept s (frameReceived p r s) := by
  unfold frameReceived
  split
  · exact .refl s
  · unfold receiveTraining
    split
    · exact .refl s
    · exact .refl s
    · exact .ite (trainingReceived_storeKept p s) (.refl s)
  · unfold receiveUp
    split
    · exact .same rfl
    · exact .same rfl
    · exact decideFrame_storeKept p _ (modifyPort p (Port.heard s.now) s)

theorem timedSent_storeKept (s : State) : StoreKept s (timedSent s) := by
  unfold timedSent
  split
  · exact .refl s
  · exact .ite (.ite (.same rfl) (.same rfl)) (.refl s)

theorem leavePlace_storeKept (cls : TxClass) (s : State) : StoreKept s (leavePlace cls s) := by
  cases cls with
  | timing => exact timedSent_storeKept s
  | cart => exact (cartFrameSent_frame s).storeKept
  | iref => exact .same rfl
  | reply => exact .same rfl
  | note => exact .same rfl
  | training => exact .refl s
  | idle => exact .refl s
  | answer => exact .refl s
  | forward => exact .refl s

theorem frameSent_storeKept (p : PortId) (s : State) : StoreKept s (frameSent p s) := by
  unfold frameSent
  split
  · exact .refl s
  · rename_i x _
    exact leavePlace_storeKept x.cls (modifyPort p (Port.sent x.cls s.now) s)

/-! ## Requests that write no entry (chapters 5, 7, 9 and 11) -/

theorem enterQuiet_storeKept (m : Mode) (s : State) : StoreKept s (enterQuiet m s) :=
  (withdrawDrops_frame (setMode m s)).storeKept

theorem serveOpen_storeKept (arg : ModeOpenArg) (s : State) : StoreKept s (serveOpen arg s).state := by
  unfold serveOpen
  split
  · exact .refl s
  · split <;> exact .refl s
  · split
    · exact .refl s
    · split
      · exact .refl s
      · exact enterQuiet_storeKept .setup
          { s with
            session := { s.session with voyage := _, clock := 0, secondStart := s.now }
            carts := { s.carts with nextSerial := 1 }
            strays := { s.strays with recs := [], nextSerial := 1, lost := 0 } }

theorem serveShadow_storeKept (s : State) : StoreKept s (serveShadow s).state := by
  unfold serveShadow
  split
  · exact .refl s
  · split
    · exact enterQuiet_storeKept .shadow (closeChuteStaging s)
    · exact .refl s

theorem serveSetup_storeKept (s : State) : StoreKept s (serveSetup s).state := by
  unfold serveSetup
  split
  · exact .refl s
  · exact (cancelAll_frame s).storeKept.trans (enterQuiet_storeKept .setup _)

theorem serveSort_storeKept (s : State) : StoreKept s (serveSort s).state := by
  unfold serveSort
  split
  · exact .refl s
  · split <;> exact .same rfl

theorem serveDrain_storeKept (s : State) : StoreKept s (serveDrain s).state := by
  unfold serveDrain
  split
  · exact .refl s
  · exact (dropHeld_frame (closeRuleStaging (setMode .draining s))).storeKept

/-- Session close empties the store (R78, R171). -/
theorem serveClose_storeKept (s : State) : StoreKept s (serveClose s).state := by
  unfold serveClose
  split
  · exact .refl s
  · exact fun _ => enterQuiet_storeKept .idle (withSession _ (closeManifest (closeAllChutes s))) (Manifest.close_law _)

theorem serveLcfg_storeKept (arg : Option LoopArg) (s : State) : StoreKept s (serveLcfg arg s).state := by
  unfold serveLcfg
  split
  · exact .refl s
  · split
    · exact .refl s
    · split
      · exact .refl s
      · split <;> exact .same rfl

theorem refuseInstall_storeKept (x : Status) (n : Nat) (s : State) : StoreKept s (refuseInstall x n s).state := by
  unfold refuseInstall
  split <;> exact .same rfl

theorem installStaged_storeKept (g : Geometry) (n : Nat) (cs : List ChuteArg) (s : State) :
    StoreKept s (installStaged g n cs s).state := by
  unfold installStaged
  split
  · exact refuseInstall_storeKept _ _ s
  · split
    · exact refuseInstall_storeKept _ _ s
    · split
      · exact refuseInstall_storeKept _ _ s
      · split
        · exact refuseInstall_storeKept _ _ s
        · exact .same rfl

theorem takeChutes_storeKept (g : Geometry) (a : CcfgArg) (s : State) : StoreKept s (takeChutes g a s).state := by
  unfold takeChutes
  split
  · exact .refl s
  · split
    · exact .refl s
    · split
      · exact .refl s
      · split
        · exact installStaged_storeKept _ _ _ s
        · exact .same rfl

theorem serveCcfg_storeKept (arg : Option CcfgArg) (s : State) : StoreKept s (serveCcfg arg s).state := by
  unfold serveCcfg
  split
  · exact .refl s
  · split
    · exact .refl s
    · split
      · exact .refl s
      · exact takeChutes_storeKept _ _ s

theorem serveZload_storeKept (arg : Option (List Zone)) (s : State) : StoreKept s (serveZload arg s).state := by
  unfold serveZload
  split
  · exact .refl s
  · split
    · exact .refl s
    · split <;> exact .same rfl

theorem takeRules_storeKept (a : RloadArg) (rules : List Rule) (s : State) : StoreKept s (takeRules a rules s).state := by
  unfold takeRules
  split <;> exact .same rfl

theorem serveRload_storeKept (arg : Option RloadArg) (s : State) : StoreKept s (serveRload arg s).state := by
  unfold serveRload
  split
  · exact .refl s
  · split
    · exact .refl s
    · split
      · exact .refl s
      · split
        · exact .refl s
        · split
          · exact .refl s
          · exact takeRules_storeKept _ _ s

theorem serveRset_storeKept (arg : Option RsetArg) (s : State) : StoreKept s (serveRset arg s).state := by
  unfold serveRset
  split
  · exact .refl s
  · split
    · exact .refl s
    · split
      · exact .refl s
      · split <;> exact .same rfl

/-- A chute command that passes its checks keeps the law of the store if its action does. -/
theorem commandChute_storeKept (j : Nat) {action : Nat → Chute → State → Served} (s : State)
    (h : ∀ j c s, StoreKept s (action j c s).state) : StoreKept s (commandChute j action s).state := by
  unfold commandChute
  split
  · exact .refl s
  · split
    · exact .refl s
    · split
      · exact .refl s
      · exact h _ _ s

theorem openCommand_storeKept (j : Nat) (c : Chute) (s : State) : StoreKept s (openCommand j c s).state := by
  unfold openCommand
  split
  · split
    · exact (openWithCart_frame j s).storeKept
    · exact .refl s
  all_goals exact .refl s

theorem forceCommand_storeKept (j : Nat) (c : Chute) (s : State) : StoreKept s (forceCommand j c s).state := by
  unfold forceCommand
  split
  · exact (cartOut_frame j c s).storeKept
  · exact .refl s

theorem serveCcmdOpen_storeKept (arg : ActionArg) (s : State) : StoreKept s (serveCcmdOpen arg s).state := by
  unfold serveCcmdOpen
  split
  · exact commandChute_storeKept _ s openCommand_storeKept
  · split <;> exact .refl s
  · split <;> exact .refl s

theorem disableTray_storeKept (k : Nat) (s : State) : StoreKept s (disableTray k s).state := by
  unfold disableTray
  split
  · exact .refl s
  · split
    · exact ((settleTray_frame _ _ _).trans (moveScan_frame _ _)).storeKept
    · split <;> exact .refl s

theorem serveTcmdDisable_storeKept (arg : ActionArg) (s : State) : StoreKept s (serveTcmdDisable arg s).state := by
  cases arg with
  | of k => exact disableTray_storeKept k s
  | short => exact .refl s
  | badAction => exact .refl s

theorem enableTray_storeKept (k : Nat) (s : State) : StoreKept s (enableTray k s).state := by
  unfold enableTray
  split
  · exact .refl s
  · split
    · exact ((settleTray_frame _ _ _).trans (freshArm_frame _)).storeKept
    · exact .refl s

theorem serveClrs_storeKept (s : State) : StoreKept s (serveClrs s).state := by
  unfold serveClrs
  split
  · exact releaseLatch_storeKept s
  · exact .refl s

/-- A line reset abandons a running rebuild and keeps the entries (R77, R78). -/
theorem lineReset_storeKept (s : State) : StoreKept s (lineReset s) := by
  have hsame : (lineReset s).manifest = s.manifest.abandon := by rw [lineReset_eq, resetBlocks_eq]
  exact fun h => hsame ▸ h.abandon

theorem serveSdel_storeKept (arg : Option Nat) (s : State) : StoreKept s (serveSdel arg s).state := by
  unfold serveSdel
  split
  · exact .refl s
  · split
    · exact .refl s
    · split <;> exact .same rfl

/-! ## Requests that write entries (R65 to R73) -/

theorem handAmend_storeKept (old new tag : Nat) (s : State) : StoreKept s (handAmend old new tag s) :=
  .ite (.refl s) (manifestChange_frame _ _ s).storeKept

/-- An entry of a tag in range that stands nowhere joins the store. -/
theorem insertEntry_storeKept {e : Entry} (hok : tagOk e.tag = true) (hl : s.manifest.live e.tag = none)
    (h : insertEntry e s = some t) : StoreKept s t := by
  intro hs
  obtain ⟨key, hkey, rfl⟩ := Option.map_eq_some_iff.1 h
  obtain ⟨hway, hfree⟩ := Manifest.freeKey_way hkey
  exact hs.insertAt hfree hway hok (hs.live_none_iff.1 hl)

/-- A live entry is replaced by one of the same tag. -/
theorem amendAt_storeKept {tag key : Nat} {e e' : Entry} (hl : s.manifest.live tag = some (key, e)) (htag : e'.tag = tag) :
    StoreKept s (withManifest (s.manifest.amendAt key e') s) := by
  obtain ⟨-, hget, rfl⟩ := Manifest.live_some hl
  exact fun hs => hs.amendAt hget htag

theorem putOk_tag {p : PutArg} (h : ¬ putOk p = false) : tagOk p.tag = true := by
  simp only [putOk, Bool.not_eq_false, Bool.and_eq_true] at h
  obtain ⟨⟨⟨⟨htag, -⟩, -⟩, -⟩, -⟩ := h
  exact htag

theorem putOne_storeKept (p : PutArg) (s : State) : StoreKept s (putOne p s).1 := by
  unfold putOne
  split
  · exact .refl s
  · rename_i hok
    split
    · rename_i key e hl
      exact (amendAt_storeKept (e' := { putEntry p with hold := e.hold }) hl rfl).trans (handAmend_storeKept _ _ _ _)
    · rename_i hl
      split
      · exact insertEntry_storeKept (e := putEntry p) (putOk_tag hok) hl ‹_›
      · exact .refl s

theorem putAll_storeKept : ∀ (l : List PutArg) (s : State), StoreKept s (putAll l s).1
  | [], s => .refl s
  | p :: rest, s => (putOne_storeKept p s).trans (putAll_storeKept rest _)

theorem serveMput_storeKept (arg : Option MputArg) (s : State) : StoreKept s (serveMput arg s).state := by
  unfold serveMput
  split
  · split <;> exact .refl s
  · split
    · exact .refl s
    · split
      · exact .refl s
      · split
        · exact .refl s
        · exact putAll_storeKept _ s

theorem deleteOne_storeKept (tag : Nat) (s : State) : StoreKept s (deleteOne tag s).1 := by
  unfold deleteOne
  split
  · exact .refl s
  · split
    · rename_i key hkey
      obtain ⟨e, hl⟩ := Manifest.live_of_findKey hkey
      obtain ⟨-, hget, rfl⟩ := Manifest.live_some hl
      exact StoreKept.trans (fun hs => hs.removeAt hget) (manifestChange_frame _ _ _).storeKept
    · exact .refl s

theorem deleteAll_storeKept : ∀ (l : List Nat) (s : State), StoreKept s (deleteAll l s).1
  | [], s => .refl s
  | tag :: rest, s => (deleteOne_storeKept tag s).trans (deleteAll_storeKept rest _)

theorem serveMdel_storeKept (arg : Option MdelArg) (s : State) : StoreKept s (serveMdel arg s).state := by
  unfold serveMdel
  split
  · exact .refl s
  · split
    · exact .refl s
    · split
      · exact .refl s
      · exact deleteAll_storeKept _ s

theorem holdTag_storeKept {tag : Nat} (hok : tagOk tag = true) (s : State) : StoreKept s (holdTag tag s).state := by
  unfold holdTag
  split
  · rename_i key e hl
    split
    · exact .refl s
    · obtain ⟨-, -, htag⟩ := Manifest.live_some hl
      exact (amendAt_storeKept (e' := { e with hold := true }) hl htag).trans (manifestChange_frame _ _ _).storeKept
  · rename_i hl
    split
    · exact (insertEntry_storeKept (e := heldEntry tag) hok hl ‹_›).trans (manifestChange_frame _ _ _).storeKept
    · exact .refl s

theorem serveHold_storeKept (arg : Option Nat) (s : State) : StoreKept s (serveHold arg s).state := by
  unfold serveHold
  split
  · exact .refl s
  · split
    · exact .refl s
    · split
      · exact holdTag_storeKept ‹_› s
      · exact .refl s

theorem releaseTag_storeKept (tag : Nat) (s : State) : StoreKept s (releaseTag tag s).state := by
  unfold releaseTag
  split
  · rename_i key e hl
    obtain ⟨-, -, htag⟩ := Manifest.live_some hl
    exact amendAt_storeKept (e' := { e with hold := false }) hl htag
  · exact .refl s

theorem serveRlse_storeKept (arg : Option Nat) (s : State) : StoreKept s (serveRlse arg s).state := by
  unfold serveRlse
  split
  · exact .refl s
  · split
    · exact .refl s
    · split
      · exact releaseTag_storeKept _ s
      · exact .refl s

theorem serveFbld_storeKept (s : State) : StoreKept s (serveFbld s).state := by
  unfold serveFbld
  split
  · exact .refl s
  · split
    · exact .refl s
    · exact Manifest.Law.startRebuild

theorem resolveStray_storeKept (a : SresArg) (s : State) : StoreKept s (resolveStray a s).state := by
  unfold resolveStray
  split
  · exact .refl s
  · split
    · exact .refl s
    · rename_i hok
      rw [not_or, Bool.not_eq_false] at hok
      split
      · rename_i key e hl
        obtain ⟨-, -, htag⟩ := Manifest.live_some hl
        exact (amendAt_storeKept (e' := { e with cabin := a.cabin }) hl htag).trans (handAmend_storeKept _ _ _ _)
      · rename_i hl
        split
        · rename_i t ht
          exact (insertEntry_storeKept (e := strayEntry a.tag a.cabin) hok.1 hl ht).trans (.same rfl)
        · exact .refl s

theorem serveSres_storeKept (arg : Option SresArg) (s : State) : StoreKept s (serveSres arg s).state := by
  unfold serveSres
  split
  · exact .refl s
  · split
    · exact .refl s
    · split
      · exact .refl s
      · split
        · exact .refl s
        · exact resolveStray_storeKept _ s

/-! ## Time (R74) -/

theorem bucketScan_storeKept (s : State) : StoreKept s (bucketScan s) := by
  unfold bucketScan
  split
  · exact .refl s
  · rename_i r hr
    split
    · exact fun hs => hs.scan hr
    · exact fun hs => hs.scan hr

theorem expireDue_storeKept (j : Nat) (s : State) : StoreKept s (expireDue j s) := by
  unfold expireDue
  split
  · exact .refl s
  · exact .foldl (fun s _ => (expireOldest_frame j s).storeKept) _ s

theorem whenDue_storeKept (due : Bool) {event : State → State} (s : State) (h : StoreKept s (event s)) :
    StoreKept s (whenDue due event s) := .ite h (.refl s)

theorem portDue_storeKept (p : PortId) (s : State) : StoreKept s (portDue p s) := by
  unfold portDue
  split
  · exact (whenDue_storeKept _ s (linkTimeout_storeKept p s)).trans (whenDue_storeKept _ _ (idleSend_storeKept p _))
  · exact whenDue_storeKept _ s (holdoffEnd_storeKept p s)
  · exact whenDue_storeKept _ s (trainingSend_storeKept p s)

theorem tick_storeKept (s : State) : StoreKept s (tick s) := by
  refine StoreKept.trans ?_ (.same rfl)
  refine StoreKept.trans (StoreKept.trans ?_ (portDue_storeKept .up _)) (portDue_storeKept .down _)
  refine StoreKept.trans ?_ (StoreKept.foldl (fun s j => expireDue_storeKept j s) _ _)
  refine StoreKept.trans ?_ (whenDue_storeKept _ _ (.same rfl))
  exact StoreKept.trans (bucketScan_storeKept { s with now := s.now + 1 }) (whenDue_storeKept _ _ (speedSample_storeKept _))

/-! ## Every step -/

theorem exec_storeKept (c : Instr) (he : exec c s = .next t) : StoreKept s t := by
  cases c with
  | encoderStep ph => exact done_storeKept (encoderStep_storeKept ph s) he
  | homePulse => exact done_storeKept (homePulse_storeKept s) he
  | stopLevelChange held => exact done_storeKept (stopChange_storeKept held s) he
  | powerOnReset straps =>
    exact done_storeKept (f := fun s => { State.powerOn straps s.pins with free := s.free, pending := s.pending })
      (fun _ => reset_manifestLaw) he
  | speedSample => exact done_storeKept (speedSample_storeKept s) he
  | sessionClockTick => exact done_storeKept (f := clockTick) (.same rfl) he
  | confirmationExpiry j => exact done_storeKept (expireOldest_frame j s).storeKept he
  | bucketScan => exact done_storeKept (bucketScan_storeKept s) he
  | frameReceived p broken bytes => exact done_storeKept (frameReceived_storeKept p _ s) he
  | trainingFrame p => exact done_storeKept (trainingReceived_storeKept p s) he
  | idleFrame p => exact done_storeKept (idleReceived_storeKept p s) he
  | linkTimeout p => exact done_storeKept (linkTimeout_storeKept p s) he
  | linkHoldoffEnd p => exact done_storeKept (holdoffEnd_storeKept p s) he
  | trainingSend p => exact done_storeKept (trainingSend_storeKept p s) he
  | idleSend p => exact done_storeKept (idleSend_storeKept p s) he
  | downFrameTransmitted => exact done_storeKept (frameSent_storeKept .down s) he
  | upFrameTransmitted => exact done_storeKept (frameSent_storeKept .up s) he
  | brdy src b => exact done_storeKept (brdyOp_storeKept src b s) he
  | ldon src b => exact done_storeKept (ldonOp_storeKept src b s) he
  | tscn src b => exact done_storeKept (tscnOp_frame src b s).storeKept he
  | ceye src b => exact done_storeKept (chuteFrame_storeKept src b s fun _ _ _ => (eyeSaw_frame _ _ _).storeKept) he
  | cout src b => exact done_storeKept (chuteFrame_storeKept src b s fun _ _ _ => (cartOut_frame _ _ _).storeKept) he
  | cin src b => exact done_storeKept (chuteFrame_storeKept src b s fun _ _ _ => (cartIn_frame _ _ _).storeKept) he
  | cflt src b => exact done_storeKept (chuteFrame_storeKept src b s faultChute_storeKept) he
  | cclr src b => exact done_storeKept (chuteFrame_storeKept src b s fun _ _ _ => (clearFault_frame _ _ _).storeKept) he
  | requestIntake hdr r => exact done_storeKept (takeRequest_storeKept hdr r s) he
  | stat hdr arg => exact serve_storeKept (fun s => .same (by rw [serveStat_state])) he
  | modeOpen hdr arg => exact serve_storeKept (serveOpen_storeKept arg) he
  | modeShadow hdr => exact serve_storeKept serveShadow_storeKept he
  | modeSetup hdr => exact serve_storeKept serveSetup_storeKept he
  | modeSort hdr => exact serve_storeKept serveSort_storeKept he
  | modeDrain hdr => exact serve_storeKept serveDrain_storeKept he
  | modeClose hdr => exact serve_storeKept serveClose_storeKept he
  | lcfg hdr arg => exact serve_storeKept (serveLcfg_storeKept arg) he
  | ccfg hdr arg => exact serve_storeKept (serveCcfg_storeKept arg) he
  | zload hdr arg => exact serve_storeKept (serveZload_storeKept arg) he
  | rload hdr arg => exact serve_storeKept (serveRload_storeKept arg) he
  | rset hdr arg => exact serve_storeKept (serveRset_storeKept arg) he
  | mput hdr arg => exact serve_storeKept (serveMput_storeKept arg) he
  | mdel hdr arg => exact serve_storeKept (serveMdel_storeKept arg) he
  | mget hdr arg => exact serve_storeKept (fun s => .same (by rw [serveMget_state])) he
  | hold hdr arg => exact serve_storeKept (serveHold_storeKept arg) he
  | rlse hdr arg => exact serve_storeKept (serveRlse_storeKept arg) he
  | fbld hdr => exact serve_storeKept serveFbld_storeKept he
  | ccmdOpen hdr arg => exact serve_storeKept (serveCcmdOpen_storeKept arg) he
  | ccmdClose hdr j =>
    exact serve_storeKept (fun s => commandChute_storeKept j s fun _ _ _ => (closeChute_frame _ _ _).storeKept) he
  | ccmdForceClose hdr j => exact serve_storeKept (fun s => commandChute_storeKept j s forceCommand_storeKept) he
  | ccmdClearFault hdr j =>
    exact serve_storeKept (fun s => commandChute_storeKept j s fun _ _ _ => (clearFault_frame _ _ _).storeKept) he
  | tcmdDisable hdr arg => exact serve_storeKept (serveTcmdDisable_storeKept arg) he
  | tcmdEnable hdr k => exact serve_storeKept (enableTray_storeKept k) he
  | crd hdr arg => exact serve_storeKept (fun s => .same (by rw [serveCrd_state])) he
  | srd hdr arg => exact serve_storeKept (fun s => .same (by rw [serveSrd_state])) he
  | sres hdr arg => exact serve_storeKept (serveSres_storeKept arg) he
  | sdel hdr arg => exact serve_storeKept (serveSdel_storeKept arg) he
  | sstp hdr => exact serve_storeKept (setLatch_storeKept .sstp) he
  | clrs hdr => exact serve_storeKept serveClrs_storeKept he
  | lrst hdr =>
    exact done_storeKept
      (f := fun s => if s.mayServe hdr .lrst then lineReset (pushReply hdr .lrst .done [] (dropRequest s)) else s)
      (.ite (lineReset_storeKept (pushReply hdr .lrst .done [] (dropRequest s))) (.refl s)) he
  | bothPhasesChangeTogether => exact done_storeKept (bothChange_storeKept s) he

end

/-- Settles O32: an insert, a removal and a bucket scan move the tags of a cell and its counters together, an amend keeps the
tag of its way, and every other operation writes at most the tallies of the store. -/
theorem manifestLawIsKept : Obligations.ManifestLawIsKept := by
  unfold Obligations.ManifestLawIsKept
  intro s t h hstep
  unfold step at hstep
  split at hstep
  · rw [Host.Outcome.next.injEq] at hstep
    exact hstep ▸ tick_storeKept s h
  · rename_i c rest _
    exact exec_storeKept (s := { s with pending := rest }) c hstep h

end Sys2Proof.Machine
end

section
/-! # Lookups and the free way of a bucket (sections 4.1 to 4.4) -/

namespace Sys2Proof.Machine

open Sys2Proof

section
variable {m : Manifest} {tag key : Nat} {e : Entry}

/-! ## The filter hides no entry (R63, R64) -/

theorem Lookup.of_entry (e : Entry) : (Lookup.of e).entry = some e := by
  unfold Lookup.of
  split
  · rfl
  · split <;> rfl

theorem Lookup.of_injective {e e' : Entry} (h : Lookup.of e = Lookup.of e') : e = e' := by
  have := congrArg Lookup.entry h
  rwa [Lookup.of_entry, Lookup.of_entry, Option.some.injEq] at this

theorem Lookup.of_ne_notOnManifest (e : Entry) : Lookup.of e ≠ .notOnManifest := fun h => by
  have := congrArg Lookup.entry h
  rw [Lookup.of_entry] at this
  cases this

/-- The cell of a live entry counts it, so its counter is not 0. -/
theorem Manifest.Law.counter_ne_zero (h : m.Law) (hx : (key, e) ∈ m.entries) : counterAt m.filter (cellOf e.tag) ≠ 0 := by
  obtain ⟨-, -, -, -, hcounts, -⟩ := h
  have hpos : 0 < m.cellCount Config.buckets (cellOf e.tag) := by
    rw [Manifest.cellCount_eq, List.countP_pos_iff]
    exact ⟨e.tag, List.mem_map.2 ⟨_, hx, rfl⟩, (counted_iff _ _ _).2 ⟨rfl, bucketOf_lt _⟩⟩
  rcases hcounts (cellOf e.tag) with hc | hc
  · rw [hc]
    decide
  · omega

theorem Manifest.lookupResult_found (h : m.Law) (hx : (key, e) ∈ m.entries) : m.lookupResult e.tag = .of e := by
  have hfind : m.find e.tag = some e := by rw [Manifest.find_eq_live, h.live_of_mem hx]; rfl
  rw [Manifest.lookupResult, if_neg fun hc => h.counter_ne_zero hx hc.2, hfind]

theorem Manifest.lookupResult_absent (h : m.find tag = none) : m.lookupResult tag = .notOnManifest := by
  rw [Manifest.lookupResult, h, ite_self]

/-- Whatever a lookup gives stands in the store. -/
theorem Manifest.mem_of_lookupResult (h : m.lookupResult tag = .of e) : e.tag = tag ∧ ∃ key, (key, e) ∈ m.entries := by
  cases hfind : m.find tag with
  | none =>
    rw [Manifest.lookupResult_absent hfind] at h
    exact absurd h.symm (Lookup.of_ne_notOnManifest e)
  | some x =>
    rw [Manifest.lookupResult, hfind] at h
    split at h
    · exact absurd h.symm (Lookup.of_ne_notOnManifest e)
    · exact Lookup.of_injective h ▸ Manifest.find_mem hfind

theorem Manifest.Law.find_none_iff (h : m.Law) : m.find tag = none ↔ ∀ x ∈ m.entries, x.2.tag ≠ tag := by
  rw [Manifest.find_eq_live, Option.map_eq_none_iff, h.live_none_iff]

/-! ## The tallies of lookups (R64, R76) -/

theorem Manifest.countLookup_rebuilding (h : m.rebuild.isSome = true) (tag : Nat) :
    m.countLookup tag = { m with lookups := satInc 4294967295 m.lookups } := by
  have hn : ¬ m.rebuild.isNone = true := by simpa [Option.isSome_iff_ne_none] using h
  rw [Manifest.countLookup, if_neg (fun x => hn x.1), if_neg (fun x => hn x.1)]
  rfl

theorem Manifest.countLookup_absent (h : m.rebuild = none) (h0 : counterAt m.filter (cellOf tag) = 0) :
    m.countLookup tag =
      { m with lookups := satInc 4294967295 m.lookups, filterAbsent := satInc 4294967295 m.filterAbsent } := by
  rw [Manifest.countLookup, if_pos ⟨by rw [h]; rfl, h0⟩, if_neg fun x => x.2.1 h0]
  rfl

theorem Manifest.countLookup_false (h : m.rebuild = none) (h0 : counterAt m.filter (cellOf tag) ≠ 0)
    (hfind : m.find tag = none) :
    m.countLookup tag =
      { m with lookups := satInc 4294967295 m.lookups, filterFalse := satInc 4294967295 m.filterFalse } := by
  rw [Manifest.countLookup, if_neg (fun x => h0 x.2), if_pos ⟨by rw [h]; rfl, h0, hfind⟩]
  rfl

theorem Manifest.countLookup_found (h0 : counterAt m.filter (cellOf tag) ≠ 0) (hfind : m.find tag ≠ none) :
    m.countLookup tag = { m with lookups := satInc 4294967295 m.lookups } := by
  rw [Manifest.countLookup, if_neg (fun x => h0 x.2), if_neg (fun x => hfind x.2.2)]
  rfl

/-! ## The lookups of a tag set (R56 to R58) -/

theorem countLookups_over {s : State} {lap limit : Nat} (set : List SetTag) (hl : s.arch.lapLimit = some limit)
    (h : limit < lap) : countLookups lap set s = s := if_pos (by simp [State.overLimit, hl, h])

theorem overLimit_eq_false {s : State} {lap : Nat} (h : ∀ limit ∈ s.arch.lapLimit, lap ≤ limit) :
    ¬ s.overLimit lap = true := by
  intro hover
  obtain ⟨limit, hl, hlt⟩ := (Option.any_eq_true _ _).1 hover
  exact Nat.not_lt.2 (h limit hl) (by simpa using hlt)

/-! ## The free way (R62) -/

theorem Table.get_ne_none_iff {α : Type} {t : List (Nat × α)} {k : Nat} :
    Table.get t k ≠ none ↔ ∃ x ∈ t, x.1 = k := by
  rw [Ne, Table.get_eq_none_iff]
  simp

/-- The free way of an insert is the lowest of the bucket's 8; a full bucket has none. -/
theorem Manifest.freeKey_lowest :
    m.freeKey tag = some key ↔
      ∃ way, way < 8 ∧ key = tag % 1021 * 8 + way ∧ (∀ x ∈ m.entries, x.1 ≠ key) ∧
        ∀ w, w < way → ∃ x ∈ m.entries, x.1 = tag % 1021 * 8 + w := by
  simp only [Manifest.freeKey_some_iff, Table.get_eq_none_iff, Table.get_ne_none_iff]
  rfl

end

/-- Settles O28: the counter of a live entry's cell is never 0, so the filter turns away only tags that no entry bears. -/
theorem filterHidesNothing : Obligations.FilterHidesNothing := by
  unfold Obligations.FilterHidesNothing
  intro m tag h
  refine ⟨fun e => Manifest.mem_of_lookupResult, ?found, ?absent, fun key => Manifest.freeKey_lowest, rfl,
    fun hr => Manifest.countLookup_rebuilding hr tag,
    fun hr => ⟨Manifest.countLookup_absent hr, ?falsePositive, ?present⟩, ?sets⟩
  case found =>
    rintro key e hx rfl
    have hlive := h.live_of_mem hx
    exact ⟨Manifest.lookupResult_found h hx, by rw [Manifest.find_eq_live, hlive]; rfl, hlive⟩
  case absent =>
    exact fun hx => ⟨Manifest.lookupResult_absent (h.find_none_iff.2 hx), h.live_none_iff.2 hx⟩
  case falsePositive => exact fun h0 hx => Manifest.countLookup_false hr h0 (h.find_none_iff.2 hx)
  case present =>
    rintro h0 ⟨x, hx, htag⟩
    exact Manifest.countLookup_found h0 fun hfind => h.find_none_iff.1 hfind x hx htag
  case sets =>
    rintro s lap a b c rest rfl
    refine ⟨fun limit set => countLookups_over set, fun hlap => ?_⟩
    have hunder := overLimit_eq_false hlap
    exact ⟨if_neg hunder, if_neg hunder, if_neg hunder, if_neg hunder⟩

end Sys2Proof.Machine
end

section
/-! # The entries: MPUT, MDEL, HOLD and RLSE (sections 4.3 to 4.6) -/

namespace Sys2Proof.Machine

open Sys2Proof

section
variable {s : State} {p : PutArg} {tag key : Nat} {e : Entry}

/-! ## One entry of MPUT, one tag of MDEL (R66 to R68) -/

theorem putOk_iff (p : PutArg) :
    putOk p = true ↔
      (1 ≤ p.tag ∧ p.tag ≤ 999999999) ∧ p.cabin ≤ 9999 ∧ p.group ≤ 255 ∧ p.priority ≤ 1 ∧ p.oversize ≤ 1 := by
  simp only [putOk, flagOk, Bool.and_eq_true, decide_eq_true_eq, tagOk_iff, and_assoc]
  rfl

theorem tagOk_eq_false {tag : Nat} (h : tag = 0 ∨ 999999999 < tag) : tagOk tag = false := by
  rw [← Bool.not_eq_true, tagOk_iff]
  omega

theorem insertEntry_full (h : s.manifest.freeKey e.tag = none) : insertEntry e s = none := by simp [insertEntry, h]

theorem insertEntry_free (h : s.manifest.freeKey e.tag = some key) :
    insertEntry e s = some (withManifest (s.manifest.insertAt key e) s) := by simp [insertEntry, h]

theorem putOne_range (h : putOk p = false) : putOne p s = (s, .range) := if_pos h

theorem putOne_amended (hok : putOk p = true) (hl : s.manifest.live p.tag = some (key, e)) :
    putOne p s = (amendPut key e p s, .amended) := by
  rw [putOne, if_neg (by simp [hok]), hl]

theorem putOne_full (hok : putOk p = true) (hl : s.manifest.live p.tag = none) (hk : s.manifest.freeKey p.tag = none) :
    putOne p s = (s, .full) := by
  rw [putOne, if_neg (by simp [hok]), hl]
  dsimp only
  rw [insertEntry_full (e := putEntry p) hk]

theorem putOne_inserted (hok : putOk p = true) (hl : s.manifest.live p.tag = none)
    (hk : s.manifest.freeKey p.tag = some key) :
    putOne p s = (withManifest (s.manifest.insertAt key (putEntry p)) s, .inserted) := by
  rw [putOne, if_neg (by simp [hok]), hl]
  dsimp only
  rw [insertEntry_free (e := putEntry p) hk]

theorem deleteOne_range (h : tagOk tag = false) : deleteOne tag s = (s, 1) := if_pos h

theorem deleteOne_absent (hok : tagOk tag = true) (hl : s.manifest.live tag = none) : deleteOne tag s = (s, 2) := by
  rw [deleteOne, if_neg (by simp [hok]), Manifest.live_none_iff_findKey.1 hl]

theorem deleteOne_removed (hok : tagOk tag = true) (hl : s.manifest.live tag = some (key, e)) :
    deleteOne tag s = (manifestChange .delete tag (withManifest (s.manifest.removeAt key tag) s), 3) := by
  obtain ⟨hkey, -, -⟩ := Manifest.live_some hl
  rw [deleteOne, if_neg (by simp [hok]), hkey]

/-! ## Runs of entries and of tags (R65, R67, R68) -/

theorem putAll_length : ∀ (l : List PutArg) (s : State), (putAll l s).2.length = l.length
  | [], _ => rfl
  | p :: rest, s => congrArg (· + 1) (putAll_length rest (putOne p s).1)

theorem deleteAll_length : ∀ (l : List Nat) (s : State), (deleteAll l s).2.length = l.length
  | [], _ => rfl
  | tag :: rest, s => congrArg (· + 1) (deleteAll_length rest (deleteOne tag s).1)

/-- MPUT deals with each entry on the state that the one before it left, its outcome behind those before it. -/
theorem foldl_putOne : ∀ (l : List PutArg) (s : State) (d : List Datum),
    l.foldl (fun y q => ((putOne q y.1).1, y.2 ++ [Datum.u8 (putOne q y.1).2.code])) (s, d) =
      ((putAll l s).1, d ++ (putAll l s).2.map (fun o => Datum.u8 o.code))
  | [], s, d => by simp [putAll]
  | p :: rest, s, d => by
    rw [List.foldl_cons, foldl_putOne rest]
    simp [putAll]

/-- MDEL likewise with each tag. -/
theorem foldl_deleteOne : ∀ (l : List Nat) (s : State) (d : List Datum),
    l.foldl (fun y n => ((deleteOne n y.1).1, y.2 ++ [Datum.u8 (deleteOne n y.1).2])) (s, d) =
      ((deleteAll l s).1, d ++ (deleteAll l s).2.map Datum.u8)
  | [], s, d => by simp [deleteAll]
  | tag :: rest, s, d => by
    rw [List.foldl_cons, foldl_deleteOne rest]
    simp [deleteAll]

/-! ## MPUT and MDEL (R67, R68) -/

theorem serveMput_short (s : State) : serveMput none s = refuse (if s.mode = .idle then .mode else .range) s :=
  (apply_ite (fun x => refuse x s) _ _ _).symm

theorem serveMput_badCount {a : MputArg} (h : a.count = 0 ∨ 16 < a.count) : serveMput (some a) s = refuse .range s :=
  if_pos h

theorem serveMput_idle {a : MputArg} (h : ¬ (a.count = 0 ∨ 16 < a.count)) (hm : s.mode = .idle) :
    serveMput (some a) s = refuse .mode s := by
  rw [serveMput, if_neg h, if_pos hm]

theorem serveMput_run {a : MputArg} (h : ¬ (a.count = 0 ∨ 16 < a.count)) (hm : s.mode ≠ .idle)
    (hlen : a.entries.length = a.count) :
    serveMput (some a) s =
      doneWith (.u8 a.count :: (putAll a.entries s).2.map (fun o => .u8 o.code)) (putAll a.entries s).1 := by
  rw [serveMput, if_neg h, if_neg hm, if_neg (not_not.2 hlen)]

/-- MPUT of one entry. -/
theorem serveMput_one {t : State} {o : PutOutcome} (hm : s.mode ≠ .idle) (hp : putOne p s = (t, o)) :
    serveMput (some { count := 1, entries := [p] }) s = doneWith [.u8 1, .u8 o.code] t := by
  rw [serveMput_run (by simp) hm rfl]
  simp [putAll, hp]

theorem serveMdel_idle (arg : Option MdelArg) (hm : s.mode = .idle) : serveMdel arg s = refuse .mode s := if_pos hm

theorem serveMdel_short (s : State) : serveMdel none s = refuse (if s.mode = .idle then .mode else .range) s :=
  (apply_ite (fun x => refuse x s) _ _ _).symm

theorem serveMdel_badCount {b : MdelArg} (hm : s.mode ≠ .idle) (h : b.count = 0 ∨ 32 < b.count) :
    serveMdel (some b) s = refuse .range s := by
  rw [serveMdel, if_neg hm]
  exact if_pos (h.imp_right .inl)

theorem serveMdel_run {b : MdelArg} (h : ¬ (b.count = 0 ∨ 32 < b.count)) (hm : s.mode ≠ .idle)
    (hlen : b.tags.length = b.count) :
    serveMdel (some b) s = doneWith (.u8 b.count :: (deleteAll b.tags s).2.map .u8) (deleteAll b.tags s).1 := by
  rw [serveMdel, if_neg hm]
  exact if_neg (by tauto)

/-- MDEL of one tag. -/
theorem serveMdel_one {t : State} {n : Nat} (hm : s.mode ≠ .idle) (hd : deleteOne tag s = (t, n)) :
    serveMdel (some { count := 1, tags := [tag] }) s = doneWith [.u8 1, .u8 n] t := by
  rw [serveMdel_run (by simp) hm rfl]
  simp [deleteAll, hd]

end

/-- Settles O29: the checks in their order, then the runs as folds, and one entry or one tag by its outcome. -/
theorem entriesPutAndDeleted : Obligations.EntriesPutAndDeleted := by
  unfold Obligations.EntriesPutAndDeleted
  rintro hdr s p put del a b rfl rfl
  refine ⟨fun hmay => ?putShort, fun hmay => ?delShort,
    fun hmay => ⟨fun hc => ?putCount, fun h1 h16 hm => ?putIdle, fun run h1 h16 hlen hm hrun => ?putRun, ?putOne⟩,
    fun hmay => ⟨fun hm => ?delIdle, fun hm hc => ?delCount, fun run h1 h32 hlen hm hrun => ?delRun, ?delOne⟩⟩
  case putShort => exact answers_of_serve rfl hmay (serveMput_short _)
  case delShort => exact answers_of_serve rfl hmay (serveMdel_short _)
  case putCount => exact answers_of_serve rfl hmay (serveMput_badCount hc)
  case putIdle => exact answers_of_serve rfl hmay (serveMput_idle (by omega) hm)
  case putRun =>
    obtain rfl := hrun.trans (foldl_putOne a.entries (dropRequest s) [])
    refine ⟨?_, answers_of_serve rfl hmay (serveMput_run (by omega) hm hlen)⟩
    rw [List.nil_append, List.length_map, putAll_length, hlen]
  case putOne =>
    rintro rfl hm
    refine ⟨fun hout => ?range, fun h1 h9 hcabin hgroup hprio hover => ?inRange⟩
    case range =>
      have hok : putOk p = false := by
        rw [← Bool.not_eq_true, putOk_iff]
        omega
      exact answers_of_serve rfl hmay (serveMput_one hm (putOne_range hok))
    case inRange =>
      have hok : putOk p = true := (putOk_iff p).2 ⟨⟨h1, h9⟩, hcabin, hgroup, hprio, hover⟩
      refine ⟨?_, fun hl hk => ?_, fun key hl hk =>
        ⟨withManifest (s.manifest.insertAt key (putEntry p)) (dropRequest s), ?_, rfl, fun _ _ => counterAt_countUp _ _ _⟩⟩
      · rintro key e u hl rfl
        exact answers_of_serve rfl hmay (serveMput_one hm (putOne_amended hok hl))
      · exact answers_of_serve rfl hmay (serveMput_one hm (putOne_full hok hl hk))
      · exact answers_of_serve rfl hmay (serveMput_one hm (putOne_inserted hok hl hk))
  case delIdle => exact answers_of_serve rfl hmay (serveMdel_idle _ hm)
  case delCount => exact answers_of_serve rfl hmay (serveMdel_badCount hm hc)
  case delRun =>
    obtain rfl := hrun.trans (foldl_deleteOne b.tags (dropRequest s) [])
    refine ⟨?_, answers_of_serve rfl hmay (serveMdel_run (by omega) hm hlen)⟩
    rw [List.nil_append, List.length_map, deleteAll_length, hlen]
  case delOne =>
    rintro tag rfl hm
    refine ⟨fun hout => ?_, fun h1 h9 hl => ?_, fun key e h1 h9 hl =>
      ⟨withManifest (s.manifest.removeAt key tag) (dropRequest s), ?_, rfl, fun hform _ => counterAt_countDown hform.1 _ _⟩⟩
    · exact answers_of_serve rfl hmay (serveMdel_one hm (deleteOne_range (tagOk_eq_false hout)))
    · exact answers_of_serve rfl hmay (serveMdel_one hm (deleteOne_absent ((tagOk_iff tag).2 ⟨h1, h9⟩) hl))
    · exact answers_of_serve rfl hmay (serveMdel_one hm (deleteOne_removed ((tagOk_iff tag).2 ⟨h1, h9⟩) hl))

end Sys2Proof.Machine
end

section
/-! # HOLD and RLSE, FBLD and the bucket scan (sections 4.4 to 4.6) -/

namespace Sys2Proof.Machine

open Sys2Proof

section
variable {s : State} {tag key : Nat} {e : Entry}

/-! ## HOLD and RLSE (R69, R70) -/

theorem serveHold_idle (arg : Option Nat) (hm : s.mode = .idle) : serveHold arg s = refuse .mode s := if_pos hm

theorem serveHold_some (hm : s.mode ≠ .idle) (tag : Nat) :
    serveHold (some tag) s = if tagOk tag then holdTag tag s else refuse .range s := if_neg hm

theorem serveRlse_idle (arg : Option Nat) (hm : s.mode = .idle) : serveRlse arg s = refuse .mode s := if_pos hm

theorem serveRlse_some (hm : s.mode ≠ .idle) (tag : Nat) :
    serveRlse (some tag) s = if tagOk tag then releaseTag tag s else refuse .range s := if_neg hm

theorem holdTag_held (hl : s.manifest.live tag = some (key, e)) (h : e.hold = true) :
    holdTag tag s = doneWith [.u8 0] s := by
  rw [holdTag, hl]
  exact if_pos h

theorem holdTag_live (hl : s.manifest.live tag = some (key, e)) (h : e.hold = false) :
    holdTag tag s =
      doneWith [.u8 0] (manifestChange .hold tag (withManifest (s.manifest.amendAt key { e with hold := true }) s)) := by
  rw [holdTag, hl]
  exact if_neg (by simp [h])

theorem holdTag_full (hl : s.manifest.live tag = none) (hk : s.manifest.freeKey tag = none) :
    holdTag tag s = refuse .full s := by
  rw [holdTag, hl]
  dsimp only
  rw [insertEntry_full (e := heldEntry tag) hk]

theorem holdTag_inserted (hl : s.manifest.live tag = none) (hk : s.manifest.freeKey tag = some key) :
    holdTag tag s =
      doneWith [.u8 1] (manifestChange .hold tag (withManifest (s.manifest.insertAt key (heldEntry tag)) s)) := by
  rw [holdTag, hl]
  dsimp only
  rw [insertEntry_free (e := heldEntry tag) hk]
  rfl

theorem releaseTag_absent (hl : s.manifest.live tag = none) : releaseTag tag s = refuse .notFound s := by
  rw [releaseTag, hl]

theorem releaseTag_live (hl : s.manifest.live tag = some (key, e)) :
    releaseTag tag s =
      doneWith [] (releaseStray tag e.cabin (withManifest (s.manifest.amendAt key { e with hold := false }) s)) := by
  rw [releaseTag, hl]

/-! ## The record that a test finds first (R154, R156) -/

theorem updateFirst_of_first {p : StrayRec → Bool} {f : StrayRec → StrayRec} {r : StrayRec} (after : List StrayRec)
    (hr : p r = true) : ∀ {before : List StrayRec}, (∀ x ∈ before, p x = false) →
      updateFirst p f (before ++ r :: after) = before ++ f r :: after
  | [], _ => if_pos hr
  | x :: before, h => by
    obtain ⟨hx, hrest⟩ := List.forall_mem_cons.1 h
    rw [List.cons_append, updateFirst, if_neg (by simp [hx]), updateFirst_of_first after hr hrest, List.cons_append]

theorem updateFirst_of_none {p : StrayRec → Bool} {f : StrayRec → StrayRec} {l : List StrayRec} (h : ∀ x ∈ l, p x = false) :
    updateFirst p f l = l := by
  rcases updateFirst_cases p f l with ⟨he, -⟩ | ⟨before, r, after, rfl, hr, -⟩
  · exact he
  · rw [h r (by simp)] at hr
    cases hr

theorem StrayRec.holds_eq_false {r : StrayRec} (h : r.tag ≠ tag ∧ r.resolvedTag ≠ tag) : r.holds tag = false := by
  simp [StrayRec.holds, h.1, h.2]

end

/-- Settles O30. -/
theorem entriesHeldAndReleased : Obligations.EntriesHeldAndReleased := by
  unfold Obligations.EntriesHeldAndReleased
  refine fun hdr tag s =>
    ⟨fun hmay => ⟨fun hm => answers_of_serve rfl hmay (serveHold_idle _ hm), fun hm hout => ?holdRange,
      fun hm h1 h9 => ?hold⟩,
    fun hmay => ⟨fun hm => answers_of_serve rfl hmay (serveRlse_idle _ hm), fun hm hout => ?rlseRange,
      fun hm h1 h9 => ?rlse⟩⟩
  case holdRange =>
    have hbad : ¬ tagOk tag = true := by simp [tagOk_eq_false hout]
    exact answers_of_serve rfl hmay ((serveHold_some (s := dropRequest s) hm tag).trans (if_neg hbad))
  case rlseRange =>
    have hbad : ¬ tagOk tag = true := by simp [tagOk_eq_false hout]
    exact answers_of_serve rfl hmay ((serveRlse_some (s := dropRequest s) hm tag).trans (if_neg hbad))
  case hold =>
    have served : serveHold (some tag) (dropRequest s) = holdTag tag (dropRequest s) :=
      (serveHold_some (s := dropRequest s) hm tag).trans (if_pos ((tagOk_iff tag).2 ⟨h1, h9⟩))
    refine ⟨fun key e hl => ⟨fun hh => ?_, fun hh => ?_⟩, fun hl hk => ?_,
      fun key hl hk => ⟨withManifest (s.manifest.insertAt key (heldEntry tag)) (dropRequest s), ?_, rfl⟩⟩
    · exact answers_of_serve rfl hmay (served.trans (holdTag_held hl hh))
    · exact answers_of_serve rfl hmay (served.trans (holdTag_live hl hh))
    · exact answers_of_serve rfl hmay (served.trans (holdTag_full hl hk))
    · exact answers_of_serve rfl hmay (served.trans (holdTag_inserted hl hk))
  case rlse =>
    have served : serveRlse (some tag) (dropRequest s) = releaseTag tag (dropRequest s) :=
      (serveRlse_some (s := dropRequest s) hm tag).trans (if_pos ((tagOk_iff tag).2 ⟨h1, h9⟩))
    have h0 : tag ≠ 0 := by omega
    refine ⟨fun hl => answers_of_serve rfl hmay (served.trans (releaseTag_absent hl)), fun key e hl =>
      ⟨releaseStray tag e.cabin (withManifest (s.manifest.amendAt key { e with hold := false }) (dropRequest s)),
        answers_of_serve rfl hmay (served.trans (releaseTag_live hl)), rfl, ?_, ?_⟩⟩
    · intro before r after hrecs hbefore hr
      exact (congrArg (updateFirst _ _) hrecs).trans
        (updateFirst_of_first after ((StrayRec.holds_iff h0 r).2 hr) fun x hx => StrayRec.holds_eq_false (hbefore x hx))
    · exact fun hnone => updateFirst_of_none fun x hx => StrayRec.holds_eq_false (hnone x hx)

/-! ## FBLD (R73) and the bucket scan (R74, R77) -/

section
variable {s : State} {r : Rebuild}

theorem serveFbld_idle (hm : s.mode = .idle) : serveFbld s = refuse .mode s := if_pos hm

theorem serveFbld_busy (hm : s.mode ≠ .idle) (hr : s.manifest.rebuild ≠ none) : serveFbld s = refuse .busy s := by
  rw [serveFbld, if_neg hm, if_pos (Option.isSome_iff_ne_none.2 hr)]

theorem serveFbld_starts (hm : s.mode ≠ .idle) (hr : s.manifest.rebuild = none) :
    serveFbld s = doneWith [] (startRebuild s) := by
  rw [serveFbld, if_neg hm, if_neg (by simp [hr])]

theorem bucketScan_idle (h : s.manifest.rebuild = none) : bucketScan s = s := by rw [bucketScan, h]

theorem bucketScan_goes_on (h : s.manifest.rebuild = some r) (hlt : r.scanPoint < 1020) :
    bucketScan s =
      { s with
        manifest :=
          { s.manifest with
            rebuild := some { scanPoint := r.scanPoint + 1, fresh := scanBucket s.manifest r } } } := by
  have hnext : r.scanPoint + 1 < Config.buckets := Nat.succ_lt_succ hlt
  rw [bucketScan, h]
  dsimp only
  rw [if_pos hnext, Manifest.scan, if_pos hnext]

theorem bucketScan_ends (h : s.manifest.rebuild = some r) (hlast : r.scanPoint = 1020) :
    bucketScan s =
      notify (filterDoneNotice { s.manifest with filter := scanBucket s.manifest r })
        { s with
          manifest :=
            { s.manifest with
              filter := scanBucket s.manifest r
              rebuild := none
              rebuildsDone := satInc 65535 s.manifest.rebuildsDone } } := by
  have hend : ¬ r.scanPoint + 1 < Config.buckets := by
    rw [hlast]
    decide
  rw [bucketScan, h]
  dsimp only
  rw [if_neg hend, Manifest.scan, if_neg hend]
  rfl

/-- A filter in its form lists just the counters that are not 0. -/
theorem filterDoneNotice_eq {m : Manifest} (h : FilterForm m.filter) :
    filterDoneNotice m =
      { Notice.of .filterDone with
        detail1 := ((m.filter.filter (fun x => x.2 == 15)).length : Nat)
        detail2 := (m.filter.length : Nat) } := by
  have hnonzero : m.nonzeroCells = m.filter.length :=
    congrArg List.length (List.filter_eq_self.2 fun x hx => bne_iff_ne.2 (Nat.one_le_iff_ne_zero.1 (h.2 x hx).1))
  rw [filterDoneNotice, hnonzero]
  rfl

end

/-- Settles O31: FBLD by its checks in order, a bucket scan by the scan point. -/
theorem filterRebuild : Obligations.FilterRebuild := by
  unfold Obligations.FilterRebuild
  refine ⟨fun hdr s hmay => ⟨fun hm => ?_, fun hm hr => ?_, fun hm hr => ?_⟩,
    fun s => ⟨bucketScan s, rfl, bucketScan_idle, fun r hr hform =>
      ⟨scanBucket s.manifest r, fun cell => counterAt_foldl_countUp cell _ hform, bucketScan_goes_on hr, fun hlast => ?_⟩⟩⟩
  · exact answers_of_serve rfl hmay (serveFbld_idle hm)
  · exact answers_of_serve rfl hmay (serveFbld_busy hm hr)
  · exact ⟨startRebuild (dropRequest s), { scanPoint := 0, fresh := [] }, answers_of_serve rfl hmay (serveFbld_starts hm hr),
      rfl, rfl, fun _ => rfl⟩
  · exact (bucketScan_ends hr hlast).trans
      (congrArg (notify · _) (filterDoneNotice_eq (m := { s.manifest with filter := _ }) (filterForm_foldl_countUp _ hform)))

end Sys2Proof.Machine
end

section
/-! # The stray requests SDEL, SRD and SRES (sections 4.6 and 8.4) -/

namespace Sys2Proof.Machine

open Sys2Proof

section
variable {s : State} {serial : Nat} {before after : List StrayRec} {r : StrayRec}

/-! ## The record that bears a serial (R147) -/

theorem bearsSerial_none (h : ∀ x ∈ s.strays.recs, x.serial ≠ serial) :
    s.strays.recs.any (fun x => x.serial == serial) = false :=
  List.any_eq_false.2 fun x hx => by simpa using h x hx

theorem bearsSerial_first (h : s.strays.recs = before ++ r :: after) (hr : r.serial = serial) :
    s.strays.recs.any (fun x => x.serial == serial) = true := by simp [h, hr]

theorem serial_beq_false (h : ∀ x ∈ before, x.serial ≠ serial) : ∀ x ∈ before, (x.serial == serial) = false :=
  fun x hx => by simpa using h x hx

/-! ## SDEL (R157) -/

theorem serveSdel_absent (h0 : serial ≠ 0) (h : ∀ x ∈ s.strays.recs, x.serial ≠ serial) :
    serveSdel (some serial) s = refuse .notFound s := by
  rw [serveSdel, if_neg h0, bearsSerial_none h]
  rfl

theorem serveSdel_first (h0 : serial ≠ 0) (h : s.strays.recs = before ++ r :: after) (hr : r.serial = serial)
    (hbefore : ∀ x ∈ before, x.serial ≠ serial) :
    serveSdel (some serial) s = doneWith [] { s with strays := { s.strays with recs := before ++ after } } := by
  have herase : s.strays.recs.eraseP (fun x => x.serial == serial) = before ++ after := by
    rw [h, List.eraseP_append_right _ fun x hx => by simpa using hbefore x hx, List.eraseP_cons_of_pos (by simp [hr])]
  rw [serveSdel, if_neg h0, bearsSerial_first h hr, herase]
  rfl

/-! ## SRD (R155) -/

theorem strayData_eq (r : StrayRec) : r.data = strayValues r := by
  unfold StrayRec.data strayValues
  cases r.reason <;> rfl

theorem pageFrom_none (h0 : serial ≠ 0) (h : ∀ x ∈ s.strays.recs, x.serial ≠ serial) :
    s.strays.pageFrom serial = none := by
  rw [StrayList.pageFrom, if_neg h0, bearsSerial_none h]
  rfl

/-- The list from serial 0, or from the record that bears the serial onward. -/
theorem pageFrom_some {tail : List StrayRec} (h : s.strays.recs = before ++ tail)
    (hfrom : (serial = 0 ∧ before = []) ∨
      (serial ≠ 0 ∧ (∀ x ∈ before, x.serial ≠ serial) ∧ ∃ r more, tail = r :: more ∧ r.serial = serial)) :
    s.strays.pageFrom serial = some tail := by
  rcases hfrom with ⟨h0, rfl⟩ | ⟨h0, hbefore, r, more, rfl, hr⟩
  · rw [StrayList.pageFrom, if_pos h0, h, List.nil_append]
  · have hdrop : s.strays.recs.dropWhile (fun x => x.serial != serial) = r :: more := by
      rw [h, List.dropWhile_append_of_pos fun x hx => by simpa using hbefore x hx,
        List.dropWhile_cons_of_neg (by simp [hr])]
    rw [StrayList.pageFrom, if_neg h0, bearsSerial_first h hr, hdrop]
    rfl

/-- The results of a page that n records fill, or that ends the list. -/
theorem pageData_eq (l : StrayList) {page rest : List StrayRec} {n : Nat}
    (h : page.length = n ∨ (page.length < n ∧ rest = [])) :
    l.pageData (page ++ rest) n =
      .u8 page.length :: page.flatMap strayValues ++
        [.u16 l.recs.length, .u16 (l.recs.filter (fun x => !x.resolved)).length,
          .u16 ((rest.head?.map StrayRec.serial).getD 0)] := by
  obtain ⟨htake, hdrop⟩ : (page ++ rest).take n = page ∧ (page ++ rest).drop n = rest := by
    rcases h with rfl | ⟨hlt, rfl⟩
    · exact ⟨List.take_left, List.drop_left⟩
    · rw [List.append_nil]
      exact ⟨List.take_of_length_le hlt.le, List.drop_of_length_le hlt.le⟩
  rw [StrayList.pageData, htake, hdrop, funext strayData_eq]
  rfl

theorem serveSrd_badCount {a : SrdArg} (h : a.count = 0 ∨ 16 < a.count) : serveSrd (some a) s = refuse .range s := if_pos h

theorem serveSrd_absent {a : SrdArg} (hc : ¬ (a.count = 0 ∨ 16 < a.count)) (h : s.strays.pageFrom a.serial = none) :
    serveSrd (some a) s = refuse .notFound s := by
  rw [serveSrd, if_neg hc, h]

theorem serveSrd_page {a : SrdArg} {tail : List StrayRec} (hc : ¬ (a.count = 0 ∨ 16 < a.count))
    (h : s.strays.pageFrom a.serial = some tail) :
    serveSrd (some a) s = doneWith (s.strays.pageData tail (min strayPage a.count)) s := by
  rw [serveSrd, if_neg hc, h]

/-! ## SRES (R71, R156) -/

section
variable {a : SresArg}

theorem serveSres_absent (h0 : a.serial ≠ 0) (h : ∀ x ∈ s.strays.recs, x.serial ≠ a.serial) :
    serveSres (some a) s = refuse .notFound s := by
  rw [serveSres, if_neg h0, if_pos (bearsSerial_none h)]

theorem heldByOther_iff :
    s.strays.heldByOther a.serial a.tag = true ↔
      a.tag ≠ 0 ∧ ∃ x ∈ s.strays.recs, x.serial ≠ a.serial ∧ (x.tag = a.tag ∨ x.resolvedTag = a.tag) := by
  simp only [StrayList.heldByOther, List.any_eq_true, Bool.and_eq_true, bne_iff_ne, StrayRec.holds, Bool.or_eq_true, beq_iff_eq]
  constructor
  · rintro ⟨x, hx, hs, h0, ht⟩
    exact ⟨h0, x, hx, hs, ht⟩
  · rintro ⟨h0, x, hx, hs, ht⟩
    exact ⟨x, hx, hs, h0, ht⟩

theorem serveSres_duplicate (h0 : a.serial ≠ 0) (h : s.strays.recs.any (fun x => x.serial == a.serial) = true)
    (hheld : s.strays.heldByOther a.serial a.tag = true) : serveSres (some a) s = refuse .duplicate s := by
  rw [serveSres, if_neg h0, if_neg (by simp [h]), if_pos hheld]

/-- SRES of a record that no other shares the tag with. -/
theorem serveSres_resolves (h0 : a.serial ≠ 0) (h : s.strays.recs.any (fun x => x.serial == a.serial) = true)
    (hheld : ¬ s.strays.heldByOther a.serial a.tag = true) : serveSres (some a) s = resolveStray a s := by
  rw [serveSres, if_neg h0, if_neg (by simp [h]), if_neg hheld]

theorem resolveStray_idle (hm : s.mode = .idle) : resolveStray a s = refuse .mode s := if_pos hm

theorem resolveStray_range (hm : s.mode ≠ .idle) (h : a.tag = 0 ∨ 999999999 < a.tag ∨ 9999 < a.cabin) :
    resolveStray a s = refuse .range s := by
  have hbad : tagOk a.tag = false ∨ Config.cabinMax < a.cabin := by
    rcases h with h | h | h
    · exact .inl (tagOk_eq_false (.inl h))
    · exact .inl (tagOk_eq_false (.inr h))
    · exact .inr h
  rw [resolveStray, if_neg hm, if_pos hbad]

/-- The values of an SRES that passes its checks (R71). -/
def SresInRange (a : SresArg) : Prop := (1 ≤ a.tag ∧ a.tag ≤ 999999999) ∧ a.cabin ≤ 9999

theorem SresInRange.not_bad (h : SresInRange a) : ¬ (tagOk a.tag = false ∨ Config.cabinMax < a.cabin) := by
  rintro (hbad | hbad)
  · rw [(tagOk_iff _).2 h.1] at hbad
    cases hbad
  · exact Nat.not_lt.2 h.2 hbad

theorem resolveStray_full (hm : s.mode ≠ .idle) (h : SresInRange a) (hl : s.manifest.live a.tag = none)
    (hk : s.manifest.freeKey a.tag = none) : resolveStray a s = refuse .full s := by
  rw [resolveStray, if_neg hm, if_neg h.not_bad, hl]
  dsimp only
  rw [insertEntry_full (e := strayEntry a.tag a.cabin) hk]

theorem resolveStray_inserted {key : Nat} (hm : s.mode ≠ .idle) (h : SresInRange a) (hl : s.manifest.live a.tag = none)
    (hk : s.manifest.freeKey a.tag = some key) :
    resolveStray a s =
      doneWith [.u8 1]
        (resolveRecord a.serial a.tag a.cabin (withManifest (s.manifest.insertAt key (strayEntry a.tag a.cabin)) s)) := by
  rw [resolveStray, if_neg hm, if_neg h.not_bad, hl]
  dsimp only
  rw [insertEntry_free (e := strayEntry a.tag a.cabin) hk]

theorem resolveStray_amended {key : Nat} {e : Entry} (hm : s.mode ≠ .idle) (h : SresInRange a)
    (hl : s.manifest.live a.tag = some (key, e)) :
    resolveStray a s =
      doneWith [.u8 2]
        (resolveRecord a.serial a.tag a.cabin
          (handAmend e.cabin a.cabin a.tag (withManifest (s.manifest.amendAt key { e with cabin := a.cabin }) s))) := by
  rw [resolveStray, if_neg hm, if_neg h.not_bad, hl]

/-- The first record that bears the serial is resolved. -/
theorem resolveRecord_first (h : s.strays.recs = before ++ r :: after) (hr : r.serial = serial)
    (hbefore : ∀ x ∈ before, x.serial ≠ serial) (tag cabin : Nat) :
    resolveRecord serial tag cabin s =
      { s with strays := { s.strays with recs := before ++ r.resolve tag cabin :: after } } := by
  rw [resolveRecord, h, updateFirst_of_first after (by simp [hr]) (serial_beq_false hbefore)]
  rfl

end

end

/-- Settles O48: each request by its checks in order; the record found is the first that bears the serial. -/
theorem strayRequests : Obligations.StrayRequests := by
  unfold Obligations.StrayRequests
  refine fun hdr s =>
    ⟨fun hmay => answers_of_serve (x := refuse .range (dropRequest s)) rfl hmay rfl,
    fun hmay => answers_of_serve (x := refuse .range (dropRequest s)) rfl hmay rfl,
    fun hmay => answers_of_serve (x := refuse .range (dropRequest s)) rfl hmay rfl,
    fun serial hmay => ⟨fun h0 => ?sdelZero, fun h0 hnone => ?sdelAbsent, fun before r after h0 hrecs hr hbefore => ?sdel⟩,
    fun a hmay => ⟨fun hc => ?srdCount, fun h1 h16 h0 hnone => ?srdAbsent,
      fun before page rest h1 h16 hrecs hfrom hlen => ?srd⟩,
    fun a hmay => ⟨fun h0 => ?sresZero, fun h0 hnone => ?sresAbsent, fun before r after h0 hrecs hr hbefore => ?sres⟩⟩
  case sdelZero => exact answers_of_serve (x := refuse .range (dropRequest s)) rfl hmay (if_pos h0)
  case sdelAbsent => exact answers_of_serve rfl hmay (serveSdel_absent h0 hnone)
  case sdel => exact answers_of_serve rfl hmay (serveSdel_first (s := dropRequest s) h0 hrecs hr hbefore)
  case srdCount => exact answers_of_serve rfl hmay (serveSrd_badCount hc)
  case srdAbsent =>
    exact answers_of_serve rfl hmay (serveSrd_absent (by omega) (pageFrom_none (s := dropRequest s) h0 hnone))
  case srd =>
    have hpage : (dropRequest s).strays.pageFrom a.serial = some (page ++ rest) :=
      pageFrom_some (hrecs.trans (List.append_assoc _ _ _)) hfrom
    have hserved := serveSrd_page (by omega) hpage
    rw [pageData_eq (n := min strayPage a.count) _ hlen] at hserved
    exact answers_of_serve rfl hmay hserved
  case sresZero => exact answers_of_serve (x := refuse .range (dropRequest s)) rfl hmay (if_pos h0)
  case sresAbsent => exact answers_of_serve rfl hmay (serveSres_absent h0 hnone)
  case sres =>
    have hbears : (dropRequest s).strays.recs.any (fun x => x.serial == a.serial) = true :=
      bearsSerial_first (s := dropRequest s) hrecs hr
    refine ⟨fun ht hdup => ?duplicate, fun hfree => ?single⟩
    case duplicate => exact answers_of_serve rfl hmay (serveSres_duplicate h0 hbears (heldByOther_iff.2 ⟨ht, hdup⟩))
    case single =>
      have hheld : ¬ (dropRequest s).strays.heldByOther a.serial a.tag = true := by
        rw [heldByOther_iff]
        rintro ⟨ht, x, hx, hs, hxt⟩
        obtain ⟨h1, h2⟩ := hfree.resolve_left ht x hx hs
        exact hxt.elim h1 h2
      have served := serveSres_resolves h0 hbears hheld
      refine ⟨fun hm => ?_, fun hm hbad => ?_, fun hm h1 h9 hcabin => ?resolved⟩
      · exact answers_of_serve rfl hmay (served.trans (resolveStray_idle hm))
      · exact answers_of_serve rfl hmay (served.trans (resolveStray_range hm hbad))
      case resolved =>
        have hin : SresInRange a := ⟨⟨h1, h9⟩, hcabin⟩
        refine ⟨fun hl hk => ?full, fun key hl hk => ?inserted, fun key e hl he => ?sameCabin, fun key e hl he => ?amended⟩
        case full => exact answers_of_serve rfl hmay (served.trans (resolveStray_full hm hin hl hk))
        case inserted =>
          have hinserted := served.trans (resolveStray_inserted hm hin hl hk)
          rw [resolveRecord_first (s := withManifest _ (dropRequest s)) hrecs hr hbefore] at hinserted
          exact ⟨_, answers_of_serve rfl hmay hinserted, rfl⟩
        case sameCabin =>
          have hamended := served.trans (resolveStray_amended hm hin hl)
          rw [handAmend, if_pos he,
            resolveRecord_first (s := withManifest _ (dropRequest s)) hrecs hr hbefore] at hamended
          exact answers_of_serve rfl hmay hamended
        case amended =>
          have hamended := served.trans (resolveStray_amended hm hin hl)
          rw [handAmend, if_neg he] at hamended
          exact ⟨_, rfl, answers_of_serve rfl hmay hamended⟩

end Sys2Proof.Machine
end

section
/-! # The choice of a chute and the scan of the rule list (sections 5.2 to 5.4) -/

namespace Sys2Proof.Machine

open Sys2Proof

/-! ## Acceptance (R85) -/

theorem Chute.accepts_iff (c : Chute) : c.accepts = true ↔ c.state = .opened ∧ c.queue.length < 8 := by
  simp only [Chute.accepts, Bool.and_eq_true, beq_iff_eq, decide_eq_true_eq]
  rfl

section
variable {chutes : List Chute} {set : List Nat} {j b : Nat} {c d : Chute}

/-! ## The choice among a set (R86) -/

/-- Chute c of number j stands in the table and accepts. -/
def Accepting (chutes : List Chute) (j : Nat) (c : Chute) : Prop := chutes[j]? = some c ∧ c.accepts = true

/-- Chute j, whose record is c, is preferred to a chute d of number b: more room, or equal room and no greater number. -/
def Preferred (j : Nat) (c : Chute) (b : Nat) (d : Chute) : Prop := d.room < c.room ∨ (d.room = c.room ∧ j ≤ b)

/-- Chute j accepts, and is preferred to every accepting chute of the set. -/
def BestOf (chutes : List Chute) (set : List Nat) (j : Nat) : Prop :=
  j ∈ set ∧ ∃ c, Accepting chutes j c ∧ ∀ b ∈ set, ∀ d, Accepting chutes b d → Preferred j c b d

/-- A choice among the set: the best of it, or none where none accepts. -/
def ChoiceOf (chutes : List Chute) (set : List Nat) : Option Nat → Prop
  | some j => BestOf chutes set j
  | none => ∀ b ∈ set, ∀ d, ¬ Accepting chutes b d

theorem Accepting.unique (h : Accepting chutes j c) (h' : Accepting chutes j d) : c = d :=
  Option.some.inj (h.1.symm.trans h'.1)

theorem Preferred.trans {i : Nat} {e : Chute} (h : Preferred i e j c) (h' : Preferred j c b d) : Preferred i e b d := by
  unfold Preferred at *
  omega

/-- Only one chute is the best of a set. -/
theorem BestOf.unique (h : BestOf chutes set j) (h' : BestOf chutes set b) : j = b := by
  obtain ⟨hj, c, hc, hbest⟩ := h
  obtain ⟨hb, d, hd, hbest'⟩ := h'
  have h1 := hbest b hb d hd
  have h2 := hbest' j hj c hc
  unfold Preferred at h1 h2
  omega

/-- A chute that does not accept leaves the choice as it stands. -/
theorem betterChute_of_refuses {best : Option Nat} (h : ∀ d, ¬ Accepting chutes j d) : betterChute chutes best j = best := by
  unfold betterChute
  split
  · rfl
  · rename_i c hc
    rw [if_neg fun ha => h c ⟨hc, ha⟩]

/-- The first chute that accepts is chosen. -/
theorem betterChute_first (h : Accepting chutes j c) : betterChute chutes none j = some j := by
  obtain ⟨hc, ha⟩ := h
  simp only [betterChute, hc, ha, if_true]

/-- Of two chutes that accept, the preferred one is chosen. -/
theorem betterChute_of_accepts (hc : Accepting chutes j c) (hd : Accepting chutes b d) :
    betterChute chutes (some b) j = if d.room < c.room ∨ (d.room = c.room ∧ j < b) then some j else some b := by
  obtain ⟨hc, ha⟩ := hc
  obtain ⟨hd, -⟩ := hd
  simp only [betterChute, hc, ha, hd, if_true]

/-- One more chute of the set. -/
theorem ChoiceOf.more {best : Option Nat} (h : ChoiceOf chutes set best) (j : Nat) :
    ChoiceOf chutes (set ++ [j]) (betterChute chutes best j) := by
  have split_mem : ∀ {n}, n ∈ set ++ [j] → n ∈ set ∨ n = j := by simp
  by_cases hj : ∃ c, Accepting chutes j c
  · obtain ⟨c, hc⟩ := hj
    cases best with
    | none =>
      rw [betterChute_first hc]
      refine ⟨by simp, c, hc, fun n hn d hd => ?_⟩
      rcases split_mem hn with hn | rfl
      · exact absurd hd (h n hn d)
      · exact .inr ⟨by rw [hc.unique hd], le_rfl⟩
    | some b =>
      obtain ⟨hb, d, hd, hbest⟩ := h
      rw [betterChute_of_accepts hc hd]
      split
      · rename_i hwin
        have hover : Preferred j c b d := hwin.imp_right fun ⟨he, hl⟩ => ⟨he, hl.le⟩
        refine ⟨by simp, c, hc, fun n hn e he => ?_⟩
        rcases split_mem hn with hn | rfl
        · exact hover.trans (hbest n hn e he)
        · exact .inr ⟨by rw [hc.unique he], le_rfl⟩
      · rename_i hlose
        refine ⟨by simp [hb], d, hd, fun n hn e he => ?_⟩
        rcases split_mem hn with hn | rfl
        · exact hbest n hn e he
        · rw [← hc.unique he]
          unfold Preferred
          omega
  · have hno : ∀ d, ¬ Accepting chutes j d := not_exists.1 hj
    rw [betterChute_of_refuses hno]
    cases best with
    | none =>
      intro n hn d
      rcases split_mem hn with hn | rfl
      · exact h n hn d
      · exact hno d
    | some b =>
      obtain ⟨hb, d, hd, hbest⟩ := h
      refine ⟨by simp [hb], d, hd, fun n hn e he => ?_⟩
      rcases split_mem hn with hn | rfl
      · exact hbest n hn e he
      · exact absurd he (hno e)

theorem chooseChute_choice (chutes : List Chute) (set : List Nat) : ChoiceOf chutes set (chooseChute chutes set) := by
  induction set using List.reverseRecOn with
  | nil => exact fun _ hb => nomatch hb
  | append_singleton set j ih =>
    rw [chooseChute, List.foldl_append]
    exact ih.more j

theorem chooseChute_eq_some_iff : chooseChute chutes set = some j ↔ BestOf chutes set j := by
  have h := chooseChute_choice chutes set
  refine ⟨fun he => by rwa [he] at h, fun hj => ?_⟩
  obtain ⟨hmem, c, hc, -⟩ := id hj
  cases he : chooseChute chutes set with
  | none =>
    rw [he] at h
    exact absurd hc (h j hmem c)
  | some b =>
    rw [he] at h
    rw [BestOf.unique h hj]

theorem chooseChute_eq_none_iff : chooseChute chutes set = none ↔ ∀ j ∈ set, ∀ c, ¬ Accepting chutes j c := by
  have h := chooseChute_choice chutes set
  refine ⟨fun he => by rwa [he] at h, fun hno => ?_⟩
  cases he : chooseChute chutes set with
  | none => rfl
  | some b =>
    rw [he] at h
    obtain ⟨hmem, c, hc, -⟩ := h
    exact absurd hc (hno b hmem c)

/-- The chute chosen accepts. -/
theorem chooseChute_accepts (h : chooseChute chutes set = some j) : ∃ c, chutes[j]? = some c ∧ c.accepts = true := by
  obtain ⟨-, c, hc, -⟩ := chooseChute_eq_some_iff.1 h
  exact ⟨c, hc⟩

/-- A chute alone is chosen when it accepts. -/
theorem chooseChute_single : chooseChute chutes [j] = some b ↔ b = j ∧ ∃ c, Accepting chutes j c := by
  rw [chooseChute_eq_some_iff]
  constructor
  · rintro ⟨hb, c, hc, -⟩
    obtain rfl := List.mem_singleton.1 hb
    exact ⟨rfl, c, hc⟩
  · rintro ⟨rfl, c, hc⟩
    refine ⟨List.mem_singleton_self _, c, hc, fun n hn d hd => ?_⟩
    obtain rfl := List.mem_singleton.1 hn
    exact .inr ⟨by rw [hc.unique hd], le_rfl⟩

end

/-- Settles O33: the choice so far stays the best of the chutes read, one chute more at a time, and only one chute of a set is its
best. -/
theorem chuteChosen : Obligations.ChuteChosen := by
  unfold Obligations.ChuteChosen
  intro chutes set
  refine ⟨fun j => ?_, ?_⟩
  · rw [chooseChute_eq_some_iff]
    simp only [BestOf, Accepting, Chute.accepts_iff, Preferred, Chute.room, Chute.count, Chute.queued, and_imp, and_assoc]
  · rw [chooseChute_eq_none_iff]
    simp only [Accepting, Chute.accepts_iff, not_and, not_lt, Decidable.imp_iff_not_or]

/-! ## Matches and actions (R84 to R86) -/

theorem Match.fits_iff (p : Placed) (m : Match) :
    m.fits p = true ↔
      match m with
      | .zone lo hi => lo ≤ p.zone ∧ p.zone ≤ hi
      | .deck lo hi sec => lo ≤ p.deck ∧ p.deck ≤ hi ∧ ∀ x ∈ sec, x = p.sec
      | .group v => p.group = v
      | .flag f => (f = .priority ∧ p.priority = true) ∨ (f = .oversize ∧ p.oversize = true)
      | .tag lo hi => lo ≤ p.tag ∧ p.tag ≤ hi
      | .any => True
      | .reason _ => False := by
  cases m with
  | zone lo hi => simp [Match.fits]
  | deck lo hi sec => cases sec <;> simp [Match.fits, and_assoc]
  | group v => simp [Match.fits]
  | flag f => cases f <;> simp [Match.fits]
  | tag lo hi => simp [Match.fits]
  | any => simp [Match.fits]
  | reason r => simp [Match.fits]

theorem Match.fitsStray_iff (reason : StrayReason) (m : Match) : m.fitsStray reason = true ↔ m = .reason reason := by
  cases m <;> simp [Match.fitsStray]

/-- An action that can be carried out, and what it gives. -/
theorem Action.try_iff (chutes : List Chute) (a : Action) (t : Taken) :
    a.try chutes = some t ↔
      match a with
      | .toChute j => t = .chute j ∧ ∃ c, Accepting chutes j c
      | .toSet set => ∃ j, t = .chute j ∧ chooseChute chutes set = some j
      | .recirculate => t = .recirculate
      | .stray => t = .stray := by
  cases a with
  | toChute j =>
    simp only [Action.try, Option.map_eq_some_iff, chooseChute_single]
    constructor
    · rintro ⟨_, ⟨rfl, hc⟩, rfl⟩
      exact ⟨rfl, hc⟩
    · rintro ⟨rfl, hc⟩
      exact ⟨j, ⟨rfl, hc⟩, rfl⟩
  | toSet set =>
    simp only [Action.try, Option.map_eq_some_iff]
    exact exists_congr fun j => by rw [and_comm, eq_comm (b := t)]
  | recirculate => simp [Action.try, eq_comm]
  | stray => simp [Action.try, eq_comm]

/-! ## The scan of the rule list (R87, R88) -/

section
variable {chutes : List Chute} {fits : Match → Bool} {rules rest : List Rule} {r : Rule}

/-- A rule that the scan passes over: PASSED rises where it is enabled and matches. -/
def Rule.passedOver (fits : Match → Bool) (r : Rule) : Rule :=
  if r.enabled && fits r.mtch then { r with passed := satInc 65535 r.passed } else r

/-- A rule that is enabled and matches. -/
def Rule.matching (fits : Match → Bool) (r : Rule) : Prop := r.enabled = true ∧ fits r.mtch = true

theorem scanRules_taken {t : Taken} (h : r.matching fits) (ht : r.action.try chutes = some t) :
    scanRules chutes fits (r :: rest) = ({ r with taken := satInc 65535 r.taken } :: rest, some t) := by
  obtain ⟨he, hm⟩ := h
  simp only [scanRules, he, hm, Bool.and_self, if_true, ht]
  rfl

theorem scanRules_passed (h : r.matching fits → r.action.try chutes = none) :
    scanRules chutes fits (r :: rest) =
      (r.passedOver fits :: (scanRules chutes fits rest).1, (scanRules chutes fits rest).2) := by
  rw [scanRules, Rule.passedOver]
  split
  · rename_i hm
    simp only [h (by simpa [Rule.matching] using hm), Config.tallyMax]
  · rfl

/-- The scan takes the first rule that matches and can be carried out, or passes every rule over. -/
theorem scanRules_cases (chutes : List Chute) (fits : Match → Bool) : ∀ rules : List Rule,
    (∃ before r after t, rules = before ++ r :: after ∧ r.matching fits ∧ r.action.try chutes = some t ∧
        (∀ b ∈ before, b.matching fits → b.action.try chutes = none) ∧
        scanRules chutes fits rules =
          (before.map (Rule.passedOver fits) ++ { r with taken := satInc 65535 r.taken } :: after, some t)) ∨
      ((∀ b ∈ rules, b.matching fits → b.action.try chutes = none) ∧
        scanRules chutes fits rules = (rules.map (Rule.passedOver fits), none))
  | [] => .inr ⟨nofun, rfl⟩
  | r :: rest => by
    by_cases h : r.matching fits ∧ ∃ t, r.action.try chutes = some t
    · obtain ⟨hm, t, ht⟩ := h
      exact .inl ⟨[], r, rest, t, rfl, hm, ht, nofun, scanRules_taken hm ht⟩
    · have hpass : r.matching fits → r.action.try chutes = none := fun hm =>
        Option.eq_none_iff_forall_ne_some.2 fun t ht => h ⟨hm, t, ht⟩
      rw [scanRules_passed hpass]
      rcases scanRules_cases chutes fits rest with ⟨before, r', after, t, rfl, hm, ht, hb, hs⟩ | ⟨hb, hs⟩
      · refine .inl ⟨r :: before, r', after, t, rfl, hm, ht, fun b hmem => ?_, by rw [hs]; rfl⟩
        rcases List.mem_cons.1 hmem with rfl | hmem
        · exact hpass
        · exact hb b hmem
      · refine .inr ⟨fun b hmem => ?_, by rw [hs]; rfl⟩
        rcases List.mem_cons.1 hmem with rfl | hmem
        · exact hpass
        · exact hb b hmem

/-- A chute that the scan gives accepts. -/
theorem scanRules_chute_accepts {j : Nat} (h : (scanRules chutes fits rules).2 = some (.chute j)) :
    ∃ c, chutes[j]? = some c ∧ c.accepts = true := by
  rcases scanRules_cases chutes fits rules with ⟨_, r, _, t, -, -, ht, -, hs⟩ | ⟨-, hs⟩
  · rw [hs] at h
    obtain rfl := Option.some.inj h
    rw [Action.try_iff] at ht
    cases ha : r.action with
    | toChute i =>
      simp only [ha] at ht
      obtain ⟨he, hc⟩ := ht
      cases he
      exact hc
    | toSet set =>
      simp only [ha] at ht
      obtain ⟨i, he, hc⟩ := ht
      cases he
      exact chooseChute_accepts hc
    | recirculate => simp [ha] at ht
    | stray => simp [ha] at ht
  · rw [hs] at h
    cases h

end

/-- Settles O34: each rule of the list is the one taken, or is passed over and the scan goes on behind it. -/
theorem firstRuleTaken : Obligations.FirstRuleTaken := by
  unfold Obligations.FirstRuleTaken
  refine ⟨Match.fits_iff, Match.fitsStray_iff, fun chutes a t => ?_, fun chutes fits rules pass hpass => ?_⟩
  · rw [Action.try_iff]
    cases a <;> simp only [Accepting, Chute.accepts_iff]
  · have hpass' : pass = Rule.passedOver fits := hpass
    rw [hpass']
    rcases scanRules_cases chutes fits rules with ⟨before, r, after, t, hr, ⟨he, hm⟩, ht, hb, hs⟩ | ⟨hb, hs⟩
    · rw [hs]
      refine ⟨?_, nofun⟩
      rintro _ _ ⟨⟩
      exact ⟨before, r, after, hr, he, hm, ht, fun b hmem he hm => hb b hmem ⟨he, hm⟩, rfl⟩
    · rw [hs]
      refine ⟨nofun, ?_⟩
      rintro _ ⟨⟩
      exact ⟨rfl, fun b hmem he hm => hb b hmem ⟨he, hm⟩⟩

end Sys2Proof.Machine
end

section
/-! # The resolution of a route (sections 5.1, 5.4 and 5.5) -/

namespace Sys2Proof.Machine

open Sys2Proof

section
variable {s : State} {k tag cabin n : Nat} {p : Placed} {z : Zone}

/-! ## Zones (R81) -/

/-- A cabin above every ending is in no zone. -/
theorem zoneOf_eq_none {zones : List Zone} (h : ∀ z ∈ zones, z.ending < cabin) : zoneOf zones cabin = none := by
  rw [zoneOf, List.findIdx?_eq_none_iff]
  exact fun z hz => decide_eq_false (Nat.not_le_of_lt (h z hz))

/-- The first zone whose ending is not below the cabin. -/
theorem zoneOf_eq_some {zones : List Zone} (hz : zones[n]? = some z) (hc : cabin ≤ z.ending)
    (hbefore : ∀ (i : Nat) (w : Zone), i < n → zones[i]? = some w → w.ending < cabin) : zoneOf zones cabin = some n := by
  obtain ⟨hn, rfl⟩ := List.getElem?_eq_some_iff.1 hz
  rw [zoneOf, List.findIdx?_eq_some_iff_getElem]
  refine ⟨hn, decide_eq_true hc, fun i hi => ?_⟩
  have := hbefore i _ hi (List.getElem?_eq_getElem (hi.trans hn))
  simpa using this

/-! ## Strays (R88, R90, R91) -/

/-- The stray set gives its best accepting chute, or blocks the stray. -/
theorem tryStraySet_tried (k tag : Nat) (reason : StrayReason) (s : State) :
    StraySetTried k tag reason s (tryStraySet k tag reason s) := by
  refine ⟨fun j hj => ?_, fun hno => ?_⟩
  · rw [tryStraySet, hj]
    rfl
  · rw [tryStraySet, hno]
    rfl

/-- What a stray verdict does with the outcome of the scan. -/
theorem routeStray_eq (k tag : Nat) (reason : StrayReason) (s : State) {scan : List Rule × Option Taken}
    (hscan : scan = scanRules s.carts.chutes (Match.fitsStray reason) s.router.rules) :
    routeStray k tag reason s =
      match scan.2 with
      | some (.chute j) => (withRouter { s.router with rules := scan.1 } s, .chute j .stray)
      | some .recirculate =>
        if s.mode = .draining then
          tryStraySet k tag reason (countReplaced (withRouter { s.router with rules := scan.1 } s))
        else (withRouter { s.router with rules := scan.1 } s, .recirculate)
      | some .stray => tryStraySet k tag reason (withRouter { s.router with rules := scan.1 } s)
      | none => tryStraySet k tag reason (withRouter { s.router with rules := scan.1 } s) := by
  subst hscan
  rfl

theorem routeStray_routed (k tag : Nat) (reason : StrayReason) (s : State) :
    StrayRouted k tag reason s (routeStray k tag reason s) := by
  intro scan u hscan hu
  subst hu
  rw [routeStray_eq k tag reason s hscan]
  refine ⟨fun j hj => ?chute, fun hr hm => ?recirculate, fun hr hm => ?replaced, ?stray⟩
  case chute =>
    rw [hj]
    rfl
  case recirculate =>
    simp only [hr, if_neg hm]
    rfl
  case replaced =>
    simp only [hr, if_pos hm]
    exact tryStraySet_tried _ _ _ _
  case stray =>
    rintro (hr | hr)
    · rw [hr]
      exact tryStraySet_tried _ _ _ _
    · rw [hr]
      exact tryStraySet_tried _ _ _ _

/-! ## Identified verdicts (R87, R89, R90) -/

/-- Outside DRAINING an identified verdict recirculates. -/
theorem recirculateIdentified_kept (h : s.mode ≠ .draining) :
    recirculateIdentified k tag cabin n s = (s, { route := .recirculate, reason := none, cabin := cabin, zone := some n }) :=
  if_neg h

/-- In DRAINING the stray set replaces the recirculation. -/
theorem recirculateIdentified_replaced (h : s.mode = .draining) :
    recirculateIdentified k tag cabin n s =
      ((tryStraySet k tag .noRoute (countReplaced s)).1,
        { route := (tryStraySet k tag .noRoute (countReplaced s)).2, reason := some .noRoute, cabin := cabin, zone := some n }) :=
  if_pos h

section
variable {scan : List Rule × Option Taken} {u : State}
  (hscan : scan = scanRules s.carts.chutes (Match.fits p) s.router.rules)
  (hu : u = { s with
    router :=
      { s.router with
        rules := scan.1
        defaults := if scan.2 = none then satInc 65535 s.router.defaults else s.router.defaults } })
include hscan hu

/-- What an identified verdict does with the outcome of the scan: without a rule the default action counts and is taken. -/
theorem routePlaced_eq (k cabin : Nat) :
    routePlaced k cabin p s =
      match scan.2, s.router.dflt with
      | some (.chute j), _ => (u, { route := .chute j .deck, reason := none, cabin := cabin, zone := some p.zone })
      | some .recirculate, _ => recirculateIdentified k p.tag cabin p.zone u
      | some .stray, _ => strayNoRoute k p.tag cabin p.zone u
      | none, .recirculate => recirculateIdentified k p.tag cabin p.zone u
      | none, .stray => strayNoRoute k p.tag cabin p.zone u := by
  subst hscan hu
  unfold routePlaced
  dsimp only
  cases (scanRules s.carts.chutes (Match.fits p) s.router.rules).2 with
  | some t => cases t <;> rfl
  | none =>
    change defaultAction _ _ _ _ _ = _
    unfold defaultAction
    cases hd : s.router.dflt <;> simp only [withRouter] <;> rfl

theorem routePlaced_chute (k cabin : Nat) {j : Nat} (h : scan.2 = some (.chute j)) :
    routePlaced k cabin p s = (u, { route := .chute j .deck, reason := none, cabin := cabin, zone := some p.zone }) := by
  rw [routePlaced_eq hscan hu, h]

theorem routePlaced_recirculate (k cabin : Nat)
    (h : scan.2 = some .recirculate ∨ (scan.2 = none ∧ s.router.dflt = .recirculate)) :
    routePlaced k cabin p s = recirculateIdentified k p.tag cabin p.zone u := by
  rw [routePlaced_eq hscan hu]
  rcases h with h | ⟨h, hd⟩
  · rw [h]
  · rw [h, hd]

theorem routePlaced_stray (k cabin : Nat) (h : scan.2 = some .stray ∨ (scan.2 = none ∧ s.router.dflt = .stray)) :
    routePlaced k cabin p s = strayNoRoute k p.tag cabin p.zone u := by
  rw [routePlaced_eq hscan hu]
  rcases h with h | ⟨h, hd⟩
  · rw [h]
  · rw [h, hd]

/-- An identified verdict keeps its cabin and its zone, whatever the route. -/
theorem routePlaced_place (k cabin : Nat) :
    (routePlaced k cabin p s).2.cabin = cabin ∧ (routePlaced k cabin p s).2.zone = some p.zone := by
  have hrec : (recirculateIdentified k p.tag cabin p.zone u).2.cabin = cabin ∧
      (recirculateIdentified k p.tag cabin p.zone u).2.zone = some p.zone := by
    unfold recirculateIdentified
    split <;> exact ⟨rfl, rfl⟩
  rw [routePlaced_eq hscan hu]
  split
  · exact ⟨rfl, rfl⟩
  · exact hrec
  · exact ⟨rfl, rfl⟩
  · exact hrec
  · exact ⟨rfl, rfl⟩

end

/-- The verdict of a cabin in a zone. -/
theorem resolveRoute_placed (k tag cabin group : Nat) (pr ov : Bool) (hz : s.router.zones[n]? = some z)
    (hzone : zoneOf s.router.zones cabin = some n) :
    resolveRoute k tag (.identified tag cabin group pr ov) s =
      routePlaced k cabin
        { tag := tag, group := group, priority := pr, oversize := ov, zone := n, deck := z.deck, sec := z.sec } s := by
  have hget : s.router.zones.getD n { ending := 0, deck := 1, sec := 0 } = z := by
    rw [List.getD_eq_getElem?_getD, hz, Option.getD_some]
  unfold resolveRoute
  simp only [hzone, hget]

/-- The verdict of a cabin above every ending is the stray OUT_OF_PLAN. -/
theorem resolveRoute_outOfPlan (k tag cabin group : Nat) (pr ov : Bool) (hzone : zoneOf s.router.zones cabin = none) :
    resolveRoute k tag (.identified tag cabin group pr ov) s =
      ((routeStray k tag .outOfPlan s).1,
        { route := (routeStray k tag .outOfPlan s).2, reason := some .outOfPlan, cabin := cabin, zone := none }) := by
  unfold resolveRoute
  simp only [hzone]

end

/-- Settles O35: each outcome of the scan of the rules, and of the default action where no rule is taken, leads to its own route;
every stray goes through `routeStray`. -/
theorem routeResult : Obligations.RouteResult := by
  unfold Obligations.RouteResult
  intro k tag cabin group pr ov s y
  refine ⟨fun hy => ⟨fun hout => ?_, fun n z scan u hz hc hbefore hscan hu => ?_⟩, fun reason w hw => ?_⟩
  · rw [hy, resolveRoute_outOfPlan k tag cabin group pr ov (zoneOf_eq_none hout)]
    exact ⟨rfl, rfl, rfl, routeStray_routed _ _ _ _⟩
  · rw [resolveRoute_placed k tag cabin group pr ov hz (zoneOf_eq_some hz hc hbefore)] at hy
    have hmode : u.mode = s.mode := by
      rw [hu]
      rfl
    obtain ⟨hcabin, hzone⟩ := routePlaced_place hscan hu k cabin
    refine ⟨hy ▸ hcabin, hy ▸ hzone, fun j hj => ?chute, fun hr hm => ?recirculate, fun hr hm => ?replaced, fun hr => ?stray⟩
    case chute => exact hy.trans (routePlaced_chute hscan hu k cabin hj)
    case recirculate =>
      rw [hy, routePlaced_recirculate hscan hu k cabin hr]
      exact recirculateIdentified_kept (hmode ▸ hm)
    case replaced =>
      rw [hy, routePlaced_recirculate hscan hu k cabin hr, recirculateIdentified_replaced (hmode.trans hm)]
      refine ⟨rfl, ?_⟩
      rw [hu]
      exact tryStraySet_tried _ _ _ _
    case stray =>
      rw [hy, routePlaced_stray hscan hu k cabin hr]
      exact ⟨rfl, routeStray_routed _ _ _ _⟩
  · subst hw
    exact ⟨rfl, rfl, rfl, routeStray_routed _ _ _ _⟩

end Sys2Proof.Machine
end

section
/-! # ZLOAD, RLOAD and RSET (sections 5.1 and 5.6) -/

namespace Sys2Proof.Machine

open Sys2Proof

/-! ## Rules as carried (R83) -/

/-- A stray reason is found by its code. -/
theorem find_reason_iff (v : Nat) (r : StrayReason) :
    [.noRead, .tagConflict, .notOnManifest, .cabinUnassigned, .outOfPlan, .screeningHold, .lapLimit, .noRoute].find?
      (fun r => StrayReason.code r == v) = some r ↔ r.code = v := by
  refine ⟨fun h => by simpa using List.find?_some h, ?_⟩
  rintro rfl
  cases r <;> rfl

theorem matchCarried_reason_iff (v : Nat) (m : Match) :
    MatchCarried (.reason v) m ↔ ∃ r : StrayReason, r.code = v ∧ .reason r = m := by
  constructor
  · simp only [MatchCarried, List.mem_cons, List.not_mem_nil, or_false, Prod.mk.injEq]
    rintro (⟨rfl, rfl⟩ | ⟨rfl, rfl⟩ | ⟨rfl, rfl⟩ | ⟨rfl, rfl⟩ | ⟨rfl, rfl⟩ | ⟨rfl, rfl⟩ | ⟨rfl, rfl⟩ | ⟨rfl, rfl⟩)
    all_goals exact ⟨_, rfl, rfl⟩
  · rintro ⟨r, rfl, rfl⟩
    cases r <;> simp [MatchCarried, StrayReason.code]

theorem checkMatch_iff (a : MatchArg) (m : Match) : checkMatch a = some m ↔ MatchCarried a m := by
  cases a with
  | zone lo hi =>
    simp only [checkMatch, MatchCarried, Option.ite_none_right_eq_some, Option.some.injEq, eq_comm (b := m)]
    tauto
  | deck lo hi sec =>
    have hsec : sec.all (fun x => decide (x ≤ 3)) = true ↔ ∀ x ∈ sec, x ≤ 3 := by cases sec <;> simp
    simp only [checkMatch, MatchCarried, Option.ite_none_right_eq_some, Option.some.injEq, hsec, eq_comm (b := m), and_assoc]
  | group v => simp only [checkMatch, MatchCarried, Option.ite_none_right_eq_some, Option.some.injEq, eq_comm (b := m)]
  | flag v =>
    simp only [checkMatch, MatchCarried]
    split
    · rename_i h
      simp [h, eq_comm]
    · rename_i h
      simp [h, eq_comm]
  | tag lo hi =>
    simp only [checkMatch, MatchCarried, Option.ite_none_right_eq_some, Option.some.injEq, eq_comm (b := m), and_assoc]
    rfl
  | reason v =>
    rw [matchCarried_reason_iff]
    simp only [checkMatch, Option.map_eq_some_iff, find_reason_iff]
  | any => simp [checkMatch, MatchCarried, eq_comm]
  | other v => simp [checkMatch, MatchCarried]

theorem checkAction_iff (n : Nat) (targets : List Nat) (a : Action) :
    checkAction n targets = some a ↔ ActionCarried n targets a := by
  unfold checkAction ActionCarried
  split
  · split
    · rename_i j
      simp [eq_comm]
    · rename_i hno
      refine ⟨nofun, ?_⟩
      simp only [true_and]
      rintro (⟨j, -, rfl, -⟩ | h)
      · exact absurd rfl (hno j)
      · simp at h
  · simp [distinct_iff, and_assoc, eq_comm (a := a)]
  · simp [eq_comm (a := a)]
  · simp [eq_comm (a := a)]
  · rename_i h1 h2 h3 h4
    simp only [reduceCtorEq, false_iff]
    rintro (⟨rfl, -⟩ | ⟨rfl, -⟩ | ⟨rfl, -⟩ | ⟨rfl, -⟩)
    exacts [h1 rfl, h2 rfl, h3 rfl, h4 rfl]

theorem checkRule_iff (r : RuleArg) (x : Rule) : checkRule r = some x ↔ RuleCarried r x := by
  obtain ⟨e, m, a, tk, ps⟩ := x
  have hm := checkMatch_iff r.mtch
  have ha := checkAction_iff r.action r.targets
  unfold checkRule RuleCarried
  simp only [← hm, ← ha]
  cases checkMatch r.mtch with
  | none => simp
  | some m' =>
    cases checkAction r.action r.targets with
    | none => simp
    | some a' =>
      simp only [Option.ite_none_right_eq_some, Option.some.injEq, Rule.mk.injEq, @eq_comm _ _ e, @eq_comm _ _ tk,
        @eq_comm _ _ ps]

theorem checkRules_iff : ∀ (rs : List RuleArg) (xs : List Rule), checkRules rs = some xs ↔ rs.map checkRule = xs.map some
  | [], xs => by cases xs <;> simp [checkRules]
  | r :: rest, xs => by
    have ih := checkRules_iff rest
    unfold checkRules
    cases hr : checkRule r with
    | none => cases xs <;> simp [hr]
    | some x =>
      cases hrest : checkRules rest with
      | none =>
        cases xs with
        | nil => simp
        | cons y ys =>
          have := ih ys
          simp_all
      | some zs =>
        cases xs with
        | nil => simp
        | cons y ys =>
          have := ih ys
          simp_all

/-- A rule that passes its checks has no tally yet. -/
theorem checkRule_tallies {r : RuleArg} {x : Rule} (h : checkRule r = some x) : x.taken = 0 ∧ x.passed = 0 := by
  obtain ⟨-, -, -, -, htaken, hpassed⟩ := (checkRule_iff r x).1 h
  exact ⟨htaken, hpassed⟩

theorem checkRules_length {rs : List RuleArg} {xs : List Rule} (h : checkRules rs = some xs) : xs.length = rs.length := by
  simpa using (congrArg List.length ((checkRules_iff rs xs).1 h)).symm

/-! ## Zone tables (R81, R82) -/

theorem zoneOk_iff (z : Zone) : zoneOk z = true ↔ z.ending ≤ 9999 ∧ 1 ≤ z.deck ∧ z.deck ≤ 20 ∧ z.sec ≤ 3 := by
  simp only [zoneOk, Bool.and_eq_true, decide_eq_true_eq, and_assoc]
  rfl

theorem highestEnding_eq (zones : List Zone) : highestEnding zones = (zones.map Zone.ending).foldl max 0 :=
  List.foldl_map.symm

/-- A zone covers a cabin when its ending is above every ending before it. -/
theorem coveringZones_eq : ∀ (m : Nat) (zones : List Zone),
    coveringZones m zones = ((List.range zones.length).filter (fun n =>
      decide (((zones.take n).map Zone.ending).foldl max m < (zones.map Zone.ending).getD n 0))).length
  | _, [] => rfl
  | m, z :: rest => by
    rw [coveringZones, coveringZones_eq (max m z.ending) rest, List.length_cons, List.range_succ_eq_map, List.filter_cons,
      List.filter_map, ]
    by_cases h : m < z.ending
    · simp [h, Function.comp_def, Nat.add_comm]
    · simp [h, Function.comp_def]

/-! ## The requests -/

section
variable {s : State}

theorem loadsTables_eq_false (h : s.mode ∈ [.sorting, .draining, .drained]) : s.loadsTables = false := by
  simp only [List.mem_cons, List.not_mem_nil, or_false] at h
  rcases h with h | h | h <;> simp [State.loadsTables, h]

theorem loadsTables_eq_true (h : s.mode ∈ [.idle, .setup, .shadow]) : s.loadsTables = true := by
  simp only [List.mem_cons, List.not_mem_nil, or_false] at h
  rcases h with h | h | h <;> simp [State.loadsTables, h]

theorem serveZload_mode (arg : Option (List Zone)) (h : s.mode ∈ [.sorting, .draining, .drained]) :
    serveZload arg s = refuse .mode s := if_pos (loadsTables_eq_false h)

theorem serveZload_some {zones : List Zone} (hlen : zones.length = 32) (h : s.mode ∈ [.idle, .setup, .shadow]) :
    serveZload (some zones) s =
      if zones.all zoneOk = true then
        doneWith [.u8 (coveringZones 0 zones), .u16 (highestEnding zones)] (installZones zones s)
      else refuse .range s := by
  rw [serveZload, if_neg (by rw [loadsTables_eq_true h]; decide)]
  simp [hlen]

theorem serveRload_mode (arg : Option RloadArg) (h : s.mode ∈ [.sorting, .draining, .drained]) :
    serveRload arg s = stagedReply .mode s := if_pos (loadsTables_eq_false h)

theorem flagOk_iff (n : Nat) : flagOk n = true ↔ n ≤ 1 := by simp [flagOk]

/-- A part fits its table: its numbers are in range, and it carries as many items as it counts (R94, R121). -/
theorem partOk_iff (first count final items : Nat) :
    partOk first count final items = true ↔
      (1 ≤ count ∧ count ≤ 16 ∧ first ≤ 63 ∧ first + count ≤ 64) ∧ final ≤ 1 ∧ items = count := by
  simp [partOk, flagOk_iff, and_assoc]

theorem partGap_iff {α : Type} (first : Nat) (staged : List α) :
    partGap first staged = true ↔ first ≠ 0 ∧ staged.length ≠ first := by simp [partGap]

/-- The staging list with a part that has no gap: what stands below the part's first number, then the part. -/
theorem stagePart_eq {α : Type} {first : Nat} {staged : List α} (items : List α) (h : first = 0 ∨ staged.length = first) :
    stagePart first staged items = staged.take first ++ items := by
  unfold stagePart
  split
  · rename_i h0
    simp [h0]
  · rename_i h0
    rw [List.take_of_length_le (h.resolve_left h0).le]

/-- A part without a gap brings the staged count to its first number and its own items. -/
theorem length_stagePart {α : Type} {first : Nat} {staged items : List α} (h : first = 0 ∨ staged.length = first) :
    (stagePart first staged items).length = first + items.length := by
  unfold stagePart
  split
  · rename_i h0
    simp [h0]
  · rename_i h0
    rw [List.length_append, h.resolve_left h0]

/-- A part of a rule list that does not pass its checks changes nothing (R94). -/
theorem serveRload_range {a : RloadArg} (h : s.mode ∈ [.idle, .setup, .shadow])
    (hbad : a.count = 0 ∨ 16 < a.count ∨ 63 < a.first ∨ 64 < a.first + a.count ∨ checkRules a.rules = none ∨
      (a.first ≠ 0 ∧ s.router.staging.length ≠ a.first)) : serveRload (some a) s = stagedReply .range s := by
  rw [serveRload, if_neg (by rw [loadsTables_eq_true h]; decide)]
  split
  · rfl
  · rename_i hok
    rw [Bool.not_eq_false, partOk_iff] at hok
    split
    · rfl
    · rename_i rules hrules
      rw [if_pos]
      rw [partGap_iff]
      have hnone : checkRules a.rules ≠ none := by simp [hrules]
      grind

/-- A part of a rule list that passes its checks is taken (R94, R95). -/
theorem serveRload_taken {a : RloadArg} {rules : List Rule} (h : s.mode ∈ [.idle, .setup, .shadow])
    (hok : partOk a.first a.count a.final a.rules.length = true) (hrules : checkRules a.rules = some rules)
    (hgap : a.first = 0 ∨ s.router.staging.length = a.first) : serveRload (some a) s = takeRules a rules s := by
  rw [serveRload, if_neg (by rw [loadsTables_eq_true h]; decide)]
  rw [if_neg (by simp [hok]), hrules]
  refine if_neg ?_
  rw [partGap_iff]
  tauto

theorem serveRset_mode (arg : Option RsetArg) (h : s.mode = .idle) : serveRset arg s = refuse .mode s := if_pos h

theorem serveRset_range {b : RsetArg} (h : s.mode ≠ .idle) (hbad : 63 < b.number ∨ checkRule b.rule = none) :
    serveRset (some b) s = refuse .range s := by
  rw [serveRset, if_neg h]
  split
  · rfl
  · rename_i hn
    rw [hbad.resolve_left hn]

theorem serveRset_taken {b : RsetArg} {r : Rule} (h : s.mode ≠ .idle) (hn : b.number ≤ 63) (hr : checkRule b.rule = some r) :
    serveRset (some b) s = doneWith [] (putRule b.number r s) := by
  rw [serveRset, if_neg h]
  rw [if_neg (by omega), hr]

end

/-- Settles O36. -/
theorem tablesLoaded : Obligations.TablesLoaded := by
  unfold Obligations.TablesLoaded
  refine ⟨checkRule_iff, checkRules_iff, fun hdr s zones a rules b => ⟨fun hm hlen => ⟨fun hmode => ?_, fun hmode => ⟨?_, ?_⟩⟩,
    fun hm hlen hfinal => ⟨fun hmode => ?_, fun hmode => ⟨fun hbad => ?_, fun h1 h16 h64 hrules hgap => ?_⟩⟩,
    fun hm => ⟨fun hmode => ?_, fun hmode => ⟨fun hbad => ?_, fun r hn hr => ?_⟩⟩⟩⟩
  · exact answers_of_serve rfl hm (serveZload_mode (s := dropRequest s) _ hmode)
  · rintro ⟨z, hz, hbad⟩
    refine answers_of_serve (x := refuse .range (dropRequest s)) rfl hm
      ((serveZload_some (s := dropRequest s) hlen hmode).trans (if_neg ?_))
    intro hall
    have := (zoneOk_iff z).1 (List.all_eq_true.1 hall z hz)
    omega
  · intro hok
    refine ⟨coveringZones 0 zones, ?_, hlen ▸ coveringZones_eq 0 zones⟩
    rw [← highestEnding_eq]
    exact answers_of_serve
      (x := doneWith [.u8 (coveringZones 0 zones), .u16 (highestEnding zones)] (installZones zones (dropRequest s))) rfl hm
      ((serveZload_some (s := dropRequest s) hlen hmode).trans
        (if_pos (List.all_eq_true.2 fun z hz => (zoneOk_iff z).2 (hok z hz))))
  · exact answers_of_serve rfl hm (serveRload_mode (s := dropRequest s) _ hmode)
  · exact answers_of_serve rfl hm (serveRload_range (s := dropRequest s) hmode hbad)
  · have hok : partOk a.first a.count a.final a.rules.length = true := (partOk_iff _ _ _ _).2 ⟨by omega, hfinal, hlen⟩
    have hserve := serveRload_taken (s := dropRequest s) hmode hok hrules hgap
    have hcount : (stagePart a.first s.router.staging rules).length = a.first + a.count := by
      rw [length_stagePart hgap, checkRules_length hrules, hlen]
    have hstaged := stagePart_eq rules hgap
    rw [← hcount, ← hstaged]
    refine ⟨fun h0 => ?_, fun h1 => ?_⟩
    · exact answers_of_serve
        (x := stagedReply .done (setRuleStaging (stagePart a.first s.router.staging rules) (dropRequest s))) rfl hm
        (hserve.trans (if_neg (by simp [h0])))
    · exact answers_of_serve (x := doneWith [.u8 (stagePart a.first s.router.staging rules).length]
        (installRules (stagePart a.first s.router.staging rules) (dropRequest s))) rfl hm (hserve.trans (if_pos h1))
  · exact answers_of_serve rfl hm (serveRset_mode (s := dropRequest s) _ hmode)
  · exact answers_of_serve rfl hm (serveRset_range (s := dropRequest s) hmode hbad)
  · obtain ⟨htaken, hpassed⟩ := checkRule_tallies hr
    exact ⟨htaken, hpassed, answers_of_serve rfl hm (serveRset_taken (s := dropRequest s) hmode hn hr)⟩

end Sys2Proof.Machine
end

section
/-! # The law of the chutes (R85, R100, R102, R113, R120, R121, R129)

`LimitsKept` says that the law of the chutes passes from the old state to the new one; `CartsStand` is a step that leaves all
that the Chute and Cart Unit holds. -/

namespace Sys2Proof.Machine

open Sys2Proof

/-! ## One chute -/

/-- What the law of a chute says of it before the FULL test. -/
structure Chute.Fits (c : Chute) : Prop where
  capacity : 1 ≤ c.cfg.capacity
  load : c.count + c.queued ≤ c.cfg.capacity
  idle : c.inUse = false → c.queue = []
  queued : c.queued ≤ Config.queueMax
  awaiting : c.awaiting.length ≤ Config.awaitingMax

/-- Chute d holds no more than chute c: no more entries, orders and confirmations, by the same capacity. -/
structure Chute.Lighter (c d : Chute) : Prop where
  capacity : d.cfg.capacity = c.cfg.capacity
  cart : d.cart.length ≤ c.cart.length
  queue : d.queue.length ≤ c.queue.length
  awaiting : d.awaiting.length ≤ c.awaiting.length

section
variable {c d e : Chute}

theorem Chute.capacityLaw_iff :
    c.CapacityLaw ↔ c.Fits ∧ (c.state = .opened → c.count + c.queued < c.cfg.capacity) :=
  ⟨fun ⟨h1, h2, h3, h4, h5, h6⟩ => ⟨⟨h1, h2, h4, h5, h6⟩, h3⟩, fun ⟨⟨h1, h2, h4, h5, h6⟩, h3⟩ => ⟨h1, h2, h3, h4, h5, h6⟩⟩

theorem Chute.CapacityLaw.fits (h : c.CapacityLaw) : c.Fits := (Chute.capacityLaw_iff.1 h).1

theorem Chute.Lighter.refl (c : Chute) : c.Lighter c := ⟨rfl, le_rfl, le_rfl, le_rfl⟩

/-- A chute in OPEN has room for one more entry or order. -/
theorem Chute.CapacityLaw.room (h : c.CapacityLaw) (hs : c.state = .opened) : c.count + c.queued < c.cfg.capacity :=
  (Chute.capacityLaw_iff.1 h).2 hs

@[simp] theorem Chute.fullTest_inUse (c : Chute) : c.fullTest.inUse = c.inUse := by
  unfold Chute.fullTest
  split
  · rename_i h
    rw [h]
    simp only [Chute.inUse]
    split <;> rfl
  · rfl

/-- The FULL test makes a chute that fits keep its law: OPEN stays only below the capacity (R124). -/
theorem Chute.Fits.fullTest (h : c.Fits) : c.fullTest.CapacityLaw := by
  obtain ⟨hcap, hload, hidle, hq, ha⟩ := h
  refine Chute.capacityLaw_iff.2 ⟨⟨?_, ?_, ?_, ?_, ?_⟩, fun hs => ?_⟩
  · rwa [Chute.fullTest_cfg]
  · rwa [Chute.count, Chute.queued, Chute.fullTest_cfg, Chute.fullTest_cart, Chute.fullTest_queue]
  · rwa [Chute.fullTest_inUse, Chute.fullTest_queue]
  · rwa [Chute.queued, Chute.fullTest_queue]
  · rwa [Chute.fullTest_awaiting]
  · rw [Chute.count, Chute.queued, Chute.fullTest_cfg, Chute.fullTest_cart, Chute.fullTest_queue]
    by_contra hfull
    rw [Chute.fullTest_eq] at hs
    simp only [if_neg hfull] at hs
    split at hs
    · cases hs
    · rename_i hno
      exact hno (.inl hs)

/-- A chute that holds no more than one that fits, and orders only in use. -/
theorem Chute.Fits.lighter (h : c.Fits) (hl : c.Lighter d) (hidle : d.inUse = false → c.inUse = false ∨ d.queue = []) :
    d.Fits := by
  obtain ⟨hcap, hload, hno, hq, ha⟩ := h
  obtain ⟨lcap, lcart, lqueue, lawait⟩ := hl
  refine ⟨lcap ▸ hcap, ?_, fun hd => ?_, lqueue.trans hq, lawait.trans ha⟩
  · rw [lcap]
    exact (Nat.add_le_add lcart lqueue).trans hload
  · rcases hidle hd with hc | hd
    · rw [hno hc] at lqueue
      exact List.eq_nil_of_length_eq_zero (Nat.le_zero.1 lqueue)
    · exact hd

/-- A chute that holds no more, in the same state or one that is neither OPEN nor in use any more. -/
theorem Chute.CapacityLaw.lighter (h : c.CapacityLaw) (hl : c.Lighter d) (hopen : d.state = .opened → c.state = .opened)
    (hidle : d.inUse = false → c.inUse = false ∨ d.queue = []) : d.CapacityLaw := by
  refine Chute.capacityLaw_iff.2 ⟨h.fits.lighter hl hidle, fun hs => ?_⟩
  obtain ⟨lcap, lcart, lqueue, -⟩ := hl
  rw [lcap]
  exact (Nat.add_le_add lcart lqueue).trans_lt (h.room (hopen hs))

theorem Chute.CapacityLaw.same_state (h : c.CapacityLaw) (hl : c.Lighter d) (hs : d.state = c.state) : d.CapacityLaw :=
  h.lighter hl (fun hd => hs ▸ hd) fun hd => .inl (by simpa only [Chute.inUse, hs] using hd)

/-- A chute that holds no more, in the same state, with the FULL test. -/
theorem Chute.CapacityLaw.tested (h : c.CapacityLaw) (hl : c.Lighter d) (hs : d.state = c.state) : d.fullTest.CapacityLaw :=
  (h.same_state hl hs).fits.fullTest

/-- A chute without its orders, in whatever state (R113). -/
theorem Chute.CapacityLaw.unordered (h : c.CapacityLaw) (hl : c.Lighter d) : d.unordered.CapacityLaw :=
  (h.fits.lighter (d := { d with queue := [], mon := none }) ⟨hl.capacity, hl.cart, Nat.zero_le _, hl.awaiting⟩
    fun _ => .inr rfl).fullTest

/-- One entry more, or one order more, by a capacity that has room for it. -/
theorem Chute.Fits.more (h : c.Fits) (hroom : c.count + c.queued < c.cfg.capacity) (hcfg : d.cfg = c.cfg)
    (hs : d.state = c.state) (hload : d.count + d.queued = c.count + c.queued + 1) (hq : d.queued ≤ Config.queueMax)
    (hidle : c.queue = [] → d.inUse = false → d.queue = []) (ha : d.awaiting = c.awaiting) : d.Fits where
  capacity := hcfg ▸ h.capacity
  load := by rw [hload, hcfg]; exact hroom
  idle hd := hidle (h.idle (by simpa only [Chute.inUse, hs] using hd)) hd
  queued := hq
  awaiting := ha ▸ h.awaiting

end

/-! ## The relations -/

/-- The law of the chutes passes from s to t. -/
def LimitsKept (s t : State) : Prop := s.CapacityLaw → t.CapacityLaw

/-- A step that leaves what the Chute and Cart Unit holds. -/
def CartsStand (s t : State) : Prop := t.carts = s.carts

section
variable {s t u : State} {j : Nat}

theorem LimitsKept.refl (s : State) : LimitsKept s s := id

theorem LimitsKept.trans (h : LimitsKept s t) (k : LimitsKept t u) : LimitsKept s u := k ∘ h

theorem LimitsKept.foldl {α : Type} {f : State → α → State} (h : ∀ s x, LimitsKept s (f s x)) :
    ∀ (l : List α) (s : State), LimitsKept s (l.foldl f s)
  | [], s => .refl s
  | x :: rest, s => (h s x).trans (LimitsKept.foldl h rest (f s x))

theorem LimitsKept.ite {p : Prop} [Decidable p] {x y : State} (hx : LimitsKept s x) (hy : LimitsKept s y) :
    LimitsKept s (if p then x else y) := by
  split
  · exact hx
  · exact hy

theorem CartsStand.refl (s : State) : CartsStand s s := rfl

theorem CartsStand.trans (h : CartsStand s t) (k : CartsStand t u) : CartsStand s u := Eq.trans k h

theorem CartsStand.foldl {α : Type} {f : State → α → State} (h : ∀ s x, CartsStand s (f s x)) :
    ∀ (l : List α) (s : State), CartsStand s (l.foldl f s)
  | [], s => .refl s
  | x :: rest, s => (h s x).trans (CartsStand.foldl h rest (f s x))

theorem CartsStand.ite {p : Prop} [Decidable p] {x y : State} (hx : CartsStand s x) (hy : CartsStand s y) :
    CartsStand s (if p then x else y) := by
  split
  · exact hx
  · exact hy

/-- A write that leaves the chutes and the staging list. -/
theorem LimitsKept.congr (hc : t.carts.chutes = s.carts.chutes) (hs : t.carts.staging = s.carts.staging) : LimitsKept s t :=
  fun h => by rwa [State.CapacityLaw, hc, hs]

/-- A write that leaves all that the Chute and Cart Unit holds. -/
theorem LimitsKept.same (h : t.carts = s.carts) : LimitsKept s t := .congr (h ▸ rfl) (h ▸ rfl)

theorem CartsStand.limits (h : CartsStand s t) : LimitsKept s t := .same h

/-- Chutes that keep the law one by one. -/
theorem LimitsKept.of_chutes
    (hc : List.Forall₂ (fun c c' : Chute => c.CapacityLaw → c'.CapacityLaw) s.carts.chutes t.carts.chutes)
    (hs : t.carts.staging = s.carts.staging) : LimitsKept s t := by
  rintro ⟨hlaw, hstaged, hlen, hslen⟩
  refine ⟨fun c' hc' => ?_, hs ▸ hstaged, hc.length_eq ▸ hlen, hs ▸ hslen⟩
  obtain ⟨j, hj⟩ := List.mem_iff_getElem?.1 hc'
  obtain ⟨c, hcj, hkeep⟩ := forall₂_get_right hc hj
  exact hkeep (hlaw c (List.mem_of_getElem? hcj))

/-- A change of one chute's record. -/
theorem LimitsKept.of_chute {f : Chute → Chute} (j : Nat) (hc : t.carts.chutes = s.carts.chutes.modify j f)
    (h : ∀ c, s.carts.chutes[j]? = some c → c.CapacityLaw → (f c).CapacityLaw)
    (hs : t.carts.staging = s.carts.staging) : LimitsKept s t :=
  .of_chutes (hc ▸ forall₂_modify_at (fun _ => id) _ _ h) hs

theorem modifyChute_limits {f : Chute → Chute} (j : Nat) (s : State)
    (h : ∀ c, s.carts.chutes[j]? = some c → c.CapacityLaw → (f c).CapacityLaw) : LimitsKept s (modifyChute j f s) :=
  .of_chute j rfl h rfl

/-- The record of a chute keeps its law. -/
theorem State.CapacityLaw.chute {c : Chute} (h : s.CapacityLaw) (hc : s.carts.chutes[j]? = some c) : c.CapacityLaw :=
  h.1 c (List.mem_of_getElem? hc)

/-! ## The plain writes, the trays and the STOP latch -/

theorem settleTray_cartsStand (k : Nat) (x : Tray) (s : State) : CartsStand s (settleTray k x s) := .ite rfl rfl

theorem changeTray_cartsStand (k : Nat) (e : TrayState) (f : Tray → Tray) (s : State) :
    CartsStand s (changeTray k e f s) := by
  unfold changeTray
  split
  · exact .ite (settleTray_cartsStand _ _ s) (.refl s)
  · exact .refl s

theorem noticeLevel_cartsStand (before : Bool) (s : State) : CartsStand s (noticeLevel before s) := .ite rfl rfl

theorem setLatch_cartsStand (c : StopCause) (s : State) : CartsStand s (setLatch c s) :=
  .ite (.refl s) (noticeLevel_cartsStand _ (notify c.notice (withLatch (some c) s)))

theorem releaseLatch_cartsStand (s : State) : CartsStand s (releaseLatch s) :=
  noticeLevel_cartsStand _ (withLatch none s)

theorem RouterOnly.cartsStand (h : RouterOnly s t) : CartsStand s t := by
  obtain ⟨r, m, -, rfl⟩ := h
  rfl

theorem StraysOnly.cartsStand (h : StraysOnly s t) : CartsStand s t := h.still.2

/-! ## Chutes and carts -/

theorem newCart_limits (j : Nat) (s : State) : LimitsKept s (newCart j s) :=
  .of_chute j rfl (fun _ _ hc => hc.same_state ⟨rfl, Nat.zero_le _, le_rfl, le_rfl⟩ rfl) rfl

theorem openWithCart_limits (j : Nat) (s : State) : LimitsKept s (openWithCart j s) :=
  (newCart_limits j s).trans (modifyChute_limits j _ fun c _ hc =>
    (hc.fits.lighter (d := { c with state := .opened }) ⟨rfl, le_rfl, le_rfl, le_rfl⟩ nofun).fullTest)

theorem swapTest_limits (j : Nat) (s : State) : LimitsKept s (swapTest j s) := by
  unfold swapTest
  split
  · exact .ite (openWithCart_limits j s) (.refl s)
  · exact .refl s

theorem closeCart_limits (j : Nat) (s : State) : LimitsKept s (closeCart j s) := by
  have hclose : ∀ (c : Chute) (r : ReportState), c.CapacityLaw → ({ c with cart := [], report := r } : Chute).CapacityLaw :=
    fun c r hc => hc.same_state ⟨rfl, Nat.zero_le _, le_rfl, le_rfl⟩ rfl
  unfold closeCart
  split
  · exact .refl s
  · exact .ite (.of_chute j rfl (fun c _ => hclose c _) rfl) (.of_chute j rfl (fun c _ => hclose c _) rfl)

/-- A change of a chute's report state. -/
theorem LimitsKept.of_report {r : ReportState} (j : Nat)
    (hc : t.carts.chutes = s.carts.chutes.modify j (fun c => { c with report := r }))
    (hs : t.carts.staging = s.carts.staging) : LimitsKept s t :=
  .of_chute j hc (fun _ _ hc => hc.same_state ⟨rfl, le_rfl, le_rfl, le_rfl⟩ rfl) hs

theorem admitWaiting_limits (s : State) : LimitsKept s (admitWaiting s) := by
  unfold admitWaiting
  split
  · exact .refl s
  · exact .ite (.of_report _ rfl rfl) (.refl s)

theorem reportSent_limits (s : State) : LimitsKept s (reportSent s) := by
  unfold reportSent
  split
  · exact .refl s
  · refine LimitsKept.trans ?_ (admitWaiting_limits _)
    refine LimitsKept.trans ?_ (swapTest_limits _ _)
    exact .of_report _ rfl rfl

theorem cartFrameSent_limits (s : State) : LimitsKept s (cartFrameSent s) := by
  unfold cartFrameSent
  split
  · exact .refl s
  · exact .ite (.congr rfl rfl) (reportSent_limits s)

/-! ## Confirmations (R129) -/

theorem expireOldest_limits (j : Nat) (s : State) : LimitsKept s (expireOldest j s) := by
  unfold expireOldest
  split
  · exact .refl s
  · rename_i c hc
    split
    · exact .refl s
    · rename_i a rest hawait
      refine LimitsKept.trans (modifyChute_limits j s fun d hd hlaw => ?_) (changeTray_cartsStand _ _ _ _).limits
      obtain rfl : c = d := Option.some.inj (hc.symm.trans hd)
      exact hlaw.same_state ⟨rfl, le_rfl, le_rfl, by simp [hawait]⟩ rfl

/-- A confirmation joins a list that has room for it. -/
theorem appendConfirmation_limits {k seq : Nat}
    (h : ∀ c, s.carts.chutes[j]? = some c → c.awaiting.length < Config.awaitingMax) :
    LimitsKept s (appendConfirmation j k seq s) := by
  refine modifyChute_limits j s fun c hc hlaw => ?_
  obtain ⟨h1, h2, h3, h4, h5, -⟩ := hlaw
  exact ⟨h1, h2, h3, h4, h5, by simpa using h c hc⟩

/-- The oldest confirmation leaves a list of at most 4, which then has room. -/
theorem expireOldest_room (h : s.CapacityLaw) {c : Chute} (hc : (expireOldest j s).carts.chutes[j]? = some c) :
    c.awaiting.length < Config.awaitingMax := by
  cases hd : s.carts.chutes[j]? with
  | none =>
    have hd' : s.chute? j = none := hd
    rw [expireOldest, hd', hd] at hc
    cases hc
  | some d =>
    have hd' : s.chute? j = some d := hd
    have hlaw := (h.chute hd).fits.awaiting
    rw [expireOldest, hd'] at hc
    cases hawait : d.awaiting with
    | nil =>
      simp only [hawait, hd] at hc
      cases hc
      rw [hawait]
      decide
    | cons a rest =>
      simp only [hawait] at hc
      rw [doubtTray, show (changeTray _ _ _ _).carts = _ from changeTray_cartsStand _ _ _ _, modifyChute_carts] at hc
      simp only [List.getElem?_modify_eq, hd, Option.map_eq_map, Option.map_some, Option.some.injEq] at hc
      rw [← hc]
      rw [hawait] at hlaw
      exact hlaw

theorem openConfirmation_limits (j k seq : Nat) (s : State) : LimitsKept s (openConfirmation j k seq s) := by
  unfold openConfirmation
  split
  · exact .refl s
  · rename_i c hc
    split
    · rename_i hroom
      refine appendConfirmation_limits fun d hd => ?_
      obtain rfl : c = d := Option.some.inj (hc.symm.trans hd)
      exact hroom
    · exact fun h => appendConfirmation_limits (fun d hd => expireOldest_room h hd) (expireOldest_limits j s h)

/-! ## The entry of a drop (R125, R128) -/

/-- The near-full warning writes its mark alone. -/
theorem warnNearFull_chutes (j : Nat) (s : State) : ∃ f : Chute → Chute, (∀ c, ∃ n, f c = { c with nearFull := n }) ∧
    (warnNearFull j s).carts.chutes = s.carts.chutes.modify j f := by
  unfold warnNearFull
  split
  · exact ⟨id, fun c => ⟨c.nearFull, rfl⟩, (List.modify_id _ _).symm⟩
  · split
    · exact ⟨fun c => { c with nearFull := true }, fun _ => ⟨true, rfl⟩, rfl⟩
    · exact ⟨id, fun c => ⟨c.nearFull, rfl⟩, (List.modify_id _ _).symm⟩

theorem warnNearFull_staging (j : Nat) (s : State) : (warnNearFull j s).carts.staging = s.carts.staging := by
  unfold warnNearFull
  split
  · rfl
  · split <;> rfl

theorem enterDrop_limits {k seq tag cabin : Nat}
    (hroom : ∀ c, s.carts.chutes[j]? = some c → c.count + c.queued < c.cfg.capacity) :
    LimitsKept s (enterDrop j k seq tag cabin s) := by
  obtain ⟨f, hf, hchutes⟩ := warnNearFull_chutes j
    (modifyChute j (fun c => { c with cart := c.cart ++ [c.newEntry k seq tag cabin] }) s)
  refine .of_chute j (f := Chute.fullTest ∘ f ∘ fun c => { c with cart := c.cart ++ [c.newEntry k seq tag cabin] }) ?_
    (fun c hc hlaw => ?_) (warnNearFull_staging j _)
  · rw [← List.modify_modify_eq, ← List.modify_modify_eq]
    exact congrArg (List.modify · j Chute.fullTest) hchutes
  · obtain ⟨n, hn⟩ := hf { c with cart := c.cart ++ [c.newEntry k seq tag cabin] }
    rw [Function.comp_apply, Function.comp_apply, hn]
    refine Chute.Fits.fullTest (hlaw.fits.more (hroom c hc) rfl rfl ?_ hlaw.fits.queued (fun h _ => h) rfl)
    simp only [Chute.count, Chute.queued, List.length_append, List.length_singleton]
    omega

/-- A drop recorded at a chute that has room for its entry. -/
theorem recordDrop_limits {k seq tag cabin : Nat}
    (hroom : ∀ c, s.carts.chutes[j]? = some c → c.count + c.queued < c.cfg.capacity) :
    LimitsKept s (recordDrop j k seq tag cabin s) := by
  cases hc : s.carts.chutes[j]? with
  | none =>
    have hc' : s.chute? j = none := hc
    unfold recordDrop
    rw [hc']
    exact .refl s
  | some c =>
    rw [recordDrop_eq hc]
    exact .ite (enterDrop_limits hroom) ((enterDrop_limits hroom).trans (openConfirmation_limits _ _ _ _))

/-! ## Failed, presumed and amended drops (R117, R131) -/

theorem undoDrop_limits (j serial k seq tag : Nat) (s : State) : LimitsKept s (undoDrop j serial k seq tag s) := by
  unfold undoDrop
  split
  · exact modifyChute_limits j s fun c _ hc => hc.tested ⟨rfl, List.length_eraseP_le, le_rfl, le_rfl⟩ rfl
  · exact .congr rfl rfl

/-- A change of the entries of the current cart one by one. -/
theorem mapCart_limits (j serial : Nat) (f : CartEntry → CartEntry) (s : State) :
    LimitsKept s (modifyChute j (fun c => if c.isCurrent serial then { c with cart := c.cart.map f } else c) s) := by
  refine modifyChute_limits j s fun c _ hc => ?_
  split
  · exact hc.same_state ⟨rfl, by simp, le_rfl, le_rfl⟩ rfl
  · exact hc

theorem presumeDrop_limits (j serial k seq : Nat) (s : State) : LimitsKept s (presumeDrop j serial k seq s) :=
  mapCart_limits j serial _ s

theorem markAmended_limits (j serial k seq : Nat) (s : State) : LimitsKept s (markAmended j serial k seq s) :=
  mapCart_limits j serial _ s

end

end Sys2Proof.Machine
end

section
/-! # The law of the chutes through the orders (chapter 6) -/

namespace Sys2Proof.Machine

open Sys2Proof

section
variable {s t u : State} {k j : Nat} {c d : Chute} {o : Order}

/-! ## Orders that leave their queue (R105, R109, R110) -/

/-- A change of one chute that holds no more after it, in the same state, with the FULL test. -/
theorem modifyTested_limits {f : Chute → Chute} (j : Nat) (s : State)
    (h : ∀ c : Chute, ∃ d : Chute, f c = d.fullTest ∧ c.Lighter d ∧ d.state = c.state) : LimitsKept s (modifyChute j f s) := by
  refine modifyChute_limits j s fun c _ hc => ?_
  obtain ⟨d, he, hl, hs⟩ := h c
  rw [he]
  exact hc.tested hl hs

theorem missOrder_limits (j k : Nat) (s : State) : LimitsKept s (missOrder j k s) := by
  refine LimitsKept.trans ?_ (changeTray_cartsStand _ _ _ _).limits
  exact modifyTested_limits j s fun c => ⟨_, rfl, ⟨rfl, le_rfl, List.length_eraseP_le, le_rfl⟩, rfl⟩

theorem fireRefused_limits (j k : Nat) (s : State) : LimitsKept s (fireRefused j k s) := by
  refine LimitsKept.trans ?_ (missOrder_limits j k _)
  exact .same rfl

theorem shadowFire_limits (j k : Nat) (s : State) : LimitsKept s (shadowFire j k s) := by
  refine LimitsKept.trans ?_ (changeTray_cartsStand _ _ _ _).limits
  exact modifyTested_limits j s fun c => ⟨_, rfl, ⟨rfl, le_rfl, List.length_eraseP_le, le_rfl⟩, rfl⟩

/-! ## Fires (R105, R106) -/

theorem sendDrop_limits (j : Nat) (c : Chute) (o : Order) (x : Tray) (s : State) : LimitsKept s (sendDrop j c o x s) :=
  .of_chute j rfl (fun _ _ hc => hc.same_state ⟨rfl, le_rfl, List.length_eraseP_le, le_rfl⟩ rfl) rfl

/-- The order that leaves makes room for the entry of its drop. -/
theorem sendDrop_room (h : s.CapacityLaw) (hd : s.carts.chutes[j]? = some d) (ho : o ∈ d.queue) (c : Chute) (x : Tray)
    {e : Chute} (he : (sendDrop j c o x s).carts.chutes[j]? = some e) : e.count + e.queued < e.cfg.capacity := by
  rw [sendDrop_chutes hd, List.getElem?_set_self (List.getElem?_eq_some_iff.1 hd).1] at he
  obtain rfl : d.fire o.tray = e := Option.some.inj he
  have hload := (h.chute hd).fits.load
  have hleft : (d.queue.eraseP (Order.isOf o.tray)).length = d.queue.length - 1 :=
    List.length_eraseP_of_mem ho (by simp [Order.isOf])
  have hpos : 0 < d.queue.length := List.length_pos_of_mem ho
  unfold Chute.count Chute.queued at hload
  change d.cart.length + (d.queue.eraseP (Order.isOf o.tray)).length < d.cfg.capacity
  omega

/-- A drop recorded on what the fire left of the carts. -/
theorem recordDrop_sent_limits (hd : s.carts.chutes[j]? = some d) (ho : o ∈ d.queue) {x : Tray} {seq tag cabin : Nat}
    (hu : CartsStand (sendDrop j c o x s) u) : LimitsKept s (recordDrop j k seq tag cabin u) := by
  intro h
  refine recordDrop_limits (fun e he => ?_) (hu.limits (sendDrop_limits j c o x s h))
  rw [show u.carts = _ from hu] at he
  exact sendDrop_room h hd ho c x he

theorem handStray_cartsStand (d : Option StrayDrop) (s : State) : CartsStand s (handStray d s) :=
  (handStray_straysOnly d s).cartsStand

theorem fireWithEye_limits (hd : s.carts.chutes[j]? = some d) (ho : o ∈ d.queue) (c : Chute) (x : Tray) :
    LimitsKept s (fireWithEye j c o x s) :=
  (recordDrop_sent_limits hd ho (changeTray_cartsStand _ _ _ _)).trans (handStray_cartsStand _ _).limits

theorem fireWithoutEye_limits (hd : s.carts.chutes[j]? = some d) (ho : o ∈ d.queue) (c : Chute) (x : Tray) :
    LimitsKept s (fireWithoutEye j c o x s) :=
  (recordDrop_sent_limits hd ho (.refl _)).trans
    ((handStray_cartsStand _ _).trans (changeTray_cartsStand _ _ _ _)).limits

theorem dropFire_limits (hd : s.carts.chutes[j]? = some d) (ho : o ∈ d.queue) (c : Chute) :
    LimitsKept s (dropFire j c o s) := by
  unfold dropFire
  split
  · exact .ite (fireWithoutEye_limits hd ho c _) (fireWithEye_limits hd ho c _)
  · exact .refl s

theorem fireOrder_limits (hd : s.carts.chutes[j]? = some d) (ho : o ∈ d.queue) (c : Chute) :
    LimitsKept s (fireOrder j c o s) := by
  unfold fireOrder
  split
  · exact shadowFire_limits _ _ _
  · exact .ite (dropFire_limits hd ho c) (fireRefused_limits _ _ _)
  · exact .ite (dropFire_limits hd ho c) (fireRefused_limits _ _ _)
  all_goals exact missOrder_limits _ _ _

/-! ## Evaluations (R103, R104) -/

/-- A change of a chute's monitor and its tally. -/
theorem modifyMon_limits {f : Chute → Chute} (j : Nat) (s : State) (h : ∀ c : Chute, ∃ m n, f c = { c with mon := m, clamped := n }) :
    LimitsKept s (modifyChute j f s) := by
  refine modifyChute_limits j s fun c _ hc => ?_
  obtain ⟨m, n, he⟩ := h c
  rw [he]
  exact hc.same_state ⟨rfl, le_rfl, le_rfl, le_rfl⟩ rfl

theorem armHead_limits (j : Nat) (s : State) : LimitsKept s (armHead j s) := by
  refine .ite (modifyMon_limits j s fun c => ?_) (.refl s)
  split
  · exact ⟨c.mon, c.clamped, rfl⟩
  · exact ⟨_, _, rfl⟩

theorem limits_headParts : HeadParts LimitsKept where
  refl := .refl
  trans := .trans
  disarm j s := modifyMon_limits j s fun c => ⟨none, c.clamped, rfl⟩
  arm := armHead_limits
  miss _ _ := missOrder_limits _ _ _
  fire {j s c o} hc ho := by
    refine (modifyMon_limits j s fun c => ⟨none, c.clamped, rfl⟩).trans ?_
    have hc' : s.carts.chutes[j]? = some c := hc
    have ho' : o ∈ c.queue := Chute.watched_mem ho
    exact fireOrder_limits (d := { c with mon := none }) (by simp [hc']) ho' c

theorem evalHead_limits (adv j : Nat) (s : State) : LimitsKept s (evalHead adv j s) := limits_headParts.evalHead adv j s

theorem evalHeads_limits (adv : Nat) (js : List Nat) (s : State) : LimitsKept s (evalHeads adv js s) :=
  .foldl (fun s j => evalHead_limits adv j s) js s

theorem resampleHead_limits (j : Nat) (s : State) : LimitsKept s (resampleHead j s) := by
  refine (modifyMon_limits j s fun c => ?_).trans (evalHead_limits _ _ _)
  split
  · exact ⟨_, _, rfl⟩
  · exact ⟨c.mon, c.clamped, rfl⟩

/-! ## New orders (R101) -/

theorem insertOrder_length (near : Order → Bool) (o : Order) (q : List Order) : (insertOrder near o q).length = q.length + 1 := by
  obtain ⟨before, after, hq, -, -, hins⟩ := insertOrder_split near o q
  rw [hins, hq]
  simp only [List.length_append, List.length_singleton]
  omega

/-- An order takes its place at a chute that accepts it (R85, R100). -/
theorem placeOrder_limits {kind : RouteKind} {reason : Option StrayReason} {tag : Nat}
    (hacc : ∀ c, s.carts.chutes[j]? = some c → c.accepts = true) : LimitsKept s (placeOrder j k kind reason tag s) := by
  refine .of_chute j rfl (fun c hc hlaw => ?_) rfl
  obtain ⟨hopen, hlen⟩ := (Chute.accepts_iff c).1 (hacc c hc)
  refine Chute.Fits.fullTest (hlaw.fits.more (hlaw.room hopen) rfl rfl ?_ ?_ (fun _ hidle => ?_) rfl)
  · simp only [Chute.count, Chute.queued, insertOrder_length]
    omega
  · simp only [Chute.queued, insertOrder_length]
    exact hlen
  · simp [Chute.inUse, hopen] at hidle

theorem queueOrder_limits {kind : RouteKind} {reason : Option StrayReason} {tag : Nat} {write : Nat → State → State}
    (hacc : ∀ c, s.carts.chutes[j]? = some c → c.accepts = true) (hw : ∀ n s, CartsStand s (write n s)) :
    LimitsKept s (queueOrder j k kind reason tag write s) := by
  have hplace : LimitsKept s (write s.sched.nextSeq (placeOrder j k kind reason tag s)) :=
    (placeOrder_limits hacc).trans (hw _ _).limits
  unfold queueOrder
  split
  · exact .refl s
  · exact .ite ((hplace.trans (armHead_limits _ _)).trans (evalHead_limits _ _ _)) hplace

/-! ## Cancellations (R112 to R114) -/

theorem cancelTray_cartsStand (k : Nat) (s : State) : CartsStand s (cancelTray k s) := by rw [cancelTray_eq]; rfl

theorem cancelOne_limits (j k : Nat) (s : State) : LimitsKept s (cancelOne j k s) := by
  have hcancel : LimitsKept s (cancelTray k (modifyChute j (Chute.cancel k) s)) :=
    LimitsKept.trans (t := modifyChute j (Chute.cancel k) s)
      (modifyTested_limits j s fun c => ⟨_, rfl, ⟨rfl, le_rfl, List.length_eraseP_le, le_rfl⟩, rfl⟩)
      (cancelTray_cartsStand k _).limits
  unfold cancelOne
  split
  · exact .refl s
  · exact .ite (.ite ((hcancel.trans (armHead_limits _ _)).trans (evalHead_limits _ _ _)) hcancel) (.refl s)

/-- A change of a chute that holds no more after it, and the cancellation of its queue: no order is left (R113). -/
theorem cancelQueue_limits_of {f : Chute → Chute} (j : Nat) (s : State) (h : ∀ c : Chute, c.Lighter (f c)) :
    LimitsKept s (cancelQueue j (modifyChute j f s)) := by
  cases hc : s.carts.chutes[j]? with
  | none =>
    have hno : (modifyChute j f s).chute? j = none := by simp [State.chute?, hc]
    rw [cancelQueue, hno]
    exact modifyChute_limits j s fun c hc' => by simp [hc] at hc'
  | some c =>
    have hc' : (modifyChute j f s).carts.chutes[j]? = some (f c) := by simp [hc]
    rw [cancelQueue_eq hc']
    refine .of_chute j (f := fun c => (f c).unordered) ?_ (fun c _ hlaw => hlaw.unordered (h c)) rfl
    change (s.carts.chutes.modify j f).set j _ = _
    rw [set_eq_modify_of_get hc, set_eq_modify_of_get hc, List.set_set]

theorem cancelQueue_limits (j : Nat) (s : State) : LimitsKept s (cancelQueue j s) := by
  have h := cancelQueue_limits_of (f := id) j s Chute.Lighter.refl
  rwa [modifyChute, List.modify_id] at h

theorem cancelAll_limits (s : State) : LimitsKept s (cancelAll s) := .foldl (fun s j => cancelQueue_limits j s) _ s

/-! ## Withdrawals of DROP frames (R111) -/

theorem endConfirmation_limits (j k seq : Nat) (s : State) : LimitsKept s (endConfirmation j k seq s) := by
  unfold endConfirmation
  split
  · exact .refl s
  · refine .ite (LimitsKept.trans (modifyChute_limits j s fun c _ hc => ?_) (changeTray_cartsStand _ _ _ _).limits) (.refl s)
    exact hc.same_state ⟨rfl, le_rfl, le_rfl, List.length_eraseP_le⟩ rfl

theorem dropNotSent_limits (j k seq serial tag : Nat) (s : State) : LimitsKept s (dropNotSent j k seq serial tag s) := by
  unfold dropNotSent
  split
  · exact .refl s
  · exact .ite (undoDrop_limits _ _ _ _ _ _) (endConfirmation_limits _ _ _ _)

theorem withdrawEach_limits : ∀ (l : List TimedFrame) (s : State), LimitsKept s (withdrawEach l s)
  | [], s => .refl s
  | f :: rest, s => by
    unfold withdrawEach
    split
    · refine LimitsKept.trans ?_ (withdrawEach_limits rest _)
      exact (LimitsKept.same (t := countWithdrawn (dropFirst s)) rfl).trans (dropNotSent_limits _ _ _ _ _ _)
    · exact withdrawEach_limits rest s
    · exact withdrawEach_limits rest s

theorem withdrawDrops_limits (s : State) : LimitsKept s (withdrawDrops s) := withdrawEach_limits _ s

/-! ## Changes of the manifest against the fire (R116 to R118) -/

theorem answerLate_limits (kind : ChangeKind) (k tag j serial seq : Nat) (s : State) :
    LimitsKept s (answerLate kind k tag j serial seq s) := by
  refine LimitsKept.trans ?_ (markAmended_limits _ _ _ _ _)
  exact .same rfl

theorem changeInCarts_limits (kind : ChangeKind) (tag : Nat) (s : State) : LimitsKept s (changeInCarts kind tag s) := by
  unfold changeInCarts
  split
  · exact answerLate_limits _ _ _ _ _ _ s
  · exact .refl s

theorem manifestChange_limits (kind : ChangeKind) (tag : Nat) (s : State) : LimitsKept s (manifestChange kind tag s) := by
  unfold manifestChange
  split
  · exact changeInCarts_limits _ _ s
  · split
    · exact cancelOne_limits _ _ s
    · exact answerLate_limits _ _ _ _ _ _ s
    · exact answerLate_limits _ _ _ _ _ _ s
    all_goals exact changeInCarts_limits _ _ s

end

end Sys2Proof.Machine
end

section
/-! # The law of the chutes through the induction lines and the arch (chapters 1 to 5) -/

namespace Sys2Proof.Machine

open Sys2Proof

section
variable {s t u : State} {k j : Nat}

/-! ## The induction lines (chapter 2) -/

theorem holdAgain_cartsStand (i t1 t2 : Nat) (s : State) : CartsStand s (holdAgain i t1 t2 s) := .ite rfl rfl

theorem releaseLine_cartsStand (i : Nat) (s : State) : CartsStand s (releaseLine i s) := by
  unfold releaseLine
  split
  · exact CartsStand.trans (changeTray_cartsStand _ _ _ (modifyLine i _ s)) (holdAgain_cartsStand _ _ _ _)
  · exact .refl s

theorem releaseReservations_cartsStand (s : State) : CartsStand s (releaseReservations s) :=
  .foldl (fun s i => releaseLine_cartsStand i s) _ s

theorem dropHeldLine_cartsStand (i : Nat) (s : State) : CartsStand s (dropHeldLine i s) := by
  unfold dropHeldLine
  split <;> rfl

theorem dropHeld_cartsStand (s : State) : CartsStand s (dropHeld s) := .foldl (fun s i => dropHeldLine_cartsStand i s) _ s

theorem sendLaunch_cartsStand (i k t1 t2 : Nat) (s : State) : CartsStand s (sendLaunch i k t1 t2 s) :=
  changeTray_cartsStand _ _ _ (queueTimed _ _ s)

theorem launchFire_cartsStand (i : Nat) (s : State) : CartsStand s (launchFire i s) := by
  unfold launchFire
  split
  · exact .ite (sendLaunch_cartsStand _ _ _ _ s) (releaseLine_cartsStand _ s)
  · rfl

theorem evalLaunch_cartsStand (adv i : Nat) (s : State) : CartsStand s (evalLaunch adv i s) := by
  unfold evalLaunch
  split
  · exact .refl s
  · exact launchFire_cartsStand _ s
  · exact releaseLine_cartsStand _ s

theorem resampleLaunch_cartsStand (i : Nat) (s : State) : CartsStand s (resampleLaunch i s) :=
  evalLaunch_cartsStand 0 i (modifyLine i _ s)

theorem reserveTray_cartsStand (i k t1 t2 : Nat) (s : State) : CartsStand s (reserveTray i k t1 t2 s) :=
  CartsStand.trans (changeTray_cartsStand k .empty _ s) (evalLaunch_cartsStand 0 i (modifyLine i _ _))

theorem attempt_cartsStand (i : Nat) (s : State) : CartsStand s (attempt i s) := by
  unfold attempt
  refine .ite ?_ (.refl s)
  split
  · split
    · split
      · exact reserveTray_cartsStand _ _ _ _ s
      · exact .refl s
    · exact .refl s
  · exact .refl s

theorem passLine_cartsStand (i k : Nat) (s : State) : CartsStand s (passLine i k s) := attempt_cartsStand i (modifyLine i _ s)

theorem takeBrdy_cartsStand (src line t1 t2 : Nat) (s : State) : CartsStand s (takeBrdy src line t1 t2 s) := by
  unfold takeBrdy
  split
  · rfl
  · split
    · rfl
    · exact .ite rfl (.ite rfl (.ite rfl (.ite rfl (attempt_cartsStand line (modifyLine line _ s)))))

theorem launchDone_cartsStand (i k t1 t2 gap outcome : Nat) (s : State) :
    CartsStand s (launchDone i k t1 t2 gap outcome s) := by
  have h : CartsStand s (if outcome = 1 then putTray k (s.loadedTray k i t1 t2) s else settleTray k (Tray.blank .empty) s) :=
    .ite rfl (settleTray_cartsStand _ _ s)
  exact h

theorem takeLdon_cartsStand (src : Nat) (x : LdonBody) (s : State) : CartsStand s (takeLdon src x s) := by
  unfold takeLdon
  split
  · rfl
  · split
    · exact .ite (launchDone_cartsStand _ _ _ _ _ _ s) rfl
    · rfl

theorem brdyOp_cartsStand (src : Nat) (x : Body BrdyBody) (s : State) : CartsStand s (brdyOp src x s) := by
  cases x with
  | full x => exact takeBrdy_cartsStand _ _ _ _ s
  | short bytes => rfl

theorem ldonOp_cartsStand (src : Nat) (x : Body LdonBody) (s : State) : CartsStand s (ldonOp src x s) := by
  cases x with
  | full x => exact takeLdon_cartsStand _ _ s
  | short bytes => rfl

theorem announceLine_cartsStand (adv i : Nat) (s : State) : CartsStand s (announceLine adv i s) := by
  unfold announceLine
  split
  · exact .foldl (fun s k => passLine_cartsStand i k s) _ s
  · exact .refl s

theorem announce_cartsStand (adv : Nat) (s : State) : CartsStand s (announce adv s) :=
  .foldl (fun s i => announceLine_cartsStand adv i s) _ s

/-! ## The route leads to a chute that accepts (R85 to R92) -/

/-- A route that names a chute names one that accepts. -/
def Route.Accepted (s : State) (r : Route) : Prop :=
  ∀ j kind, r = .chute j kind → ∃ c, s.carts.chutes[j]? = some c ∧ c.accepts = true

theorem Route.accepted_recirculate : Route.Accepted s .recirculate := nofun

theorem Route.accepted_chute {kind : RouteKind} (h : ∃ c, s.carts.chutes[j]? = some c ∧ c.accepts = true) :
    Route.Accepted s (.chute j kind) := by
  rintro _ _ ⟨⟩
  exact h

theorem tryStraySet_accepted (k tag : Nat) (reason : StrayReason) (s : State) :
    Route.Accepted s (tryStraySet k tag reason s).2 := by
  unfold tryStraySet
  split
  · exact Route.accepted_chute (chooseChute_accepts ‹_›)
  · exact Route.accepted_recirculate

theorem routeStray_accepted (k tag : Nat) (reason : StrayReason) (s : State) :
    Route.Accepted s (routeStray k tag reason s).2 := by
  have hset : ∀ r, Route.Accepted s (tryStraySet k tag reason (withRouter r s)).2 := fun r =>
    tryStraySet_accepted k tag reason (withRouter r s)
  rw [routeStray_eq k tag reason s rfl]
  split
  · exact Route.accepted_chute (scanRules_chute_accepts ‹_›)
  · split
    · exact hset _
    · exact Route.accepted_recirculate
  · exact hset _
  · exact hset _

theorem recirculateIdentified_accepted (k tag cabin zone : Nat) (s : State) :
    Route.Accepted s (recirculateIdentified k tag cabin zone s).2.route := by
  unfold recirculateIdentified
  split
  · exact tryStraySet_accepted k tag .noRoute (countReplaced s)
  · exact Route.accepted_recirculate

theorem routePlaced_accepted (k cabin : Nat) (p : Placed) (s : State) : Route.Accepted s (routePlaced k cabin p s).2.route := by
  rw [routePlaced_eq rfl rfl]
  split
  · exact Route.accepted_chute (scanRules_chute_accepts ‹_›)
  · exact recirculateIdentified_accepted k _ _ _ _
  · exact routeStray_accepted k p.tag .noRoute _
  · exact recirculateIdentified_accepted k _ _ _ _
  · exact routeStray_accepted k p.tag .noRoute _

theorem resolveRoute_accepted (k tag : Nat) (v : Verdict) (s : State) : Route.Accepted s (resolveRoute k tag v s).2.route := by
  unfold resolveRoute
  split
  · exact routeStray_accepted k tag _ s
  · split
    · exact routeStray_accepted k tag _ s
    · exact routePlaced_accepted k _ _ s

/-! ## Passes at the arch (chapter 3) -/

theorem tellDeck_cartsStand (k tag j : Nat) (kind : RouteKind) (s : State) : CartsStand s (tellDeck k tag j kind s) :=
  (tellDeck_straysOnly k tag j kind s).cartsStand

theorem applyRoute_limits {route : Route} (x : Tray) (h : Route.Accepted s route) : LimitsKept s (applyRoute k x route s) := by
  unfold applyRoute
  split
  · exact .same rfl
  · rename_i j kind
    obtain ⟨c, hc, hacc⟩ := h j kind rfl
    have hcarts : (tellDeck k x.tag j kind s).carts = s.carts := tellDeck_cartsStand k x.tag j kind s
    refine (tellDeck_cartsStand k x.tag j kind s).limits.trans (queueOrder_limits (fun d hd => ?_) fun _ _ => rfl)
    rw [hcarts, hc] at hd
    exact Option.some.inj hd ▸ hacc

theorem handOn_limits (k lap : Nat) (source : Option Nat) (r : Reading) (s : State) :
    LimitsKept s (handOn k lap source r s) := by
  have hstand : CartsStand s (resolveRoute k r.tag r.verdict s).1 := (resolveRoute_routerOnly k r.tag r.verdict s).cartsStand
  refine .ite (hstand.limits.trans (applyRoute_limits _ ?_)) (.same rfl)
  unfold Route.Accepted
  rw [show (resolveRoute k r.tag r.verdict s).1.carts = s.carts from hstand]
  exact resolveRoute_accepted k r.tag r.verdict s

theorem countLookups_cartsStand (lap : Nat) (set : List SetTag) (s : State) : CartsStand s (countLookups lap set s) := by
  rw [countLookups_eq]
  rfl

theorem passBag_limits (k lap : Nat) (source : Option Nat) (set : List SetTag) (s : State) :
    LimitsKept s (passBag k lap source set s) :=
  (countLookups_cartsStand lap set s).limits.trans (handOn_limits _ _ _ _ _)

theorem passEmpty_limits (k : Nat) (o : Occupancy) (n1 n2 : Nat) (s : State) : LimitsKept s (passEmpty k o n1 n2 s) := by
  unfold passEmpty
  split
  · refine LimitsKept.trans ?_ (passBag_limits _ _ _ _ _)
    exact .same rfl
  · exact .refl s
  · exact .refl s

theorem passLoaded_limits (k : Nat) (x : Tray) (o : Occupancy) (n1 n2 : Nat) (s : State) :
    LimitsKept s (passLoaded k x o n1 n2 s) := by
  unfold passLoaded
  split
  · exact passBag_limits _ _ _ _ s
  · exact passBag_limits _ _ _ _ s
  · exact (settleTray_cartsStand _ _ s).limits

theorem passRecirculate_limits (k : Nat) (x : Tray) (o : Occupancy) (n1 n2 : Nat) (s : State) :
    LimitsKept s (passRecirculate k x o n1 n2 s) := by
  unfold passRecirculate
  split
  · exact passBag_limits _ _ _ _ s
  · exact passBag_limits _ _ _ _ s
  · exact (settleTray_cartsStand _ _ s).limits

theorem passDoubt_limits (k : Nat) (x : Tray) (o : Occupancy) (n1 n2 : Nat) (s : State) :
    LimitsKept s (passDoubt k x o n1 n2 s) := by
  unfold passDoubt
  split
  · exact (undoDrop_limits _ _ _ _ _ s).trans (passBag_limits _ _ _ _ _)
  · exact (presumeDrop_limits _ _ _ _ s).trans (settleTray_cartsStand _ _ _).limits
  · exact .refl s

theorem freeLaunch_cartsStand (k : Nat) (i : Option Nat) (s : State) : CartsStand s (freeLaunch k i s) := by
  unfold freeLaunch
  split <;> rfl

theorem loadAtArch_cartsStand (k : Nat) (i : Option Nat) (s : State) : CartsStand s (loadAtArch k i s) :=
  freeLaunch_cartsStand k i (putTray k _ s)

theorem emptyAtArch_cartsStand (k : Nat) (i : Option Nat) (s : State) : CartsStand s (emptyAtArch k i s) :=
  (settleTray_cartsStand k _ s).trans (freeLaunch_cartsStand k i _)

theorem passLaunching_limits (k : Nat) (x : Tray) (o : Occupancy) (n1 n2 : Nat) (s : State) :
    LimitsKept s (passLaunching k x o n1 n2 s) := by
  unfold passLaunching
  split
  · exact (emptyAtArch_cartsStand _ _ s).limits
  · exact (loadAtArch_cartsStand _ _ s).limits.trans (passLoaded_limits _ _ _ _ _ _)
  · exact (loadAtArch_cartsStand _ _ s).limits.trans (passLoaded_limits _ _ _ _ _ _)

theorem passTray_limits (k : Nat) (o : Occupancy) (n1 n2 : Nat) (s : State) : LimitsKept s (passTray k o n1 n2 s) := by
  unfold passTray
  split
  · exact .refl s
  · split
    · exact passEmpty_limits _ _ _ _ s
    · exact passLaunching_limits _ _ _ _ _ s
    · exact passLoaded_limits _ _ _ _ _ s
    · exact passRecirculate_limits _ _ _ _ _ s
    · exact passDoubt_limits _ _ _ _ _ s
    all_goals exact .same rfl

/-! ## The scan monitor (R44 to R48) -/

theorem armScan_cartsStand (k : Nat) (s : State) : CartsStand s (armScan k s) := by
  unfold armScan
  split <;> rfl

theorem limits_scanParts : ScanParts LimitsKept where
  refl := .refl
  trans := .trans
  arch _ _ := .same rfl
  arm k s := (armScan_cartsStand k s).limits
  send _ := .same rfl
  pass k s := passTray_limits k .unknown 0 0 s

theorem evalScan_limits (adv : Nat) (s : State) : LimitsKept s (evalScan adv s) := limits_scanParts.evalScan adv s

theorem freshArm_limits (s : State) : LimitsKept s (freshArm s) := limits_scanParts.freshArm s

theorem moveScan_limits (k : Nat) (s : State) : LimitsKept s (moveScan k s) := by
  unfold moveScan
  refine .ite ?_ (.refl s)
  split
  · exact (armScan_cartsStand _ s).limits.trans (evalScan_limits _ _)
  · exact .same rfl

theorem resampleScan_limits (s : State) : LimitsKept s (resampleScan s) := by
  unfold resampleScan
  split
  · exact (armScan_cartsStand _ s).limits.trans (evalScan_limits _ _)
  · exact freshArm_limits s

theorem tscnOp_limits (src : Nat) (x : Body TscnBody) (s : State) : LimitsKept s (tscnOp src x s) := by
  unfold tscnOp takeTscn
  split
  · split
    · exact .same rfl
    · refine .ite (.same rfl) (.ite (.same rfl) (LimitsKept.trans ?_ (passTray_limits _ _ _ _ _)))
      exact .same rfl
  · exact .same rfl

/-! ## The chain (chapter 1) -/

theorem evalScanIf_limits (armed : Bool) (adv : Nat) (s : State) : LimitsKept s (evalScanIf armed adv s) :=
  .ite (evalScan_limits _ s) (.refl s)

theorem evalAll_limits (adv : Nat) (before s : State) : LimitsKept s (evalAll adv before s) :=
  ((CartsStand.foldl (fun s i => evalLaunch_cartsStand adv i s) _ s).limits.trans (evalScanIf_limits _ _ _)).trans
    (evalHeads_limits _ _ _)

theorem movedForward_limits (adv : Nat) (s : State) : LimitsKept s (movedForward adv s) :=
  (announce_cartsStand adv s).limits.trans (evalAll_limits _ _ _)

theorem resampleAll_limits (s : State) : LimitsKept s (resampleAll s) := by
  unfold resampleAll
  refine LimitsKept.trans ?_ (.foldl (fun s j => resampleHead_limits j s) _ _)
  refine LimitsKept.trans ?_ (resampleScan_limits _)
  exact (CartsStand.foldl (fun s i => resampleLaunch_cartsStand i s) _ s).limits

theorem speedSample_limits (s : State) : LimitsKept s (speedSample s) := by
  refine .ite (LimitsKept.trans ?_ (resampleAll_limits _)) (.same rfl)
  exact .same rfl

theorem encoderStep_limits (ph : EncPhase) (s : State) : LimitsKept s (encoderStep ph s) := by
  refine .ite (LimitsKept.trans ?_ (movedForward_limits 1 _)) (.same rfl)
  exact .same rfl

theorem disarmAll_limits (s : State) : LimitsKept s (disarmAll s) := by
  refine .of_chutes (List.forall₂_map_right_iff.2 (List.forall₂_same.2 fun c _ hc => ?_)) rfl
  exact hc.same_state ⟨rfl, le_rfl, le_rfl, le_rfl⟩ rfl

theorem notify_limits (n : Notice) (s : State) : LimitsKept s (notify n s) := .same rfl

theorem enterLost_limits (cause : StopCause) (s : State) : LimitsKept s (enterLost cause s) := by
  refine LimitsKept.trans ?_ (setLatch_cartsStand cause _).limits
  refine LimitsKept.trans ?_ (notify_limits _ _)
  refine LimitsKept.trans ?_ (releaseReservations_cartsStand _).limits
  refine LimitsKept.trans ?_ (withdrawDrops_limits _)
  refine LimitsKept.trans ?_ (cancelAll_limits _)
  exact disarmAll_limits (withTracker { s.tracker with state := .lost } s)

theorem bothChange_limits (s : State) : LimitsKept s (bothChange s) := by
  refine LimitsKept.trans (t := withPins { s.pins with encA := !s.pins.encA, encB := !s.pins.encB } s) (.same rfl) ?_
  unfold bothChange encoderFault
  split
  · exact .refl _
  · exact enterLost_limits _ _
  · exact (setLatch_cartsStand _ _).limits
  · exact (setLatch_cartsStand _ _).limits

theorem resync_limits (left : TrackState) (s : State) : LimitsKept s (resync left s) := by
  refine LimitsKept.trans ?_ (freshArm_limits _)
  exact .same rfl

theorem homePulse_limits (s : State) : LimitsKept s (homePulse s) := by
  unfold homePulse
  split
  · exact .refl s
  · exact resync_limits _ s
  · exact resync_limits _ s
  · split
    · refine .ite (LimitsKept.trans ?_ (movedForward_limits _ _)) (enterLost_limits _ s)
      exact .same rfl
    · exact .refl s

theorem stopChange_cartsStand (held : Bool) (s : State) : CartsStand s (stopChange held s) :=
  noticeLevel_cartsStand _ (withPins { s.pins with stopHeld := held } s)

end

end Sys2Proof.Machine
end

section
/-! # The law of the chutes through the chute frames and the chute commands (sections 7.5 to 7.8) -/

namespace Sys2Proof.Machine

open Sys2Proof

section
variable {s t : State} {j : Nat} {c d : Chute}

/-! ## Changes of a chute's own -/

/-- A change of one chute that holds no more after it, in the same state. -/
theorem modifySame_limits {f : Chute → Chute} (j : Nat) (s : State) (h : ∀ c : Chute, c.Lighter (f c))
    (hs : ∀ c, (f c).state = c.state) : LimitsKept s (modifyChute j f s) :=
  modifyChute_limits j s fun c _ hc => hc.same_state (h c) (hs c)

/-- A chute that is not in use takes another state than OPEN. -/
theorem modifyIdle_limits {f : Chute → Chute} (hidle : ∀ c, s.carts.chutes[j]? = some c → c.inUse = false)
    (h : ∀ c : Chute, c.Lighter (f c)) (hopen : ∀ c, (f c).state ≠ .opened) : LimitsKept s (modifyChute j f s) :=
  modifyChute_limits j s fun c hc hlaw => hlaw.lighter (h c) (fun ho => absurd ho (hopen c)) fun _ => .inl (hidle c hc)

/-! ## Confirmations and carts (R130, R135, R136) -/

theorem Chute.lighter_confirm (a : Confirmation) (c : Chute) : c.Lighter (c.confirm a) := by
  unfold Chute.confirm
  split
  · exact ⟨rfl, by simp, le_rfl, le_rfl⟩
  · exact .refl c

theorem Chute.confirm_state (a : Confirmation) (c : Chute) : (c.confirm a).state = c.state := by
  unfold Chute.confirm
  split <;> rfl

theorem eyeSaw_limits (hc : s.carts.chutes[j]? = some c) : LimitsKept s (eyeSaw j c s) := by
  unfold eyeSaw
  split
  · exact modifySame_limits j s (fun _ => ⟨rfl, le_rfl, le_rfl, le_rfl⟩) fun _ => rfl
  · rename_i a rest hawait
    refine LimitsKept.trans (modifyChute_limits j s fun d hd hlaw => ?_) (changeTray_cartsStand _ _ _ _).limits
    obtain rfl : c = d := Option.some.inj (hc.symm.trans hd)
    have hrest : ({ c with awaiting := rest } : Chute).CapacityLaw :=
      hlaw.same_state ⟨rfl, le_rfl, le_rfl, by simp [hawait]⟩ rfl
    exact hrest.same_state (Chute.lighter_confirm a _) (Chute.confirm_state a _)

theorem beginSwap_limits (j : Nat) (s : State) : LimitsKept s (beginSwap j s) :=
  (cancelQueue_limits_of (f := fun c => { c with state := .swap, present := false }) j s fun _ =>
    ⟨rfl, le_rfl, le_rfl, le_rfl⟩).trans (closeCart_limits j _)

theorem beginPriorSwap_limits (j : Nat) (s : State) : LimitsKept s (beginPriorSwap j s) := by
  refine LimitsKept.trans ?_ (closeCart_limits j _)
  exact modifySame_limits j s (fun _ => ⟨rfl, le_rfl, le_rfl, le_rfl⟩) fun _ => rfl

theorem clearPresent_limits (j : Nat) (s : State) : LimitsKept s (clearPresent j s) :=
  modifySame_limits j s (fun _ => ⟨rfl, le_rfl, le_rfl, le_rfl⟩) fun _ => rfl

theorem setPresent_limits (j : Nat) (s : State) : LimitsKept s (setPresent j s) :=
  modifySame_limits j s (fun _ => ⟨rfl, le_rfl, le_rfl, le_rfl⟩) fun _ => rfl

theorem cartOut_limits (j : Nat) (c : Chute) (s : State) : LimitsKept s (cartOut j c s) := by
  unfold cartOut
  split
  · exact beginSwap_limits j s
  · exact beginSwap_limits j s
  · exact clearPresent_limits j s
  · exact .refl s
  · split
    · exact beginPriorSwap_limits j s
    · exact beginPriorSwap_limits j s
    · exact clearPresent_limits j s
    all_goals exact .refl s

theorem cartIn_limits (j : Nat) (c : Chute) (s : State) : LimitsKept s (cartIn j c s) := by
  unfold cartIn
  split
  · exact (setPresent_limits j s).trans (swapTest_limits j _)
  · exact .ite (setPresent_limits j s) (.refl s)
  all_goals exact .refl s

/-! ## Faults (R137, R138) -/

theorem stopOnFault_cartsStand (j : Nat) (c : Chute) (s : State) : CartsStand s (stopOnFault j c s) :=
  .ite (setLatch_cartsStand _ s) (.refl s)

theorem faultChute_limits (j : Nat) (c : Chute) (s : State) : LimitsKept s (faultChute j c s) := by
  refine .ite (stopOnFault_cartsStand j c s).limits (LimitsKept.trans ?_ (stopOnFault_cartsStand j c _).limits)
  exact cancelQueue_limits_of j s fun _ => ⟨rfl, le_rfl, le_rfl, le_rfl⟩

theorem Chute.inUse_of_faulted (hs : c.state = .faulted) : c.inUse = false := by
  rw [Chute.inUse, hs]
  rfl

theorem Chute.inUse_of_swap (hs : c.state = .swap) : c.inUse = false := by
  rw [Chute.inUse, hs]
  rfl

/-- A FAULTED chute holds no order, so that it takes its prior state back by the FULL test alone. -/
theorem Chute.CapacityLaw.restore (h : c.CapacityLaw) (hs : c.state = .faulted) : c.restore.CapacityLaw :=
  (h.fits.lighter (d := { c with state := c.prior.getD .closed, prior := none }) ⟨rfl, le_rfl, le_rfl, le_rfl⟩
    fun _ => .inl (Chute.inUse_of_faulted hs)).fullTest

theorem clearFault_limits (hc : s.carts.chutes[j]? = some c) : LimitsKept s (clearFault j c s) := by
  unfold clearFault
  split
  · rename_i hs
    refine LimitsKept.trans (modifyChute_limits j s fun d hd hlaw => ?_) (swapTest_limits j _)
    obtain rfl : c = d := Option.some.inj (hc.symm.trans hd)
    exact hlaw.restore hs
  · exact .refl s

/-! ## CLOSE and session close (R140, R143) -/

theorem closeOrDiscard_limits (j : Nat) (c : Chute) (s : State) : LimitsKept s (closeOrDiscard j c s) :=
  .ite (.refl s) (closeCart_limits j s)

theorem closeInUse_limits (j : Nat) (c : Chute) (s : State) : LimitsKept s (closeInUse j c s) := by
  refine LimitsKept.trans ?_ (closeOrDiscard_limits j c _)
  exact cancelQueue_limits_of j s fun _ => ⟨rfl, le_rfl, le_rfl, le_rfl⟩

theorem closePrior_limits (j : Nat) (c : Chute) (s : State) :
    LimitsKept s (closeOrDiscard j c (modifyChute j (fun c => { c with prior := some .closed }) s)) := by
  refine LimitsKept.trans ?_ (closeOrDiscard_limits j c _)
  exact modifySame_limits j s (fun _ => ⟨rfl, le_rfl, le_rfl, le_rfl⟩) fun _ => rfl

theorem closeChute_limits (hc : s.carts.chutes[j]? = some c) : LimitsKept s (closeChute j c s) := by
  unfold closeChute
  split
  · exact closeInUse_limits j c s
  · exact closeInUse_limits j c s
  · rename_i hs
    refine modifyIdle_limits (fun d hd => ?_) (fun _ => ⟨rfl, le_rfl, le_rfl, le_rfl⟩) fun _ => nofun
    obtain rfl : c = d := Option.some.inj (hc.symm.trans hd)
    exact Chute.inUse_of_swap hs
  · exact .refl s
  · split
    · exact closePrior_limits j c s
    · exact closePrior_limits j c s
    · exact modifySame_limits j s (fun _ => ⟨rfl, le_rfl, le_rfl, le_rfl⟩) fun _ => rfl
    all_goals exact .refl s

/-- A closed cart leaves its chute in its state. -/
theorem closeCart_state (hd : (closeCart j s).carts.chutes[j]? = some d) : ∃ c, s.carts.chutes[j]? = some c ∧ d.state = c.state := by
  unfold closeCart at hd
  split at hd
  · exact ⟨d, hd, rfl⟩
  · rename_i c hc
    have hc' : s.carts.chutes[j]? = some c := hc
    split at hd
    all_goals
      simp only [List.getElem?_modify_eq, hc', Option.map_eq_map, Option.map_some, Option.some.injEq] at hd
      exact ⟨c, hc', hd ▸ rfl⟩

theorem closeOrDiscard_state (hd : (closeOrDiscard j c s).carts.chutes[j]? = some d) :
    ∃ c, s.carts.chutes[j]? = some c ∧ d.state = c.state := by
  unfold closeOrDiscard at hd
  split at hd
  · exact ⟨d, hd, rfl⟩
  · exact closeCart_state hd

/-- A FAULTED chute is CLOSED at session close, with no order (R143). -/
theorem closeFaulted_limits (hc : s.carts.chutes[j]? = some c) (hs : c.state = .faulted) :
    LimitsKept s (closeFaulted j c s) := by
  have hclosed : ∀ {u : State}, (∀ d, u.carts.chutes[j]? = some d → ∃ c, s.carts.chutes[j]? = some c ∧ d.state = c.state) →
      LimitsKept u (modifyChute j (fun c => { c with state := .closed, prior := none }) u) := by
    refine fun hu => modifyIdle_limits (fun d hd => ?_) (fun _ => ⟨rfl, le_rfl, le_rfl, le_rfl⟩) fun _ => nofun
    obtain ⟨c', hc', hd⟩ := hu d hd
    obtain rfl : c = c' := Option.some.inj (hc.symm.trans hc')
    exact Chute.inUse_of_faulted (hd.trans hs)
  unfold closeFaulted
  split
  · exact (closeOrDiscard_limits j c s).trans (hclosed fun _ => closeOrDiscard_state)
  · exact hclosed fun d hd => ⟨d, hd, rfl⟩

theorem closeAtEnd_limits (j : Nat) (s : State) : LimitsKept s (closeAtEnd j s) := by
  unfold closeAtEnd
  split
  · exact .refl s
  · rename_i c hc
    split
    · exact closeFaulted_limits hc ‹_›
    · exact closeChute_limits hc

theorem closeAllChutes_limits (s : State) : LimitsKept s (closeAllChutes s) := .foldl (fun s j => closeAtEnd_limits j s) _ s

/-! ## Frames and commands (R127, R139 to R142) -/

/-- A chute frame names a configured chute. -/
theorem State.frameChute_get {src : Nat} {x : Body Nat} (h : s.frameChute src x = some (j, c)) :
    s.carts.chutes[j]? = some c := by
  unfold State.frameChute at h
  split at h
  · split at h
    · rename_i c' hc'
      split at h
      · cases h
        exact hc'
      · cases h
    · cases h
  · cases h

theorem chuteFrame_limits {entry : Nat → Chute → State → State} (src : Nat) (x : Body Nat) (s : State)
    (h : ∀ j c, s.carts.chutes[j]? = some c → LimitsKept s (entry j c s)) : LimitsKept s (chuteFrame src x entry s) := by
  unfold chuteFrame
  split
  · exact h _ _ (State.frameChute_get ‹_›)
  · exact .congr rfl rfl

theorem ceyeOp_limits (src : Nat) (x : Body Nat) (s : State) : LimitsKept s (ceyeOp src x s) :=
  chuteFrame_limits src x s fun _ _ hc => eyeSaw_limits hc

theorem coutOp_limits (src : Nat) (x : Body Nat) (s : State) : LimitsKept s (coutOp src x s) :=
  chuteFrame_limits src x s fun j c _ => cartOut_limits j c s

theorem cinOp_limits (src : Nat) (x : Body Nat) (s : State) : LimitsKept s (cinOp src x s) :=
  chuteFrame_limits src x s fun j c _ => cartIn_limits j c s

theorem cfltOp_limits (src : Nat) (x : Body Nat) (s : State) : LimitsKept s (cfltOp src x s) :=
  chuteFrame_limits src x s fun j c _ => faultChute_limits j c s

theorem cclrOp_limits (src : Nat) (x : Body Nat) (s : State) : LimitsKept s (cclrOp src x s) :=
  chuteFrame_limits src x s fun _ _ hc => clearFault_limits hc

/-- A chute command reaches a configured chute or is refused. -/
theorem commandChute_limits {action : Nat → Chute → State → Served} (j : Nat) (s : State)
    (h : ∀ c, s.carts.chutes[j]? = some c → LimitsKept s (action j c s).state) : LimitsKept s (commandChute j action s).state := by
  unfold commandChute
  split
  · exact .refl s
  · split
    · exact .refl s
    · split
      · exact .refl s
      · exact h _ ‹_›

theorem openCommand_limits (j : Nat) (c : Chute) (s : State) : LimitsKept s (openCommand j c s).state := by
  unfold openCommand
  split
  · split
    · exact openWithCart_limits j s
    · exact .refl s
  all_goals exact .refl s

theorem forceCommand_limits (j : Nat) (c : Chute) (s : State) : LimitsKept s (forceCommand j c s).state := by
  unfold forceCommand
  split
  · exact cartOut_limits j c s
  · exact .refl s

theorem serveCcmdOpen_limits (arg : ActionArg) (s : State) : LimitsKept s (serveCcmdOpen arg s).state := by
  unfold serveCcmdOpen
  split
  · exact commandChute_limits _ s fun c _ => openCommand_limits _ c s
  all_goals split <;> exact .refl s

end

end Sys2Proof.Machine
end

section
/-! # The law of the chutes through the ports and the requests (chapters 4, 5 and 7 to 11) -/

namespace Sys2Proof.Machine

open Sys2Proof

section
variable {s t u : State}

/-! ## The ports (chapter 10) -/

theorem fieldFrame_limits (f : Frame) (s : State) : LimitsKept s (fieldFrame f s) := by
  unfold fieldFrame
  split
  · exact (brdyOp_cartsStand _ _ s).limits
  · exact (ldonOp_cartsStand _ _ s).limits
  · exact tscnOp_limits _ _ s
  · exact ceyeOp_limits _ _ s
  · exact coutOp_limits _ _ s
  · exact cinOp_limits _ _ s
  · exact cfltOp_limits _ _ s
  · exact cclrOp_limits _ _ s
  · exact .refl s

theorem takeRequest_cartsStand (hdr : ReqHdr) (r : Request) (s : State) : CartsStand s (takeRequest hdr r s) :=
  .ite rfl (.ite rfl rfl)

theorem trainingReceived_limits (p : PortId) (s : State) : LimitsKept s (trainingReceived p s) := by
  unfold trainingReceived
  split
  · exact .refl s
  · refine LimitsKept.trans (t := noticeLink p .training .up (modifyPort p (Port.enterUp s.now) s)) (.same rfl) ?_
    cases p with
    | up => exact .refl _
    | down => exact freshArm_limits _
  · exact .same rfl

/-- The queues of the field port are emptied. -/
theorem emptyQueues_cartsStand (s : State) : CartsStand s (modifyPort .down Port.emptyForward (discardTimed s)) := rfl

theorem fieldLinkFault_limits (s : State) : LimitsKept s (fieldLinkFault s) := by
  refine LimitsKept.trans ?_ (setLatch_cartsStand _ _).limits
  refine LimitsKept.trans ?_ (notify_limits _ _)
  refine LimitsKept.trans ?_ (releaseReservations_cartsStand _).limits
  refine LimitsKept.trans ?_ (emptyQueues_cartsStand _).limits
  refine LimitsKept.trans ?_ (withdrawDrops_limits _)
  refine LimitsKept.trans ?_ (cancelAll_limits _)
  exact disarmAll_limits (abandonIref (modifyPort .down (Port.enterDown s.now) s))

theorem linkTimeout_limits (p : PortId) (s : State) : LimitsKept s (linkTimeout p s) := by
  unfold linkTimeout
  split
  · exact .refl s
  · exact .refl s
  · cases p with
    | up => exact .same rfl
    | down => exact fieldLinkFault_limits s

theorem idleReceived_cartsStand (p : PortId) (s : State) : CartsStand s (idleReceived p s) := by
  unfold idleReceived
  split <;> rfl

theorem holdoffEnd_cartsStand (p : PortId) (s : State) : CartsStand s (holdoffEnd p s) := by
  unfold holdoffEnd
  split <;> rfl

theorem trainingSend_cartsStand (p : PortId) (s : State) : CartsStand s (trainingSend p s) := by
  unfold trainingSend
  split <;> rfl

theorem idleSend_cartsStand (p : PortId) (s : State) : CartsStand s (idleSend p s) := .ite rfl rfl

theorem intake_limits (p : PortId) (f : Frame) (s : State) : LimitsKept s (intake p f s) := by
  unfold intake
  split
  · cases p with
    | up => exact .same rfl
    | down => exact .ite (fieldFrame_limits f s) (.same rfl)
  · split
    · cases p with
      | up => exact (takeRequest_cartsStand _ _ (withLink { s.link with host := some f.src } s)).limits
      | down => exact .same rfl
    · exact .same rfl

theorem decideFrame_limits (p : PortId) (f : Frame) (s : State) : LimitsKept s (decideFrame p f s) :=
  .ite (trainingReceived_limits p s)
    (.ite (.refl s)
      (.ite (.same rfl) (.ite (intake_limits p f s) (.ite (intake_limits p f (forwardTo (otherPort p) f s)) (.same rfl)))))

theorem frameReceived_limits (p : PortId) (r : Received) (s : State) : LimitsKept s (frameReceived p r s) := by
  unfold frameReceived
  split
  · exact .refl s
  · unfold receiveTraining
    split
    · exact .refl s
    · exact .refl s
    · exact .ite (trainingReceived_limits p s) (.refl s)
  · unfold receiveUp
    split
    · exact .same rfl
    · exact .same rfl
    · exact decideFrame_limits p _ (modifyPort p (Port.heard s.now) s)

theorem timedSent_cartsStand (s : State) : CartsStand s (timedSent s) := by
  unfold timedSent
  split
  · exact .refl s
  · exact .ite (.ite rfl rfl) (.refl s)

theorem leavePlace_limits (cls : TxClass) (s : State) : LimitsKept s (leavePlace cls s) := by
  cases cls with
  | timing => exact (timedSent_cartsStand s).limits
  | cart => exact cartFrameSent_limits s
  | iref => exact .same rfl
  | reply => exact .same rfl
  | note => exact .same rfl
  | training => exact .refl s
  | idle => exact .refl s
  | answer => exact .refl s
  | forward => exact .refl s

theorem frameSent_limits (p : PortId) (s : State) : LimitsKept s (frameSent p s) := by
  unfold frameSent
  split
  · exact .refl s
  · rename_i x _
    exact leavePlace_limits x.cls (modifyPort p (Port.sent x.cls s.now) s)

/-! ## Modes (R163 to R171) -/

theorem enterQuiet_limits (m : Mode) (s : State) : LimitsKept s (enterQuiet m s) := withdrawDrops_limits (setMode m s)

theorem serveOpen_limits (arg : ModeOpenArg) (s : State) : LimitsKept s (serveOpen arg s).state := by
  unfold serveOpen
  split
  · exact .refl s
  · split <;> exact .refl s
  · split
    · exact .refl s
    · split
      · exact .refl s
      · refine LimitsKept.trans ?_ (enterQuiet_limits .setup _)
        exact .congr rfl rfl

/-- An empty staging list is in order. -/
theorem closeChuteStaging_limits (s : State) : LimitsKept s (closeChuteStaging s) := by
  rintro ⟨hlaw, -, hlen, -⟩
  exact ⟨hlaw, nofun, hlen, Nat.zero_le _⟩

theorem serveShadow_limits (s : State) : LimitsKept s (serveShadow s).state := by
  unfold serveShadow
  split
  · exact .refl s
  · split
    · exact (closeChuteStaging_limits s).trans (enterQuiet_limits .shadow _)
    · exact .refl s

theorem serveSetup_limits (s : State) : LimitsKept s (serveSetup s).state := by
  unfold serveSetup
  split
  · exact .refl s
  · exact (cancelAll_limits s).trans (enterQuiet_limits .setup _)

theorem serveSort_limits (s : State) : LimitsKept s (serveSort s).state := by
  unfold serveSort
  split
  · exact .refl s
  · split
    · exact closeChuteStaging_limits s
    · exact .refl s

theorem serveDrain_limits (s : State) : LimitsKept s (serveDrain s).state := by
  unfold serveDrain
  split
  · exact .refl s
  · exact (dropHeld_cartsStand (closeRuleStaging (setMode .draining s))).limits

theorem serveClose_limits (s : State) : LimitsKept s (serveClose s).state := by
  unfold serveClose
  split
  · exact .refl s
  · refine LimitsKept.trans (closeAllChutes_limits s) (LimitsKept.trans ?_ (enterQuiet_limits .idle _))
    exact .same rfl

/-! ## The tables (R94 to R96, R121 to R123, R196) -/

theorem serveLcfg_limits (arg : Option LoopArg) (s : State) : LimitsKept s (serveLcfg arg s).state := by
  unfold serveLcfg
  split
  · exact .refl s
  · split
    · exact .refl s
    · split
      · exact .refl s
      · split
        · exact .refl s
        · exact (disarmAll_limits s).trans (.same rfl)

/-- The chutes of a table are CLOSED and hold nothing, by capacities of at least 1. -/
theorem installChutes_law : ∀ (first : Nat) (cs : List ChuteArg), (∀ a ∈ cs, 1 ≤ a.capacity) →
    ∀ c ∈ installChutes first cs, c.CapacityLaw
  | _, [], _, _, hc => nomatch hc
  | _, a :: rest, h, c, hc => by
    rcases List.mem_cons.1 hc with rfl | hc
    · exact ⟨h a (.head _), Nat.zero_le _, nofun, fun _ => rfl, Nat.zero_le _, Nat.zero_le _⟩
    · exact installChutes_law _ rest (fun x hx => h x (.tail _ hx)) c hc

theorem installTable_capacityLaw {cs : List ChuteArg} (h : ∀ a ∈ cs, 1 ≤ a.capacity) (hlen : cs.length ≤ 64) (s : State) :
    (installTable cs s).CapacityLaw :=
  ⟨installChutes_law 0 cs h, nofun, (installChutes_length 0 cs).trans_le hlen, Nat.zero_le _⟩

theorem refuseInstall_limits (x : Status) (n : Nat) (s : State) : LimitsKept s (refuseInstall x n s).state := by
  unfold refuseInstall
  split
  · exact closeChuteStaging_limits s
  · exact .refl s

theorem installStaged_limits {cs : List ChuteArg} (g : Geometry) (n : Nat) (s : State)
    (h : s.CapacityLaw → ∀ a ∈ cs, 1 ≤ a.capacity) (hlen : cs.length ≤ 64) : LimitsKept s (installStaged g n cs s).state := by
  unfold installStaged
  split
  · exact refuseInstall_limits _ _ s
  · split
    · exact refuseInstall_limits _ _ s
    · split
      · exact refuseInstall_limits _ _ s
      · split
        · exact refuseInstall_limits _ _ s
        · exact fun hs => installTable_capacityLaw (h hs) hlen s

theorem chuteArgOk_capacity {lu : Nat} {a : ChuteArg} (h : chuteArgOk lu a = true) : 1 ≤ a.capacity := by
  simp only [chuteArgOk, Bool.and_eq_true, decide_eq_true_eq] at h
  omega

/-- The staging list with a part of checked chutes. -/
theorem stagePart_capacity {first lu : Nat} {staged items : List ChuteArg} (hs : ∀ a ∈ staged, 1 ≤ a.capacity)
    (hi : items.all (chuteArgOk lu) = true) : ∀ a ∈ stagePart first staged items, 1 ≤ a.capacity := by
  have hitems : ∀ a ∈ items, 1 ≤ a.capacity := fun a ha => chuteArgOk_capacity (List.all_eq_true.1 hi a ha)
  unfold stagePart
  split
  · exact hitems
  · exact fun a ha => (List.mem_append.1 ha).elim (hs a) (hitems a)

theorem takeChutes_limits (g : Geometry) (a : CcfgArg) (s : State) : LimitsKept s (takeChutes g a s).state := by
  unfold takeChutes
  split
  · exact .refl s
  · rename_i hpart
    split
    · exact .refl s
    · rename_i hok
      split
      · exact .refl s
      · rename_i hgap
        have hlen : (stagePart a.first s.carts.staging a.chutes).length ≤ 64 :=
          stagePart_length (Bool.eq_true_of_not_eq_false hpart) hgap
        have hcap : s.CapacityLaw → ∀ x ∈ stagePart a.first s.carts.staging a.chutes, 1 ≤ x.capacity := by
          rintro ⟨-, hstaged, -⟩
          exact stagePart_capacity hstaged (Bool.eq_true_of_not_eq_false hok)
        split
        · exact installStaged_limits g a.first s hcap hlen
        · intro hs
          obtain ⟨hlaw, -, hchutes, -⟩ := id hs
          exact ⟨hlaw, hcap hs, hchutes, hlen⟩

theorem serveCcfg_limits (arg : Option CcfgArg) (s : State) : LimitsKept s (serveCcfg arg s).state := by
  unfold serveCcfg
  split
  · exact .refl s
  · split
    · exact .refl s
    · split
      · exact .refl s
      · exact takeChutes_limits _ _ s

theorem serveZload_cartsStand (arg : Option (List Zone)) (s : State) : CartsStand s (serveZload arg s).state := by
  unfold serveZload
  split
  · rfl
  · split
    · rfl
    · split <;> rfl

theorem takeRules_cartsStand (a : RloadArg) (rules : List Rule) (s : State) : CartsStand s (takeRules a rules s).state := by
  unfold takeRules
  split <;> rfl

theorem serveRload_cartsStand (arg : Option RloadArg) (s : State) : CartsStand s (serveRload arg s).state := by
  unfold serveRload
  split
  · rfl
  · split
    · rfl
    · split
      · rfl
      · split
        · rfl
        · split
          · rfl
          · exact takeRules_cartsStand _ _ s

theorem serveRset_cartsStand (arg : Option RsetArg) (s : State) : CartsStand s (serveRset arg s).state := by
  unfold serveRset
  split
  · rfl
  · split
    · rfl
    · split
      · rfl
      · split <;> rfl

/-! ## The manifest (R65 to R73, R116, R154) -/

theorem handAmend_limits (old new tag : Nat) (s : State) : LimitsKept s (handAmend old new tag s) :=
  .ite (.refl s) (manifestChange_limits _ _ s)

theorem insertEntry_cartsStand {e : Entry} (h : insertEntry e s = some t) : CartsStand s t := by
  obtain ⟨key, -, rfl⟩ := Option.map_eq_some_iff.1 h
  rfl

theorem putOne_limits (p : PutArg) (s : State) : LimitsKept s (putOne p s).1 := by
  unfold putOne
  split
  · exact .refl s
  · split
    · refine LimitsKept.trans ?_ (handAmend_limits _ _ _ _)
      exact .same rfl
    · split
      · exact (insertEntry_cartsStand ‹_›).limits
      · exact .refl s

theorem putAll_limits : ∀ (l : List PutArg) (s : State), LimitsKept s (putAll l s).1
  | [], s => .refl s
  | p :: rest, s => (putOne_limits p s).trans (putAll_limits rest _)

theorem serveMput_limits (arg : Option MputArg) (s : State) : LimitsKept s (serveMput arg s).state := by
  unfold serveMput
  split
  · split <;> exact .refl s
  · split
    · exact .refl s
    · split
      · exact .refl s
      · split
        · exact .refl s
        · exact putAll_limits _ s

theorem deleteOne_limits (tag : Nat) (s : State) : LimitsKept s (deleteOne tag s).1 := by
  unfold deleteOne
  split
  · exact .refl s
  · split
    · refine LimitsKept.trans ?_ (manifestChange_limits .delete tag _)
      exact .same rfl
    · exact .refl s

theorem deleteAll_limits : ∀ (l : List Nat) (s : State), LimitsKept s (deleteAll l s).1
  | [], s => .refl s
  | tag :: rest, s => (deleteOne_limits tag s).trans (deleteAll_limits rest _)

theorem serveMdel_limits (arg : Option MdelArg) (s : State) : LimitsKept s (serveMdel arg s).state := by
  unfold serveMdel
  split
  · exact .refl s
  · split
    · exact .refl s
    · split
      · exact .refl s
      · exact deleteAll_limits _ s

theorem holdTag_limits (tag : Nat) (s : State) : LimitsKept s (holdTag tag s).state := by
  unfold holdTag
  split
  · split
    · exact .refl s
    · refine LimitsKept.trans ?_ (manifestChange_limits .hold tag _)
      exact .same rfl
  · split
    · exact (insertEntry_cartsStand ‹_›).limits.trans (manifestChange_limits .hold tag _)
    · exact .refl s

theorem serveHold_limits (arg : Option Nat) (s : State) : LimitsKept s (serveHold arg s).state := by
  unfold serveHold
  split
  · exact .refl s
  · split
    · exact .refl s
    · split
      · exact holdTag_limits _ s
      · exact .refl s

theorem serveRlse_cartsStand (arg : Option Nat) (s : State) : CartsStand s (serveRlse arg s).state := by
  unfold serveRlse
  split
  · rfl
  · split
    · rfl
    · split
      · unfold releaseTag
        split <;> rfl
      · rfl

theorem serveFbld_cartsStand (s : State) : CartsStand s (serveFbld s).state := by
  unfold serveFbld
  split
  · rfl
  · split <;> rfl

theorem resolveStray_limits (a : SresArg) (s : State) : LimitsKept s (resolveStray a s).state := by
  unfold resolveStray
  split
  · exact .refl s
  · split
    · exact .refl s
    · split
      · refine LimitsKept.trans ?_ (LimitsKept.trans (handAmend_limits _ _ _ _) (.same rfl))
        exact .same rfl
      · split
        · rename_i u hu
          exact (insertEntry_cartsStand hu).limits.trans (.same rfl)
        · exact .refl s

theorem serveSres_limits (arg : Option SresArg) (s : State) : LimitsKept s (serveSres arg s).state := by
  unfold serveSres
  split
  · exact .refl s
  · split
    · exact .refl s
    · split
      · exact .refl s
      · split
        · exact .refl s
        · exact resolveStray_limits _ s

theorem serveSdel_cartsStand (arg : Option Nat) (s : State) : CartsStand s (serveSdel arg s).state := by
  unfold serveSdel
  split
  · rfl
  · split
    · rfl
    · split <;> rfl

/-! ## Trays, STOP and the line reset (R17, R26, R27, R193) -/

theorem disableTray_limits (k : Nat) (s : State) : LimitsKept s (disableTray k s).state := by
  unfold disableTray
  split
  · exact .refl s
  · split
    · exact (settleTray_cartsStand k _ s).limits.trans (moveScan_limits k _)
    · split <;> exact .refl s

theorem serveTcmdDisable_limits (arg : ActionArg) (s : State) : LimitsKept s (serveTcmdDisable arg s).state := by
  cases arg with
  | of k => exact disableTray_limits k s
  | short => exact .refl s
  | badAction => exact .refl s

theorem enableTray_limits (k : Nat) (s : State) : LimitsKept s (enableTray k s).state := by
  unfold enableTray
  split
  · exact .refl s
  · split
    · exact (settleTray_cartsStand k _ s).limits.trans (freshArm_limits _)
    · exact .refl s

theorem serveClrs_cartsStand (s : State) : CartsStand s (serveClrs s).state := by
  unfold serveClrs
  split
  · exact releaseLatch_cartsStand s
  · exact .refl s

/-- A line reset empties the queue and the confirmations of every chute (R115). -/
theorem lineReset_limits (s : State) : LimitsKept s (lineReset s) := by
  rw [lineReset_eq, resetBlocks_eq]
  refine .of_chutes (List.forall₂_map_right_iff.2 (List.forall₂_same.2 fun c _ hc => ?_)) rfl
  exact hc.same_state ⟨rfl, le_rfl, Nat.zero_le _, Nat.zero_le _⟩ rfl

end

end Sys2Proof.Machine
end

section
/-! # The law of the chutes and the law of the orders through every step -/

namespace Sys2Proof.Machine

open Sys2Proof

section
variable {s t : State}

/-! ## Time -/

theorem bucketScan_cartsStand (s : State) : CartsStand s (bucketScan s) := by
  unfold bucketScan
  split
  · rfl
  · split <;> rfl

theorem whenDue_limits (due : Bool) {event : State → State} (s : State) (h : LimitsKept s (event s)) :
    LimitsKept s (whenDue due event s) := .ite h (.refl s)

theorem expireDue_limits (j : Nat) (s : State) : LimitsKept s (expireDue j s) := by
  unfold expireDue
  split
  · exact .refl s
  · exact .foldl (fun s _ => expireOldest_limits j s) _ s

theorem portDue_limits (p : PortId) (s : State) : LimitsKept s (portDue p s) := by
  unfold portDue
  split
  · exact (whenDue_limits _ s (linkTimeout_limits p s)).trans (whenDue_limits _ _ (idleSend_cartsStand p _).limits)
  · exact whenDue_limits _ s (holdoffEnd_cartsStand p s).limits
  · exact whenDue_limits _ s (trainingSend_cartsStand p s).limits

theorem clockTick_limits (s : State) : LimitsKept s (clockTick s) := .same rfl

theorem settle_limits (s : State) : LimitsKept s (settle s) := .same rfl

theorem tick_limits (s : State) : LimitsKept s (tick s) := by
  refine LimitsKept.trans ?_ (settle_limits _)
  refine LimitsKept.trans (LimitsKept.trans ?_ (portDue_limits .up _)) (portDue_limits .down _)
  refine LimitsKept.trans ?_ (.foldl (fun s j => expireDue_limits j s) _ _)
  refine LimitsKept.trans ?_ (whenDue_limits _ _ (clockTick_limits _))
  exact LimitsKept.trans (bucketScan_cartsStand { s with now := s.now + 1 }).limits (whenDue_limits _ _ (speedSample_limits _))

/-! ## Every step -/

/-- No chute is configured after power-on reset, and none is staged (R115). -/
theorem capacityLaw_of_powerOn (h : t.carts = CartUnit.powerOn) : t.CapacityLaw := by
  simp [State.CapacityLaw, h, CartUnit.powerOn]

theorem done_limits {f : State → State} (h : LimitsKept s (f s)) (he : done (f s) = .next t) : LimitsKept s t := by
  rw [done_eq, Host.Outcome.next.injEq] at he
  exact he ▸ h.trans (settle_limits _)

/-- A served request keeps the law of the chutes if its owner does. -/
theorem serve_limits {hdr : ReqHdr} {r : Request} {owner : State → Served} (ho : ∀ s, LimitsKept s (owner s).state)
    (he : serve hdr r owner s = .next t) : LimitsKept s t := by
  rw [serve_eq, Host.Outcome.next.injEq] at he
  rw [← he]
  refine LimitsKept.trans ?_ (settle_limits _)
  split
  · exact (ho (dropRequest s) : LimitsKept s _).trans (.same rfl)
  · exact .refl s

theorem exec_limits (c : Instr) (he : exec c s = .next t) : LimitsKept s t := by
  cases c with
  | encoderStep ph => exact done_limits (encoderStep_limits ph s) he
  | homePulse => exact done_limits (homePulse_limits s) he
  | stopLevelChange held => exact done_limits (stopChange_cartsStand held s).limits he
  | powerOnReset straps =>
    exact done_limits (f := fun s => { State.powerOn straps s.pins with free := s.free, pending := s.pending })
      (fun _ => capacityLaw_of_powerOn rfl) he
  | speedSample => exact done_limits (speedSample_limits s) he
  | sessionClockTick => exact done_limits (clockTick_limits s) he
  | confirmationExpiry j => exact done_limits (expireOldest_limits j s) he
  | bucketScan => exact done_limits (bucketScan_cartsStand s).limits he
  | frameReceived p broken bytes => exact done_limits (frameReceived_limits p _ s) he
  | trainingFrame p => exact done_limits (trainingReceived_limits p s) he
  | idleFrame p => exact done_limits (idleReceived_cartsStand p s).limits he
  | linkTimeout p => exact done_limits (linkTimeout_limits p s) he
  | linkHoldoffEnd p => exact done_limits (holdoffEnd_cartsStand p s).limits he
  | trainingSend p => exact done_limits (trainingSend_cartsStand p s).limits he
  | idleSend p => exact done_limits (idleSend_cartsStand p s).limits he
  | downFrameTransmitted => exact done_limits (frameSent_limits .down s) he
  | upFrameTransmitted => exact done_limits (frameSent_limits .up s) he
  | brdy src b => exact done_limits (brdyOp_cartsStand src b s).limits he
  | ldon src b => exact done_limits (ldonOp_cartsStand src b s).limits he
  | tscn src b => exact done_limits (tscnOp_limits src b s) he
  | ceye src b => exact done_limits (ceyeOp_limits src b s) he
  | cout src b => exact done_limits (coutOp_limits src b s) he
  | cin src b => exact done_limits (cinOp_limits src b s) he
  | cflt src b => exact done_limits (cfltOp_limits src b s) he
  | cclr src b => exact done_limits (cclrOp_limits src b s) he
  | requestIntake hdr r => exact done_limits (takeRequest_cartsStand hdr r s).limits he
  | stat hdr arg => exact serve_limits (fun s => .same (by rw [serveStat_state])) he
  | modeOpen hdr arg => exact serve_limits (serveOpen_limits arg) he
  | modeShadow hdr => exact serve_limits serveShadow_limits he
  | modeSetup hdr => exact serve_limits serveSetup_limits he
  | modeSort hdr => exact serve_limits serveSort_limits he
  | modeDrain hdr => exact serve_limits serveDrain_limits he
  | modeClose hdr => exact serve_limits serveClose_limits he
  | lcfg hdr arg => exact serve_limits (serveLcfg_limits arg) he
  | ccfg hdr arg => exact serve_limits (serveCcfg_limits arg) he
  | zload hdr arg => exact serve_limits (fun s => (serveZload_cartsStand arg s).limits) he
  | rload hdr arg => exact serve_limits (fun s => (serveRload_cartsStand arg s).limits) he
  | rset hdr arg => exact serve_limits (fun s => (serveRset_cartsStand arg s).limits) he
  | mput hdr arg => exact serve_limits (serveMput_limits arg) he
  | mdel hdr arg => exact serve_limits (serveMdel_limits arg) he
  | mget hdr arg => exact serve_limits (fun s => .same (by rw [serveMget_state])) he
  | hold hdr arg => exact serve_limits (serveHold_limits arg) he
  | rlse hdr arg => exact serve_limits (fun s => (serveRlse_cartsStand arg s).limits) he
  | fbld hdr => exact serve_limits (fun s => (serveFbld_cartsStand s).limits) he
  | ccmdOpen hdr arg => exact serve_limits (serveCcmdOpen_limits arg) he
  | ccmdClose hdr j => exact serve_limits (fun s => commandChute_limits j s fun _ hc => closeChute_limits hc) he
  | ccmdForceClose hdr j => exact serve_limits (fun s => commandChute_limits j s fun c _ => forceCommand_limits j c s) he
  | ccmdClearFault hdr j => exact serve_limits (fun s => commandChute_limits j s fun _ hc => clearFault_limits hc) he
  | tcmdDisable hdr arg => exact serve_limits (serveTcmdDisable_limits arg) he
  | tcmdEnable hdr k => exact serve_limits (enableTray_limits k) he
  | crd hdr arg => exact serve_limits (fun s => .same (by rw [serveCrd_state])) he
  | srd hdr arg => exact serve_limits (fun s => .same (by rw [serveSrd_state])) he
  | sres hdr arg => exact serve_limits (serveSres_limits arg) he
  | sdel hdr arg => exact serve_limits (fun s => (serveSdel_cartsStand arg s).limits) he
  | sstp hdr => exact serve_limits (fun s => (setLatch_cartsStand .sstp s).limits) he
  | clrs hdr => exact serve_limits (fun s => (serveClrs_cartsStand s).limits) he
  | lrst hdr =>
    exact done_limits
      (f := fun s => if s.mayServe hdr .lrst then lineReset (pushReply hdr .lrst .done [] (dropRequest s)) else s)
      (.ite (lineReset_limits (pushReply hdr .lrst .done [] (dropRequest s))) (.refl s)) he
  | bothPhasesChangeTogether => exact done_limits (bothChange_limits s) he

theorem step_limits (h : step s = .next t) : LimitsKept s t := by
  unfold step at h
  split at h
  · rw [Host.Outcome.next.injEq] at h
    exact h ▸ tick_limits s
  · rename_i c rest _
    exact exec_limits (s := { s with pending := rest }) c h

end

/-- Settles O46: an order joins a queue only where the chute accepts it, an entry joins a cart only where its order left the
queue, and the FULL test follows each; every other operation leaves a chute holding no more. The law of the orders is that of
`step_keeps`. -/
theorem capacityLawIsKept : Obligations.CapacityLawIsKept := by
  unfold Obligations.CapacityLawIsKept
  exact fun s t h => ⟨step_limits h, (step_keeps h).orders⟩

end Sys2Proof.Machine
end
